-- ==== Sys2Proof/Word.lean ====
section
/-! DEFINITION. The words of the Glethan 416 (00_scope R1, 01 R2): the bit vectors the manual moves as bits, and
small tables of two to seven like things. Nothing here decides anything. -/

namespace Sys2Proof

/-- A memory word: 32 bits, octet 0 the most significant (R1). -/
abbrev Word := BitVec 32

/-- An octet. -/
abbrev Octet := BitVec 8

/-- A raw reading: the 64-bit raw count in fine units (R38, R39). -/
abbrev Raw := BitVec 64

/-- A 64-bit identifier: source, requester, local or expected (R22). -/
abbrev Ident := BitVec 64

/-- A memory word address (R3). -/
abbrev WordAddress := BitVec 22

/-- The four byte enables of a word: bit 3 is octet 0, the most significant, bit 0 is octet 3 (R2). -/
abbrev Enables := BitVec 4

/-- A port number 0-5. -/
abbrev Port := Fin 6

/-- The direction of a fabric access (R2). -/
inductive Direction where
  | read
  | write
  deriving DecidableEq, Repr

/-- The table of two values of `f`. -/
def tab2 {α : Type} (f : Fin 2 → α) : Vector α 2 := #v[f 0, f 1]

/-- The table of four values of `f`. -/
def tab4 {α : Type} (f : Fin 4 → α) : Vector α 4 := #v[f 0, f 1, f 2, f 3]

/-- The table of six values of `f`. -/
def tab6 {α : Type} (f : Fin 6 → α) : Vector α 6 := #v[f 0, f 1, f 2, f 3, f 4, f 5]

/-- The table of seven values of `f`. -/
def tab7 {α : Type} (f : Fin 7 → α) : Vector α 7 := #v[f 0, f 1, f 2, f 3, f 4, f 5, f 6]

/-- The table of eight values of `f`. -/
def tab8 {α : Type} (f : Fin 8 → α) : Vector α 8 := #v[f 0, f 1, f 2, f 3, f 4, f 5, f 6, f 7]

/-- The six ports in order. -/
def allPorts : List Port := [0, 1, 2, 3, 4, 5]

end Sys2Proof
end

