-- ==== Sys2Proof/Syntax.lean ====
section
/-! DEFINITION. The commands of the part: one constructor for each row of spec/opcode_table.json, in the table's order.
A word's address is not an operand: it is the next address of the access in progress (R2). A software command is the
word-0 write of a slot (R165), so its operands here are the tag and immediate of that word; the other operands stand in
the slot's shadow. The command code is the row itself. -/

namespace Sys2Proof

/-- The commands and events the part takes. -/
inductive Instr where
  /-- HARDWARE_RESET: the reset pin is asserted (R15, R18). -/
  | hardwareReset
  /-- RESET_RELEASE: the reset pin is released; the strap value, the bypass strap and the levels the first tick finds
  at I0 and I1 (R8, R16, R137). -/
  | resetRelease (base : BitVec 8) (bypass : Bool) (level0 level1 : Bool)
  /-- FABRIC_ACCESS_REQUEST: a 26-bit address (lane field in bits 25-22), a direction, a burst length of 1-16 (R2). -/
  | fabricAccessRequest (address : BitVec 26) (direction : Direction) (length : Nat)
  /-- FABRIC_WORD_PASS: the next word passes and reaches no block; enables and data are those of a write (R3). -/
  | fabricWordPass (enables : Enables) (data : Word)
  /-- SHADOW_WRITE: the next word is a processor-lane write to word 1-7 of a slot (R164). -/
  | shadowWrite (enables : Enables) (data : Word)
  /-- CELL_WORD_WRITE: the next word is a write to a pool cell (R5). -/
  | cellWordWrite (enables : Enables) (data : Word)
  /-- CELL_WORD_READ: the next word is an egress-lane read of a pool cell (R61). -/
  | cellWordRead
  /-- FABRIC_ACCESS_END: the access in progress ends (R13). -/
  | fabricAccessEnd
  /-- REPORT_BURST_END: the trailing generation word of the burst is written (R12). -/
  | reportBurstEnd
  /-- ROLLOVER: station time passes a whole second (R45). -/
  | rollover
  /-- ENTRY_AGE_EXPIRY of the entry with this place in the allocation order (R70). -/
  | entryAgeExpiry (order : Nat)
  /-- PROBE_RECORD_EXPIRY of the record of this sequence on this port (R95). -/
  | probeRecordExpiry (port : Port) (sequence : BitVec 16)
  /-- RESPONDER_RECORD_EXPIRY of the record of this sequence and source on this port (R99). -/
  | responderRecordExpiry (port : Port) (sequence : BitVec 16) (source : Ident)
  /-- MISSING_TIMER_EXPIRY (R114). -/
  | missingTimerExpiry
  /-- HOLDOVER_TIMER_EXPIRY (R127). -/
  | holdoverTimerExpiry
  /-- PULSE_LEADING_INSTANT of an output (R145). -/
  | pulseLeadingInstant (output : Fin 4)
  /-- PULSE_TRAILING_INSTANT of an output (R145). -/
  | pulseTrailingInstant (output : Fin 4)
  /-- ACTIVE_EDGE at an input (R137). -/
  | activeEdge (input : Fin 2)
  /-- TIME_SET, code 0x01 (R48). -/
  | timeSet (tag : BitVec 8) (imm : BitVec 16)
  /-- TIME_STEP, code 0x02; the immediate is the step fraction (R49). -/
  | timeStep (tag : BitVec 8) (imm : BitVec 16)
  /-- RATE_SET, code 0x03 (R50). -/
  | rateSet (tag : BitVec 8) (imm : BitVec 16)
  /-- TABLE_FLUSH, code 0x10 (R71). -/
  | tableFlush (tag : BitVec 8) (imm : BitVec 16)
  /-- PATH_CLEAR, code 0x20; immediate bits 5-0 are the port mask (R107). -/
  | pathClear (tag : BitVec 8) (imm : BitVec 16)
  /-- DISCIPLINE_RELATCH, code 0x30 (R117). -/
  | disciplineRelatch (tag : BitVec 8) (imm : BitVec 16)
  /-- DISCIPLINE_HOLD, code 0x31; immediate bit 0 is the setting (R130). -/
  | disciplineHold (tag : BitVec 8) (imm : BitVec 16)
  /-- CAPTURE_ACK, code 0x40; immediate bits 1-0 are the input mask (R140). -/
  | captureAck (tag : BitVec 8) (imm : BitVec 16)
  /-- CAPTURE_TEST, code 0x41; immediate bit 0 is the input (R141). -/
  | captureTest (tag : BitVec 8) (imm : BitVec 16)
  /-- PROFILE_WRITE, code 0x50 (R156). -/
  | profileWrite (tag : BitVec 8) (imm : BitVec 16)
  /-- PROFILE_COPY, code 0x51 (R157). -/
  | profileCopy (tag : BitVec 8) (imm : BitVec 16)
  /-- PROFILE_SWAP, code 0x52, with mode 0: `high` is immediate bits 15-1, which the part ignores (R158). -/
  | profileSwapImmediate (tag : BitVec 8) (high : BitVec 15)
  /-- PROFILE_SWAP, code 0x52, with mode 1 (R159). -/
  | profileSwapAtSecond (tag : BitVec 8) (high : BitVec 15)
  /-- PROFILE_CANCEL, code 0x53 (R161). -/
  | profileCancel (tag : BitVec 8) (imm : BitVec 16)
  /-- FLAG_CLEAR, code 0x60; the immediate is the flag mask (R169). -/
  | flagClear (tag : BitVec 8) (imm : BitVec 16)
  /-- FLAG_ENABLE, code 0x61; the immediate is the enable mask (R169). -/
  | flagEnable (tag : BitVec 8) (imm : BitVec 16)
  /-- REPORT_NOW, code 0x62 (R174). -/
  | reportNow (tag : BitVec 8) (imm : BitVec 16)
  /-- RESTART, code 0x7F (R175). -/
  | restart (tag : BitVec 8) (imm : BitVec 16)
  /-- UNKNOWN_COMMAND: a word-0 write whose code names no command (R165). -/
  | unknownCommand (code tag : BitVec 8) (imm : BitVec 16)
  /-- INPUT_LEVEL_CHANGE: a change at an input against its active direction (R137). -/
  | inputLevelChange (input : Fin 2)
  deriving DecidableEq, Repr

end Sys2Proof
end

