-- ==== Sys2Proof/Decode.lean ====
section
/-! DEFINITION. The command a word spells (10 R165; section 11.2). No row of spec/opcode_table.json gives bits: the part is
reached by accesses and pins. The one word that spells a row is the 32-bit word-0 write of a command slot, whose code
names the software command. -/

namespace Sys2Proof

/-- The command code of a word-0 write, bits 31-24 (section 11.2). -/
def wordCode (w : BitVec 32) : BitVec 8 := w.extractLsb' 24 8

/-- The tag of a word-0 write, bits 23-16 (section 11.2). -/
def wordTag (w : BitVec 32) : BitVec 8 := w.extractLsb' 16 8

/-- The immediate of a word-0 write, bits 15-0 (section 11.2). -/
def wordImm (w : BitVec 32) : BitVec 16 := w.extractLsb' 0 16

/-- The command that the Command Monitor reads from a word-0 write, by its code; code 0 and every code that is not in the
list of section 11.2 is UNKNOWN_COMMAND (R165). Immediate bit 0 of PROFILE_SWAP tells its two modes apart (R158, R159). -/
def commandOfWord (w : BitVec 32) : Instr :=
  let tag := wordTag w
  let imm := wordImm w
  match (wordCode w).toNat with
  | 0x01 => .timeSet tag imm
  | 0x02 => .timeStep tag imm
  | 0x03 => .rateSet tag imm
  | 0x10 => .tableFlush tag imm
  | 0x20 => .pathClear tag imm
  | 0x30 => .disciplineRelatch tag imm
  | 0x31 => .disciplineHold tag imm
  | 0x40 => .captureAck tag imm
  | 0x41 => .captureTest tag imm
  | 0x50 => .profileWrite tag imm
  | 0x51 => .profileCopy tag imm
  | 0x52 =>
    if imm.getLsbD 0 then .profileSwapAtSecond tag (imm.extractLsb' 1 15) else .profileSwapImmediate tag (imm.extractLsb' 1 15)
  | 0x53 => .profileCancel tag imm
  | 0x60 => .flagClear tag imm
  | 0x61 => .flagEnable tag imm
  | 0x62 => .reportNow tag imm
  | 0x7F => .restart tag imm
  | _ => .unknownCommand (wordCode w) tag imm

/-- The command that a 32-bit word spells as the word-0 write of a slot (section 11.2); no other length spells one. -/
def decodeTableWord (nbits w : Nat) : Option Instr :=
  if nbits = 32 ∧ w < 4294967296 then some (commandOfWord (BitVec.ofNat 32 w)) else none

end Sys2Proof
end

