-- ==== Sys2Proof/Config.lean ====
section
/-! DEFINITION. What the spec leaves open: free values, with no body, so that nothing can be proved of them. -/

namespace Sys2Proof.Config

/-- FREE VALUE (log 7). How many words of an abandoned report burst had been written when the reset pin was asserted:
R15 says the burst "is abandoned after the last word it had written" and no rule says how fast words are written.
Applied to the counter `State.freeIndex`. -/
opaque burstWordsWritten : Nat → Nat

end Sys2Proof.Config
end

