-- ==== Sys2Proof/Machine/Profile.lean ====
section
/-! DEFINITION. The items of a profile (section 9.3) and the default profile (R155). Numbers are held as the manual's
numbers; the asymmetry is held as its 24-bit two's complement value (R79), type codes, domains, the frame version and
identifiers as the bits they are compared as. -/

namespace Sys2Proof.Machine

/-- The delay mode of a port (R92). -/
inductive DelayMode where
  | none
  | link
  deriving DecidableEq, Repr

/-- The rounding mode (R85). -/
inductive RoundingMode where
  | nearestEven
  | towardZero
  | upward
  | downward
  deriving DecidableEq, Repr

/-- The unordered policy (R103). -/
inductive UnorderedPolicy where
  | quiet
  | signal
  deriving DecidableEq, Repr

/-- The source mode of the discipline (R113). -/
inductive SourceMode where
  | network
  | input
  | networkThenInput
  deriving DecidableEq, Repr

/-- The polarity of a capture input (R137). -/
inductive EdgePolarity where
  | rising
  | falling
  deriving DecidableEq, Repr

/-- The polarity of a pulse output (R145). -/
inductive PulsePolarity where
  | activeHigh
  | activeLow
  deriving DecidableEq, Repr

/-- The gating of a pulse output (R147). -/
inductive Gating where
  | always
  | validOnly
  | lockedOnly
  deriving DecidableEq, Repr

/-- The six items of a pool window (R10). -/
structure PoolWindow where
  enable : Bool
  base : Nat
  cellSize : Nat
  cellCount : Nat
  ingressTracking : Bool
  processorTracking : Bool
  deriving DecidableEq, Repr

/-- The three items of an exclusion window (R9). -/
structure ExclusionWindow where
  enable : Bool
  base : Nat
  size : Nat
  deriving DecidableEq, Repr

/-- An entry of the domain list (R25). -/
structure DomainEntry where
  value : BitVec 8
  enable : Bool
  deriving DecidableEq, Repr

/-- The items of a port (section 9.3, Ports). -/
structure PortItems where
  latencyIn : Nat
  latencyOut : Nat
  asymmetry : BitVec 24
  delayMode : DelayMode
  upstreamEligible : Bool
  deriving DecidableEq, Repr

/-- The items of the discipline (section 9.3, Discipline). -/
structure DisciplineItems where
  enable : Bool
  mode : SourceMode
  expected : Ident
  stepThreshold : Nat
  lockThreshold : Nat
  gateLimit : Nat
  missingTimeout : Nat
  holdoverLimit : Nat
  kp : Nat
  ki : Nat
  rateLimit : Nat
  deriving DecidableEq, Repr

/-- The items of a capture input (section 8.1). -/
structure CaptureItems where
  enable : Bool
  polarity : EdgePolarity
  inputDelay : Int
  deriving DecidableEq, Repr

/-- The items of a pulse output (section 8.3), as stored. -/
structure PulseItems where
  period : Nat
  offset : Nat
  width : Nat
  polarity : PulsePolarity
  gating : Gating
  deriving DecidableEq, Repr

/-- One complete profile: every item of section 9.3. -/
structure Profile where
  pool : Vector PoolWindow 4
  exclusion : Vector ExclusionWindow 2
  ageLimit : Nat
  frameType : BitVec 16
  tagType : BitVec 16
  version : BitVec 4
  domains : Vector DomainEntry 4
  localId : Ident
  rounding : RoundingMode
  ports : Vector PortItems 6
  defaultDelay : Nat
  delayMax : Nat
  windowLength : Nat
  probeTimeout : Nat
  unordered : UnorderedPolicy
  discipline : DisciplineItems
  inputs : Vector CaptureItems 2
  outputs : Vector PulseItems 4
  deriving DecidableEq, Repr

/-- The default profile (R155): every item at the default of section 9.3. -/
def defaultProfile : Profile where
  pool := tab4 fun _ => { enable := false, base := 0, cellSize := 16, cellCount := 1, ingressTracking := false, processorTracking := false }
  exclusion := tab2 fun _ => { enable := false, base := 0, size := 1 }
  ageLimit := 20
  frameType := 0x0000
  tagType := 0x0000
  version := 0
  domains := tab4 fun _ => { value := 0, enable := false }
  localId := 0
  rounding := .nearestEven
  ports := tab6 fun _ => { latencyIn := 0, latencyOut := 0, asymmetry := 0, delayMode := .none, upstreamEligible := false }
  defaultDelay := 0
  delayMax := 10000
  windowLength := 4
  probeTimeout := 100
  unordered := .signal
  discipline :=
    { enable := false, mode := .network, expected := 0, stepThreshold := 1000000, lockThreshold := 1000,
      gateLimit := 100000, missingTimeout := 30, holdoverLimit := 3600, kp := 2, ki := 6, rateLimit := 100 }
  inputs := tab2 fun _ => { enable := false, polarity := .rising, inputDelay := 0 }
  outputs := tab4 fun _ => { period := 0, offset := 0, width := 100, polarity := .activeHigh, gating := .validOnly }

/-- The lengths, in fine units, of the four timers of R40 under a profile; a holdover limit of 0 is no limit (R127). -/
structure TimerLimits where
  age : Nat
  probe : Nat
  missing : Nat
  holdover : Option Nat
  deriving DecidableEq, Repr

/-- The timer lengths a profile sets: 1 ms is 65,536,000,000 fn and 1 s is 65,536,000,000,000 fn (R40); the probe timeout
counts 10 ms (R95), the missing timeout 100 ms (R114), the holdover limit seconds (R127). -/
def Profile.timerLimits (p : Profile) : TimerLimits where
  age := p.ageLimit * 65536000000
  probe := p.probeTimeout * 655360000000
  missing := p.discipline.missingTimeout * 6553600000000
  holdover := if p.discipline.holdoverLimit = 0 then none else some (p.discipline.holdoverLimit * 65536000000000)

end Sys2Proof.Machine
end

