-- ==== Sys2Proof/Machine/State.lean ====
section
/-! DEFINITION. The state of the part, block by block (INVENTORY.md, State), and the state after hardware reset. -/

namespace Sys2Proof.Machine

/-- Station time: seconds modulo 2^32, nanoseconds below 1,000,000,000, a 16-bit fraction in fine units (R1, R41). -/
structure StationTime where
  sec : BitVec 32
  ns : Fin 1000000000
  frac : BitVec 16
  deriving DecidableEq, Repr

/-- 0 s, 0 ns, fraction 0. -/
def StationTime.zero : StationTime := { sec := 0, ns := 0, frac := 0 }

/-- The SRAM behind the memory port, as the octets that differ from what unwritten memory reads as, octet addresses
rising (R3; log 5). -/
structure Memory where
  cells : List Host.Cell
  deriving DecidableEq, Repr

/-- One word at the memory port: a write with its enables and data, or a read (R3). -/
inductive PortWord where
  | write (address : WordAddress) (enables : Enables) (data : Word)
  | read (address : WordAddress)
  deriving DecidableEq, Repr

/-- What the two ports showed last: the memory port's last word, and the last read word returned to the fabric (R3). -/
structure PortOutputs where
  memory : Option PortWord
  fabric : Option Word
  deriving DecidableEq, Repr

/-- The straps as sampled at reset release (R8, R16). -/
structure Straps where
  base : BitVec 8
  bypass : Bool
  deriving DecidableEq, Repr

/-- The arbiter's owner (R12). -/
inductive Owner where
  | idle
  | fabric
  | report
  deriving DecidableEq, Repr

/-- A fabric access (R2): lane, start word, direction, length, how many of its words have passed, and whether its first
word passed while the part was held in reset, so that it passes whole undecoded (R18). -/
structure Access where
  lane : BitVec 4
  start : WordAddress
  direction : Direction
  length : Nat
  passed : Nat
  passThrough : Bool
  deriving DecidableEq, Repr

/-- The eleven block kinds (section 10.4). -/
inductive BlockKind where
  | status
  | discipline
  | port (p : Port)
  | commands
  | captures
  | counters
  deriving DecidableEq, Repr

/-- A report burst in progress: its block and the words it took at its start, with their addresses (R172). -/
structure Burst where
  kind : BlockKind
  words : List (WordAddress × Word)
  deriving DecidableEq, Repr

/-- The memory-port arbiter (section 1.7). -/
structure Arbiter where
  owner : Owner
  waitCount : Nat
  current : Option Access
  waiting : List Access
  burst : Option Burst
  deriving DecidableEq, Repr

/-- The windows the Path Decoder decodes with (R6, R17). -/
structure WindowSet where
  pool : Vector PoolWindow 4
  exclusion : Vector ExclusionWindow 2
  deriving DecidableEq, Repr

/-- A cell key: window number and cell index (R7). -/
structure CellKey where
  window : Fin 4
  index : Nat
  deriving DecidableEq, Repr

/-- A captured word: its octets, and which of them are present (bit 3 for octet 0, as in enables) (R28). -/
structure CapturedWord where
  data : Word
  present : BitVec 4
  deriving DecidableEq, Repr

/-- A word of which no octet is present. -/
def CapturedWord.empty : CapturedWord := { data := 0, present := 0 }

/-- The header offset h of a time frame: 4 untagged, 5 tagged (R20). -/
inductive HeaderOffset where
  | four
  | five
  deriving DecidableEq, Repr

/-- The four tracked kinds of frame (R22). -/
inductive FrameKind where
  | mark
  | probe
  | echo
  | detail
  deriving DecidableEq, Repr

/-- A candidate of the Frame Recognizer (section 2.4). `header` is absent while the type is undecided. `allocated` is absent until
the allocation decision has been taken, and then holds the kind it was taken with: a decision is not undone by a later write
(R30), and the kind says which words completion needs and what it hands over (R32; log 12). -/
structure Candidate where
  key : CellKey
  arrival : Raw
  words : Vector CapturedWord 15
  header : Option HeaderOffset
  allocated : Option FrameKind
  deriving DecidableEq, Repr

/-- The lane class that starts a tracked frame: the processor or the ingress engine of a port (R33). -/
inductive Origin where
  | processor
  | ingress (p : Port)
  deriving DecidableEq, Repr

/-- The state of an entry (section 4.1). -/
inductive EntryState where
  | opened
  | complete
  | detached
  deriving DecidableEq, Repr

/-- The port values an ingress MARK entry takes at allocation (R55). -/
structure Snapshot where
  latencyIn : Nat
  asymmetry : BitVec 24
  delay : Nat
  deriving DecidableEq, Repr

/-- The link of an entry (R65, R66): absent, the entry with that place in the allocation order, or ended. -/
inductive Link where
  | absent
  | entry (order : Nat)
  | ended
  deriving DecidableEq, Repr

/-- An egress slot (section 4.3), with the raw_out and the held value its state has. -/
inductive Slot where
  | idle
  | timed (rawOut : Raw)
  | patched (rawOut : Raw) (held : BitVec 64)
  | summed (rawOut : Raw) (sum : Int)
  | passed (rawOut : Option Raw)
  deriving DecidableEq, Repr

/-- An entry of the Residence Table (section 4.1). `copy` holds cell words h+2 to h+9. -/
structure Entry where
  order : Nat
  state : EntryState
  key : CellKey
  header : HeaderOffset
  origin : Origin
  kind : FrameKind
  detailFollows : Bool
  sequence : BitVec 16
  domain : BitVec 8
  copy : Vector CapturedWord 8
  rawIn : Raw
  snapshot : Option Snapshot
  link : Link
  slots : Vector Slot 6
  deriving DecidableEq, Repr

/-- The Residence Table: its entries, oldest allocation first, and the next place in the allocation order (R53). -/
structure ResidenceTable where
  entries : List Entry
  nextOrder : Nat
  deriving DecidableEq, Repr

/-- A Probe List record (R93). -/
structure ProbeRecord where
  sequence : BitVec 16
  t1 : Raw
  deriving DecidableEq, Repr

/-- A Responder List record (R96). -/
structure ResponderRecord where
  sequence : BitVec 16
  source : Ident
  t2 : Raw
  deriving DecidableEq, Repr

/-- The Delay Unit's state of one port (chapter 06): lists and ring oldest first, D(p) and delay valid. -/
structure PortDelay where
  probes : List ProbeRecord
  responders : List ResponderRecord
  ring : List Nat
  delay : Nat
  valid : Bool
  deriving DecidableEq, Repr

/-- The Time Base (chapter 03). `secondsSeen` is the seconds of station time at the tick before, or since the last
rollover given in this tick: what R45 compares with. -/
structure TimeBase where
  raw : Raw
  anchorRaw : Raw
  anchorStation : StationTime
  rho : Int
  secondsSeen : BitVec 32
  deriving DecidableEq, Repr

/-- The discipline states (section 7.4). -/
inductive DisciplineState where
  | freeRun
  | acquire
  | locked
  | holdover
  deriving DecidableEq, Repr

/-- The active source (R113). -/
inductive ActiveSource where
  | none
  | network
  | input
  deriving DecidableEq, Repr

/-- A Seen-Mark record (R118). -/
structure SeenMark where
  source : Ident
  sequence : BitVec 16
  port : Port
  tw : StationTime
  cIn : BitVec 64
  asymmetry : BitVec 24
  delay : Nat
  awaiting : Bool
  deriving DecidableEq, Repr

/-- The class of the last sample (section 11.4, Discipline block). -/
inductive SampleClass where
  | updated
  | stepped
  | above
  | unordered
  deriving DecidableEq, Repr

/-- Where a sample came from (R132). -/
inductive SampleOrigin where
  | network (p : Port)
  | input
  deriving DecidableEq, Repr

/-- The last sample (R132); θ is 0 for an UNORDERED one (section 11.4). -/
structure LastSample where
  cls : SampleClass
  theta : Int
  origin : SampleOrigin
  deriving DecidableEq, Repr

/-- The Discipline Unit (chapter 07). The timers are stopped, or hold their start reading (R40). -/
structure Discipline where
  state : DisciplineState
  source : ActiveSource
  latched : Option Ident
  seen : List SeenMark
  rhoI : Int
  lockCount : Nat
  rejectCount : Nat
  hold : Bool
  missing : Option Raw
  holdover : Option Raw
  last : Option LastSample
  deriving DecidableEq, Repr

/-- Where an input stands in the sampling of once a tick (R137): before the first tick after reset release, which takes
the level without an edge; sampled at this tick with a level that was taken; or at a tick that may still bring a change. -/
inductive Sampling where
  | starting
  | taken
  | ready
  deriving DecidableEq, Repr

/-- A capture input: its record (section 8.1), the level sampled last, true for high, and how this tick's sample stands
(R137). -/
structure CaptureInput where
  time : StationTime
  count : BitVec 16
  pending : Bool
  level : Bool
  sampling : Sampling
  deriving DecidableEq, Repr

/-- Pulse settings in force, in nanoseconds: P, effective offset, effective width (R144). -/
structure PulseSettings where
  period : Nat
  offset : Nat
  width : Nat
  deriving DecidableEq, Repr

/-- A schedule: its settings in force and its next leading instant (section 8.3). -/
structure PulseSchedule where
  settings : PulseSettings
  next : StationTime
  deriving DecidableEq, Repr

/-- A pulse output: off or a schedule, and the trailing instant of an active pulse (section 8.3). -/
structure PulseOutput where
  schedule : Option PulseSchedule
  trailing : Option StationTime
  deriving DecidableEq, Repr

/-- The letter of a bank (R152). -/
inductive BankName where
  | a
  | b
  deriving DecidableEq, Repr

/-- The swap request (R152): none, waiting for the end of its access, or pending with the slot that gave it. -/
inductive SwapRequest where
  | none
  | waiting
  | pending (slot : Fin 16)
  deriving DecidableEq, Repr

/-- The Profile Store (R152). -/
structure ProfileStore where
  bankA : Profile
  bankB : Profile
  active : BankName
  swap : SwapRequest
  deriving DecidableEq, Repr

/-- The result codes (R166, section 11.2). -/
inductive CommandResult where
  | none
  | done
  | clamped
  | pending
  | cancelled
  | busy
  | unknownCommand
  | badItem
  | wrongState
  deriving DecidableEq, Repr

/-- A slot status word: result, echoed tag, echoed code (R166). -/
structure SlotStatus where
  result : CommandResult
  tag : BitVec 8
  code : BitVec 8
  deriving DecidableEq, Repr

/-- The Command Monitor: the shadows of words 1-7 and the status words of slots 0-15 (R164, R166). -/
structure CommandMonitor where
  shadows : Vector (Vector Word 7) 16
  status : Vector SlotStatus 16
  deriving DecidableEq, Repr

/-- The sixteen flags (section 10.2). -/
inductive Flag where
  | untracked
  | order
  | saturated
  | unknownTransit
  | detailUnmatched
  | echoUnmatched
  | probeLost
  | echoStray
  | delayRejected
  | foreignSource
  | sampleRejected
  | stepped
  | holdover
  | freeRun
  | captureOverrun
  | reportForced
  deriving DecidableEq, Repr

/-- The seven global counters (R170). -/
structure GlobalCounters where
  untracked : BitVec 32
  aged : BitVec 32
  rewrites : BitVec 32
  versionMismatch : BitVec 32
  samplesAccepted : BitVec 32
  samplesRejected : BitVec 32
  duplicates : BitVec 32
  deriving DecidableEq, Repr

/-- The five counters of a port (R170). -/
structure PortCounters where
  tracked : BitVec 32
  patched : BitVec 32
  passed : BitVec 32
  delayAccepted : BitVec 32
  delayRejected : BitVec 32
  deriving DecidableEq, Repr

/-- The Report Writer (chapter 10): request queue, generation counts by block number, flags and enables by flag number,
counters. -/
structure ReportWriter where
  queue : List BlockKind
  generations : Vector (BitVec 32) 11
  flags : BitVec 16
  enables : BitVec 16
  globals : GlobalCounters
  ports : Vector PortCounters 6
  deriving DecidableEq, Repr

/-- The state of the part, and the queue of the commands that wait. `tickLimits`, `freeIndex` and `pending` are the
model's own (INVENTORY.md). -/
structure State where
  resetHeld : Bool
  straps : Straps
  memory : Memory
  ports : PortOutputs
  arbiter : Arbiter
  decode : WindowSet
  candidates : Vector (Option Candidate) 7
  table : ResidenceTable
  delays : Vector PortDelay 6
  time : TimeBase
  disc : Discipline
  captures : Vector CaptureInput 2
  pulses : Vector PulseOutput 4
  profiles : ProfileStore
  monitor : CommandMonitor
  report : ReportWriter
  tickLimits : TimerLimits
  freeIndex : Nat
  pending : List Instr
  deriving DecidableEq, Repr

/-- Why a step stops with a fault. -/
inductive Fault where
  /-- Raised by FABRIC_ACCESS_REQUEST whose burst length is not 1 to 16: R2 knows no such access. Safe: the model stops
  where the spec describes nothing (log 9). -/
  | burstLength
  deriving DecidableEq, Repr

/-- Why a step refuses a command. -/
inductive Refusal where
  /-- Raised by `exec` for a command that has no meaning yet. Safe. No command is refused in this model. -/
  | notModelled (mnemonic : String)
  deriving DecidableEq, Repr

/-- The eleven block kinds in block order (section 10.4). -/
def allBlocks : List BlockKind :=
  [.status, .discipline, .port 0, .port 1, .port 2, .port 3, .port 4, .port 5, .commands, .captures, .counters]

/-- All global counters at 0 (R170). -/
def GlobalCounters.zero : GlobalCounters :=
  { untracked := 0, aged := 0, rewrites := 0, versionMismatch := 0, samplesAccepted := 0, samplesRejected := 0, duplicates := 0 }

/-- All counters of a port at 0 (R170). -/
def PortCounters.zero : PortCounters :=
  { tracked := 0, patched := 0, passed := 0, delayAccepted := 0, delayRejected := 0 }

/-- The part after hardware reset with the reset pin still held: every register at its "after hardware reset" value
(R15, R18, R51, R73, R111, R135, R143, R151, R152, R155, R176). The straps and input levels are sampled at release
(log 3, log 4). -/
def State.reset : State where
  resetHeld := true
  straps := { base := 0, bypass := false }
  memory := { cells := [] }
  ports := { memory := none, fabric := none }
  arbiter := { owner := .idle, waitCount := 0, current := none, waiting := [], burst := none }
  decode := { pool := defaultProfile.pool, exclusion := defaultProfile.exclusion }
  candidates := tab7 fun _ => none
  table := { entries := [], nextOrder := 0 }
  delays := tab6 fun _ => { probes := [], responders := [], ring := [], delay := 0, valid := false }
  time := { raw := 0, anchorRaw := 0, anchorStation := .zero, rho := 0, secondsSeen := 0 }
  disc :=
    { state := .freeRun, source := .none, latched := none, seen := [], rhoI := 0, lockCount := 0, rejectCount := 0,
      hold := false, missing := none, holdover := none, last := none }
  captures := tab2 fun _ => { time := .zero, count := 0, pending := false, level := false, sampling := .starting }
  pulses := tab4 fun _ => { schedule := none, trailing := none }
  profiles := { bankA := defaultProfile, bankB := defaultProfile, active := .a, swap := .none }
  monitor := { shadows := Vector.replicate 16 (Vector.replicate 7 0), status := Vector.replicate 16 { result := .none, tag := 0, code := 0 } }
  report :=
    { queue := allBlocks, generations := Vector.replicate 11 0, flags := 0, enables := 0, globals := .zero,
      ports := tab6 fun _ => .zero }
  tickLimits := defaultProfile.timerLimits
  freeIndex := 0
  pending := []

end Sys2Proof.Machine
end

