-- ==== Sys2Proof/Machine/Ops.lean ====
section
/-! DEFINITION. The named operations over the state: replacing one block, the SRAM, captured words, fabric words, and the
arithmetic of station time and raw readings (00 R1; 01 R2, R3; 02 R28; 03 R39 to R41, R47). -/

namespace Sys2Proof.Machine

/-! ## Replacing one block -/

/-- The state with its memory replaced. -/
def State.withMemory (s : State) (x : Memory) : State := { s with memory := x }

/-- The state with its ports replaced. -/
def State.withPorts (s : State) (x : PortOutputs) : State := { s with ports := x }

/-- The state with its arbiter replaced. -/
def State.withArbiter (s : State) (x : Arbiter) : State := { s with arbiter := x }

/-- The state with its decode replaced. -/
def State.withDecode (s : State) (x : WindowSet) : State := { s with decode := x }

/-- The state with its candidates replaced. -/
def State.withCandidates (s : State) (x : Vector (Option Candidate) 7) : State := { s with candidates := x }

/-- The state with its table replaced. -/
def State.withTable (s : State) (x : ResidenceTable) : State := { s with table := x }

/-- The state with its delays replaced. -/
def State.withDelays (s : State) (x : Vector PortDelay 6) : State := { s with delays := x }

/-- The state with its time replaced. -/
def State.withTime (s : State) (x : TimeBase) : State := { s with time := x }

/-- The state with its disc replaced. -/
def State.withDisc (s : State) (x : Discipline) : State := { s with disc := x }

/-- The state with its captures replaced. -/
def State.withCaptures (s : State) (x : Vector CaptureInput 2) : State := { s with captures := x }

/-- The state with its pulses replaced. -/
def State.withPulses (s : State) (x : Vector PulseOutput 4) : State := { s with pulses := x }

/-- The state with its profiles replaced. -/
def State.withProfiles (s : State) (x : ProfileStore) : State := { s with profiles := x }

/-- The state with its monitor replaced. -/
def State.withMonitor (s : State) (x : CommandMonitor) : State := { s with monitor := x }

/-- The state with its report replaced. -/
def State.withReport (s : State) (x : ReportWriter) : State := { s with report := x }

/-- The state with its tickLimits replaced. -/
def State.withTickLimits (s : State) (x : TimerLimits) : State := { s with tickLimits := x }

/-- The state with its pending replaced. -/
def State.withPending (s : State) (x : List Instr) : State := { s with pending := x }

/-! ## Octets and words -/

/-- The bits of a word that a set of enables covers: bit 3 covers octet 0, the most significant (R2). -/
def enableMask (en : Enables) : Word :=
  (if en.getLsbD 3 then 0xFF000000#32 else 0) ||| (if en.getLsbD 2 then 0x00FF0000#32 else 0) |||
  (if en.getLsbD 1 then 0x0000FF00#32 else 0) ||| (if en.getLsbD 0 then 0x000000FF#32 else 0)

/-- The enabled octets of `new` in place of those of `old` (R2). -/
def mergeWord (old new : Word) (en : Enables) : Word :=
  (old &&& ~~~(enableMask en)) ||| (new &&& enableMask en)

/-- Octet `n` of a word, octet 0 the most significant (R1). -/
def wordOctet (w : Word) (n : Nat) : Octet := w.extractLsb' (24 - 8 * n) 8

/-- The word of four octets, the first the most significant (R1). -/
def octetsWord (o0 o1 o2 o3 : Octet) : Word := o0 ++ o1 ++ o2 ++ o3

/-- Two words as a 64-bit field, the word at the lower address most significant (R1). -/
def joinWords (high low : Word) : BitVec 64 := high ++ low

/-- The upper word of a 64-bit field. -/
def highWord (x : BitVec 64) : Word := x.extractLsb' 32 32

/-- The lower word of a 64-bit field. -/
def lowWord (x : BitVec 64) : Word := x.extractLsb' 0 32

/-! ## The SRAM -/

/-- What an octet of SRAM that nothing has written reads as: 0. DESIGN CHOICE (log 5), unsafe. -/
def blankOctet : Octet := 0

/-- The octet listed for address `a`, or the blank one. -/
def lookupCell (a : Nat) : List Host.Cell → Octet
  | [] => blankOctet
  | (x, b) :: rest => if x = a then b else lookupCell a rest

/-- The cells with `b` listed for address `a`, addresses rising. -/
def insertCell (a : Nat) (b : Octet) : List Host.Cell → List Host.Cell
  | [] => [(a, b)]
  | (x, c) :: rest => if a < x then (a, b) :: (x, c) :: rest else if a = x then (a, b) :: rest else (x, c) :: insertCell a b rest

/-- The cells with nothing listed for address `a`. -/
def eraseCell (a : Nat) : List Host.Cell → List Host.Cell
  | [] => []
  | (x, c) :: rest => if x = a then rest else (x, c) :: eraseCell a rest

/-- The addresses of the cells are above `lo`, rise strictly, and no cell holds the blank octet. -/
def cellsRise : Option Nat → List Host.Cell → Bool
  | _, [] => true
  | lo, (x, b) :: rest => (match lo with | none => true | some l => decide (l < x)) && decide (b ≠ blankOctet) && cellsRise (some x) rest

/-- The canonical form of the SRAM: octet addresses strictly rising, no cell equal to what an unlisted address reads as. -/
def Memory.wf (m : Memory) : Bool := cellsRise none m.cells

/-- Octet `a` of the SRAM, a in 0 to 2^24 - 1. -/
def Memory.readOctet (m : Memory) (a : Nat) : Octet := lookupCell a m.cells

/-- The SRAM with octet `a` written; a blank octet is not listed, so equal memories are equal data. -/
def Memory.writeOctet (m : Memory) (a : Nat) (b : Octet) : Memory :=
  { cells := if b = blankOctet then eraseCell a m.cells else insertCell a b m.cells }

/-- The octet address of octet `n` of a word (R1: a word's four octets lie at four consecutive octet addresses). -/
def octetAddress (a : WordAddress) (n : Nat) : Nat := 4 * a.toNat + n

/-- A word read at the memory port (R3). -/
def Memory.readWord (m : Memory) (a : WordAddress) : Word :=
  octetsWord (m.readOctet (octetAddress a 0)) (m.readOctet (octetAddress a 1)) (m.readOctet (octetAddress a 2)) (m.readOctet (octetAddress a 3))

/-- Octet `n` of a word written when its enable is set (R3). -/
def Memory.writeEnabled (m : Memory) (a : WordAddress) (en : Enables) (w : Word) (n : Nat) : Memory :=
  if en.getLsbD (3 - n) then m.writeOctet (octetAddress a n) (wordOctet w n) else m

/-- A word written at the memory port with its byte enables (R3). -/
def Memory.writeWord (m : Memory) (a : WordAddress) (en : Enables) (w : Word) : Memory :=
  (((m.writeEnabled a en w 0).writeEnabled a en w 1).writeEnabled a en w 2).writeEnabled a en w 3

/-- The words of a report burst written in order, each with all four enables set (R172). -/
def Memory.writeBurst (m : Memory) (ws : List (WordAddress × Word)) : Memory :=
  ws.foldl (fun m w => m.writeWord w.1 0b1111 w.2) m

/-! ## Captured words -/

/-- A captured word after a write of its enabled octets: those become present with the written value, the others keep
value and presence (R28, R56). -/
def CapturedWord.capture (c : CapturedWord) (en : Enables) (w : Word) : CapturedWord :=
  { data := mergeWord c.data w en, present := c.present ||| en }

/-- A captured word is present when all four of its octets are (R28). -/
def CapturedWord.isPresent (c : CapturedWord) : Bool := c.present == 0b1111

/-! ## Time arithmetic -/

/-- Fine units in a second (R40). -/
def secondFn : Nat := 65536000000000

/-- One tick of the oscillator, 8 ns, in fine units (R38). -/
def tickFn : Raw := 524288

/-- A station time as fine units since second 0. -/
def StationTime.toFn (t : StationTime) : Int := (t.sec.toNat * secondFn + t.ns.val * 65536 + t.frac.toNat : Nat)

/-- The station time of an amount of fine units, carrying into nanoseconds at 65,536 and into seconds at 1,000,000,000,
seconds modulo 2^32 (R41). -/
def StationTime.ofFn (z : Int) : StationTime :=
  let m := (z % (4294967296 * 65536000000000)).toNat
  { sec := BitVec.ofNat 32 (m / 65536000000000)
    ns := ⟨m / 65536 % 1000000000, Nat.mod_lt _ (by decide)⟩
    frac := BitVec.ofNat 16 (m % 65536) }

/-- A station time moved by a signed amount of fine units, with carries and borrows (R41, R46). -/
def StationTime.add (t : StationTime) (a : Int) : StationTime := .ofFn (t.toFn + a)

/-- The difference of two station times in fine units: seconds modulo 2^32 read signed, combined with the difference of
nanoseconds and fractions (R47). -/
def StationTime.sub (t u : StationTime) : Int :=
  (t.sec - u.sec).toInt * 65536000000000 + ((t.ns.val : Int) - u.ns.val) * 65536 + ((t.frac.toNat : Int) - u.frac.toNat)

/-- `t` is at or after `u`, compared by R47. -/
def StationTime.reached (t u : StationTime) : Bool := decide (0 ≤ t.sub u)

/-- The difference of two raw readings: modulo 2^64, read signed (R39). -/
def rawDiff (x y : Raw) : Int := (x - y).toInt

/-- The rate term floor((d × ρ + 2^39) / 2^40) (R41, R77). -/
def rateTerm (d rho : Int) : Int := (d * rho + 549755813888) / 1099511627776

/-- A raw difference converted to station rate (R41, R77). -/
def atRate (d rho : Int) : Int := d + rateTerm d rho

/-- `x` clamped to the range from `lo` to `hi`. -/
def clampInt (lo hi x : Int) : Int := if x < lo then lo else if hi < x then hi else x

/-- A timer of length `n` started at reading `start` has expired at reading `now` (R40). -/
def elapsed (now start : Raw) (n : Nat) : Bool := decide ((n : Int) ≤ rawDiff now start)

end Sys2Proof.Machine
end

