-- ==== Sys2Proof/Machine/Flags.lean ====
section
/-! DEFINITION. The Report Writer's side of an event: block requests, flag raises and counters (10 R167 to R173), the bank
in force (09 R152), and the lines that follow state (10 R168; 08 R145, R146; 01 R4). -/

namespace Sys2Proof.Machine

/-! ## The banks -/

/-- The bank every block reads its settings from (R152). -/
def State.bank (s : State) : Profile :=
  match s.profiles.active with
  | .a => s.profiles.bankA
  | .b => s.profiles.bankB

/-- The bank software writes and copies into (R152). -/
def State.staged (s : State) : Profile :=
  match s.profiles.active with
  | .a => s.profiles.bankB
  | .b => s.profiles.bankA

/-- The Profile Store with its staged bank replaced (R156, R157). -/
def ProfileStore.withStaged (p : ProfileStore) (q : Profile) : ProfileStore :=
  match p.active with
  | .a => { p with bankB := q }
  | .b => { p with bankA := q }

/-! ## Requests -/

/-- The number of a block kind (section 10.4). -/
def BlockKind.number : BlockKind → Fin 11
  | .status => 0
  | .discipline => 1
  | .port p => ⟨2 + p.val, by omega⟩
  | .commands => 8
  | .captures => 9
  | .counters => 10

/-- A kind joins the queue at the tail, unless it is queued already (R171). -/
def joinQueue (q : List BlockKind) (k : BlockKind) : List BlockKind := if q.contains k then q else q ++ [k]

/-- Several kinds requested by one event join in the order given, which the caller gives in block order (R171). -/
def joinAll (q : List BlockKind) (ks : List BlockKind) : List BlockKind := ks.foldl joinQueue q

/-- An event requests blocks; in bypass the Report Writer makes no request (R16, R171). -/
def request (ks : List BlockKind) (s : State) : State :=
  if s.straps.bypass then s else s.withReport { s.report with queue := joinAll s.report.queue ks }

/-- The blocks a station second rollover requests (R173). -/
def rolloverBlocks : List BlockKind :=
  [.status, .discipline, .port 0, .port 1, .port 2, .port 3, .port 4, .port 5, .counters]

/-! ## Flags -/

/-- The number of a flag: its bit in the flags, the enables and the masks (section 11.5). -/
def Flag.number : Flag → Nat
  | .untracked => 0
  | .order => 1
  | .saturated => 2
  | .unknownTransit => 3
  | .detailUnmatched => 4
  | .echoUnmatched => 5
  | .probeLost => 6
  | .echoStray => 7
  | .delayRejected => 8
  | .foreignSource => 9
  | .sampleRejected => 10
  | .stepped => 11
  | .holdover => 12
  | .freeRun => 13
  | .captureOverrun => 14
  | .reportForced => 15

/-- The bit of a flag. -/
def Flag.bit (f : Flag) : BitVec 16 := 1#16 <<< f.number

/-- A raise: the flag is set, or stays set, and the Status block is requested (R167). -/
def raise (f : Flag) (s : State) : State :=
  request [.status] (s.withReport { s.report with flags := s.report.flags ||| f.bit })

/-- A raise when `c` holds. -/
def raiseIf (c : Bool) (f : Flag) (s : State) : State := if c then raise f s else s

/-! ## Counters -/

/-- The global counters by name (R170). -/
inductive GlobalCounter where
  | untracked
  | aged
  | rewrites
  | versionMismatch
  | samplesAccepted
  | samplesRejected
  | duplicates
  deriving DecidableEq, Repr

/-- The counters of a port by name (R170). -/
inductive PortCounter where
  | tracked
  | patched
  | passed
  | delayAccepted
  | delayRejected
  deriving DecidableEq, Repr

/-- One global counter up by one, modulo 2^32 (R170). -/
def GlobalCounters.bump (g : GlobalCounters) : GlobalCounter → GlobalCounters
  | .untracked => { g with untracked := g.untracked + 1 }
  | .aged => { g with aged := g.aged + 1 }
  | .rewrites => { g with rewrites := g.rewrites + 1 }
  | .versionMismatch => { g with versionMismatch := g.versionMismatch + 1 }
  | .samplesAccepted => { g with samplesAccepted := g.samplesAccepted + 1 }
  | .samplesRejected => { g with samplesRejected := g.samplesRejected + 1 }
  | .duplicates => { g with duplicates := g.duplicates + 1 }

/-- One counter of a port up by one, modulo 2^32 (R170). -/
def PortCounters.bump (c : PortCounters) : PortCounter → PortCounters
  | .tracked => { c with tracked := c.tracked + 1 }
  | .patched => { c with patched := c.patched + 1 }
  | .passed => { c with passed := c.passed + 1 }
  | .delayAccepted => { c with delayAccepted := c.delayAccepted + 1 }
  | .delayRejected => { c with delayRejected := c.delayRejected + 1 }

/-- A global counter counts one; no block is requested (R170). -/
def count (c : GlobalCounter) (s : State) : State :=
  s.withReport { s.report with globals := s.report.globals.bump c }

/-- A counter of port `p` counts one; no block is requested (R170). -/
def countPort (p : Port) (c : PortCounter) (s : State) : State :=
  s.withReport { s.report with ports := s.report.ports.set p (s.report.ports[p].bump c) }

/-! ## Lines -/

/-- The discipline is LOCKED or HOLDOVER (R146). -/
def DisciplineState.timeValid : DisciplineState → Bool
  | .locked => true
  | .holdover => true
  | .freeRun => false
  | .acquire => false

/-- The part drives its outputs: not held in reset and not in bypass (R16, R151, R168). -/
def State.driving (s : State) : Bool := !s.resetHeld && !s.straps.bypass

/-- The time-valid line (R146, R151). -/
def State.timeValidPin (s : State) : Bool := s.driving && s.disc.state.timeValid

/-- The attention line: some raised flag has its enable set (R168). -/
def State.attentionPin (s : State) : Bool := s.driving && decide (s.report.flags &&& s.report.enables ≠ 0)

/-- The level of pulse output `n`: the pulse shown by the polarity of the active bank (R145), low in reset and bypass
(R151). -/
def State.pulsePin (s : State) (n : Fin 4) : Bool :=
  s.driving &&
    (match s.bank.outputs[n].polarity with
      | .activeHigh => s.pulses[n].trailing.isSome
      | .activeLow => !s.pulses[n].trailing.isSome)

/-- The wait signal of the fabric port: a presented access is held because a report burst holds the memory port (R4). -/
def State.waitPin (s : State) : Bool := !s.resetHeld && s.arbiter.owner == .report && !s.arbiter.waiting.isEmpty

end Sys2Proof.Machine
end

