-- ==== Sys2Proof/Machine/TimeBase.lean ====
section
/-! DEFINITION. The Time Base: conversion, re-anchoring and changes of ρ (03 R41 to R44). -/

namespace Sys2Proof.Machine

/-- The station time of a raw reading under the conversion record in force (R41). -/
def TimeBase.convert (t : TimeBase) (x : Raw) : StationTime := t.anchorStation.add (atRate (rawDiff x t.anchorRaw) t.rho)

/-- Station time now: the conversion of the current tick's reading (R41). -/
def TimeBase.now (t : TimeBase) : StationTime := t.convert t.raw

/-- Station time now. -/
def State.now (s : State) : StationTime := s.time.now

/-- A re-anchor without a step: the anchor becomes the current tick's reading and its station time (R43). -/
def TimeBase.reanchor (t : TimeBase) : TimeBase := { t with anchorRaw := t.raw, anchorStation := t.now }

/-- The rate limit in rate units: floor(ppm × 2^40 / 1,000,000) (R44). -/
def rateLimitUnits (ppm : Nat) : Int := (ppm * 1099511627776 / 1000000 : Nat)

/-- The active rate limit in rate units (R44). -/
def State.rateLimit (s : State) : Int := rateLimitUnits s.bank.discipline.rateLimit

/-- A rate clamped to plus or minus a limit (R44). -/
def clampRate (limit r : Int) : Int := clampInt (-limit) limit r

/-- A change of ρ: the record is re-anchored with the old ρ, also when the value does not change, and the new ρ applies
from this tick on (R43, R44). -/
def TimeBase.changeRho (t : TimeBase) (r : Int) : TimeBase := { t.reanchor with rho := r }

/-- ρ is given a value, clamped to the active rate limit (R44). -/
def giveRho (r : Int) (s : State) : State := s.withTime (s.time.changeRho (clampRate s.rateLimit r))

/-- ρ_i is given a value, clamped to the active rate limit (R44). -/
def giveRhoI (r : Int) (s : State) : State := s.withDisc { s.disc with rhoI := clampRate s.rateLimit r }

/-- The two clamps of a swap: ρ and ρ_i to the new active limit; only a clamp that changes ρ re-anchors (R44). -/
def clampRates (s : State) : State :=
  let s := if clampRate s.rateLimit s.time.rho = s.time.rho then s else giveRho s.time.rho s
  giveRhoI s.disc.rhoI s

/-- The first half of a step: re-anchor, then the amount is added to the anchor's station time (R46). -/
def TimeBase.step (t : TimeBase) (a : Int) : TimeBase :=
  { t.reanchor with anchorStation := t.reanchor.anchorStation.add a }

end Sys2Proof.Machine
end

