-- ==== Sys2Proof/Machine/Delay.lean ====
section
/-! DEFINITION. The Delay Unit: lists, samples, ring and D(p) (06 R92 to R112). -/

namespace Sys2Proof.Machine

/-- The smallest sample of a ring, or the default delay in fine units when it is empty (R105). -/
def ringDelay (defaultNs : Nat) : List Nat → Nat
  | [] => defaultNs * 65536
  | x :: xs => xs.foldl min x

/-- D(p) and delay valid worked out anew from the ring (R105). -/
def PortDelay.settle (d : PortDelay) (defaultNs : Nat) : PortDelay :=
  { d with delay := ringDelay defaultNs d.ring, valid := !d.ring.isEmpty }

/-- Port `p`'s state of the Delay Unit replaced. -/
def setDelay (p : Port) (d : PortDelay) (s : State) : State := s.withDelays (s.delays.set p d)

/-- Port `p` takes lists and a ring, D(p) and delay valid follow, and the Port p block is requested if either changed
(R105, R106). -/
def settleDelay (p : Port) (d : PortDelay) (s : State) : State :=
  let d' := d.settle s.bank.defaultDelay
  let s' := setDelay p d' s
  if s.delays[p].delay ≠ d'.delay ∨ s.delays[p].valid ≠ d'.valid then request [.port p] s' else s'

/-- A port's lists and ring emptied (R107). -/
def PortDelay.cleared (d : PortDelay) : PortDelay := { d with probes := [], responders := [], ring := [] }

/-- The capacity of a Probe List and of a Responder List (R97). -/
def listCapacity : Nat := 4

/-- A Probe List after a transmit hand-off: a record of the same sequence is replaced, a full list loses its head (R93). -/
def addProbe (l : List ProbeRecord) (r : ProbeRecord) : List ProbeRecord :=
  if l.any (·.sequence == r.sequence) then l.filter (·.sequence != r.sequence) ++ [r]
  else if l.length < listCapacity then l ++ [r]
  else l.drop 1 ++ [r]

/-- A transmit hand-off displaces the oldest record (R94). -/
def displacesProbe (l : List ProbeRecord) (seq : BitVec 16) : Bool :=
  !l.any (·.sequence == seq) && decide (listCapacity ≤ l.length)

/-- A transmit hand-off of a PROBE on port `q` at reading `t1` (R92 to R94). -/
def transmitHandoff (q : Port) (seq : BitVec 16) (t1 : Raw) (s : State) : State :=
  match s.bank.ports[q].delayMode with
  | .none => s
  | .link =>
    let d := s.delays[q]
    raiseIf (displacesProbe d.probes seq) .probeLost (setDelay q { d with probes := addProbe d.probes { sequence := seq, t1 := t1 } } s)

/-- A Responder List record answers to this sequence and source (R96, R98). -/
def ResponderRecord.matches (r : ResponderRecord) (seq : BitVec 16) (src : Ident) : Bool := r.sequence == seq && r.source == src

/-- A Responder List after a responder hand-off: the record of the same sequence and source is replaced, a full list
loses its head, without a flag (R96). -/
def addResponder (l : List ResponderRecord) (r : ResponderRecord) : List ResponderRecord :=
  if l.any (·.matches r.sequence r.source) then l.filter (fun x => !x.matches r.sequence r.source) ++ [r]
  else if l.length < listCapacity then l ++ [r]
  else l.drop 1 ++ [r]

/-- A responder hand-off for port `p`; the Frame Recognizer has tested the delay mode (R35, R96). -/
def responderHandoff (p : Port) (r : ResponderRecord) (s : State) : State :=
  let d := s.delays[p]
  setDelay p { d with responders := addResponder d.responders r } s

/-- The responder record of port `q` that an ECHO's computation finds (R98). -/
def findResponder (q : Port) (seq : BitVec 16) (src : Ident) (s : State) : Option ResponderRecord :=
  s.delays[q].responders.find? (·.matches seq src)

/-- That record removed; the others keep their order (R98, R99). -/
def removeResponder (q : Port) (seq : BitVec 16) (src : Ident) (s : State) : State :=
  let d := s.delays[q]
  setDelay q { d with responders := d.responders.filter (fun x => !x.matches seq src) } s

/-- The Probe List record of a sequence removed (R95, R100). -/
def removeProbe (p : Port) (seq : BitVec 16) (s : State) : State :=
  let d := s.delays[p]
  setDelay p { d with probes := d.probes.filter (·.sequence != seq) } s

/-- The transit unknown value (R23). -/
def transitUnknown : BitVec 64 := 0x7FFFFFFFFFFFFFFF

/-- The value of a delay sample in fine units (R101), from the raw difference t4 - t1, ρ, the port's two latencies and
the ECHO's transit field. -/
def delaySample (d rho : Int) (latencyIn latencyOut : Nat) (cEcho : BitVec 64) : Int :=
  (atRate d rho - (latencyIn : Int) * 256 - (latencyOut : Int) * 256 - cEcho.toInt * 256) / 2

/-- The classes of a delay sample (R102). -/
inductive DelayClass where
  | below
  | within
  | above
  | unordered
  deriving DecidableEq, Repr

/-- The class of a computed sample against the gate of 0 to the delay maximum in ns (R102). -/
def delayClass (x : Int) (maxNs : Nat) : DelayClass :=
  if x < 0 then .below else if x ≤ (maxNs : Int) * 65536 then .within else .above

/-- A rejected sample: counted for port `p`, with DELAY_REJECTED unless it is UNORDERED under the policy QUIET (R103). -/
def rejectDelay (p : Port) (c : DelayClass) (s : State) : State :=
  raiseIf (!(c == .unordered && s.bank.unordered == .quiet)) .delayRejected (countPort p .delayRejected s)

/-- A ring after a sample joins its tail: the oldest beyond the window length are dropped (R104). -/
def joinRing (ring : List Nat) (x : Nat) (window : Nat) : List Nat :=
  (ring ++ [x]).drop ((ring ++ [x]).length - window)

/-- An accepted sample: counted, and joined to port `p`'s ring (R104). -/
def acceptDelay (p : Port) (x : Nat) (s : State) : State :=
  let s := countPort p .delayAccepted s
  settleDelay p { s.delays[p] with ring := joinRing s.delays[p].ring x s.bank.windowLength } s

/-- The sample of a matched ECHO, classed and accepted or rejected (R100 to R104). -/
def takeDelaySample (p : Port) (t1 t4 : Raw) (cEcho : BitVec 64) (s : State) : State :=
  if cEcho = transitUnknown then rejectDelay p .unordered s
  else
    let x := delaySample (rawDiff t4 t1) s.time.rho s.bank.ports[p].latencyIn s.bank.ports[p].latencyOut cEcho
    match delayClass x s.bank.delayMax with
    | .within => acceptDelay p x.toNat s
    | c => rejectDelay p c s

/-- An echo hand-off for port `p`: matched by sequence, its record removed and a sample formed, or ECHO_STRAY (R100). -/
def echoHandoff (p : Port) (seq : BitVec 16) (cEcho : BitVec 64) (t4 : Raw) (s : State) : State :=
  match s.delays[p].probes.find? (·.sequence == seq) with
  | none => raise .echoStray s
  | some r => takeDelaySample p r.t1 t4 cEcho (removeProbe p seq s)

/-- Port `p` cleared, as PATH_CLEAR, RESTART and a swap to NONE do (R107, R108, R112). -/
def clearPort (p : Port) (s : State) : State := settleDelay p s.delays[p].cleared s

/-- The ports of a mask, in order: bit p for port p, the higher bits ignored (R107). -/
def maskPorts (mask : BitVec 16) : List Port := allPorts.filter fun p => mask.getLsbD p.val

/-- Several ports cleared, in port order. -/
def clearPorts (ps : List Port) (s : State) : State := ps.foldl (fun s p => clearPort p s) s

/-- Port `p` at a swap from profile `old` to the bank now active: cleared when its mode goes from LINK to NONE, its ring
cut to the window length, D(p) worked out anew (R108, R109). -/
def swapDelay (old : Profile) (s : State) (p : Port) : State :=
  if old.ports[p].delayMode = .link ∧ s.bank.ports[p].delayMode = .none then clearPort p s
  else settleDelay p { s.delays[p] with ring := s.delays[p].ring.drop (s.delays[p].ring.length - s.bank.windowLength) } s

/-- The Delay Unit at a swap (R108, R109). -/
def swapDelays (old : Profile) (s : State) : State := allPorts.foldl (swapDelay old) s

end Sys2Proof.Machine
end

