-- ==== Sys2Proof/Machine/Pulse.lean ====
section
/-! DEFINITION. The Pulse Generator: settings in use, leading instants, gating, and what a step and a swap do to an output
(08 R144 to R151). -/

namespace Sys2Proof.Machine

/-- The settings an output works with (R144): P in ns, the offset modulo P, the width in ns or P / 2 when it is P or
more. -/
def PulseItems.settings (i : PulseItems) : PulseSettings :=
  { period := i.period * 1000000
    offset := i.offset % (i.period * 1000000)
    width := if i.period * 1000000 ≤ i.width * 1000 then i.period * 1000000 / 2 else i.width * 1000 }

/-- The first leading instant later than `t`: fraction 0, nanoseconds less the offset a whole multiple of P (R145). Both
instants of one nanosecond have fraction 0 at the earliest, so the instant sought has more whole nanoseconds than `t`. -/
def PulseSettings.firstAfter (p : PulseSettings) (t : StationTime) : StationTime :=
  let ns : Int := p.offset + p.period * (((t.ns.val : Int) - p.offset) / p.period + 1)
  .ofFn (t.sec.toNat * 65536000000000 + ns * 65536)

/-- The gating condition of an output for a discipline state (R147). -/
def Gating.holds (g : Gating) (d : DisciplineState) : Bool :=
  match g with
  | .always => true
  | .validOnly => d.timeValid
  | .lockedOnly => d == .locked

/-- An output after its gating is tested: off when the period is 0, pulse ended when the condition does not hold; the next
leading instant stays (R147). -/
def PulseOutput.gate (o : PulseOutput) (i : PulseItems) (d : DisciplineState) : PulseOutput :=
  if i.period = 0 then { schedule := none, trailing := none }
  else if i.gating.holds d then o
  else { o with trailing := none }

/-- Every output's gating tested in this tick (R147). -/
def gatePulses (s : State) : State :=
  s.withPulses (tab4 fun n => s.pulses[n].gate s.bank.outputs[n] s.disc.state)

/-- An output at a step: a pulse ends and the next leading instant is the first later than station time after the step;
an output that is off is left (R148). A step of amount 0 does the same: where R149 had set the next leading instant beyond a
trailing one, it comes back to the first later than station time now, by R148's second bullet and against its last
sentence. DESIGN CHOICE (log 26). -/
def PulseOutput.step (o : PulseOutput) (now : StationTime) : PulseOutput :=
  match o.schedule with
  | none => o
  | some c => { schedule := some { c with next := c.settings.firstAfter now }, trailing := none }

/-- The step handed to the Pulse Generator, after station time has moved (R148). -/
def stepPulses (s : State) : State := s.withPulses (tab4 fun n => s.pulses[n].step s.now)

/-- An output at a swap that changes its period, offset or width (R149): off with a new period of 0; otherwise the new
settings come into force, and the next leading instant is the first later than station time now and, while a pulse is
active, than its trailing instant, which the pulse keeps. -/
def PulseOutput.retime (o : PulseOutput) (i : PulseItems) (now : StationTime) : PulseOutput :=
  if i.period = 0 then { schedule := none, trailing := none }
  else
    let after := match o.trailing with
      | none => now
      | some t => if t.reached now then t else now
    { o with schedule := some { settings := i.settings, next := i.settings.firstAfter after } }

/-- The timing items of an output differ between two profiles (R149). -/
def PulseItems.timingDiffers (i j : PulseItems) : Bool :=
  i.period != j.period || i.offset != j.offset || i.width != j.width

/-- An output at a swap from items `old` to `new`: the timing first, then the gating of the new bank (R149). -/
def PulseOutput.swap (o : PulseOutput) (old new : PulseItems) (now : StationTime) (d : DisciplineState) : PulseOutput :=
  (if old.timingDiffers new then o.retime new now else o).gate new d

/-- Every output at a swap from profile `old` to the bank now active (R149). -/
def swapPulses (old : Profile) (s : State) : State :=
  s.withPulses (tab4 fun n => s.pulses[n].swap old.outputs[n] s.bank.outputs[n] s.now s.disc.state)

/-- Output `n` has reached its next leading instant (R145). -/
def leadingDue (n : Fin 4) (s : State) : Bool :=
  match s.pulses[n].schedule with
  | none => false
  | some c => s.now.reached c.next

/-- Output `n` has an active pulse that has reached its trailing instant (R145). -/
def trailingDue (n : Fin 4) (s : State) : Bool :=
  match s.pulses[n].trailing with
  | none => false
  | some t => s.now.reached t

/-- An output at its leading instant: a pulse starts when the gating condition holds, its trailing instant the leading
instant plus the width; the next leading instant is P later (R145). -/
def PulseOutput.lead (o : PulseOutput) (gated : Bool) : PulseOutput :=
  match o.schedule with
  | none => o
  | some c =>
    { schedule := some { c with next := c.next.add (c.settings.period * 65536) }
      trailing := if gated then some (c.next.add (c.settings.width * 65536)) else o.trailing }

/-- Output `n` acts on a leading instant (R145). -/
def leadPulse (n : Fin 4) (s : State) : State :=
  s.withPulses (s.pulses.set n (s.pulses[n].lead (s.bank.outputs[n].gating.holds s.disc.state)))

/-- Output `n` acts on a trailing instant: the pulse becomes inactive (R145). -/
def trailPulse (n : Fin 4) (s : State) : State :=
  s.withPulses (s.pulses.set n { s.pulses[n] with trailing := none })

end Sys2Proof.Machine
end

