-- ==== Sys2Proof/Machine/DisciplineState.lean ====
section
/-! DEFINITION. The Discipline Unit's state changes: entries to its states, sources, timers, and what a swap and RESTART do
(07 R113, R114, R127, R128, R131, R133, R136). -/

namespace Sys2Proof.Machine

/-- The discipline state becomes `d`; a change requests the Status and Discipline blocks and tests every output's gating
(section 7.4; R147, R173). -/
def setDiscState (d : DisciplineState) (s : State) : State :=
  if s.disc.state = d then s
  else gatePulses (request [.status, .discipline] (s.withDisc { s.disc with state := d }))

/-- The missing timer starts, or starts again, from the current reading (R114). -/
def startMissing (s : State) : State := s.withDisc { s.disc with missing := some s.time.raw }

/-- Entry to ACQUIRE: lock count 0, reject count 0, the holdover timer stops, the missing timer starts (R114, R122, R124,
R125, R131). -/
def enterAcquire (s : State) : State :=
  setDiscState .acquire
    (s.withDisc { s.disc with lockCount := 0, rejectCount := 0, holdover := none, missing := some s.time.raw })

/-- Entry to HOLDOVER: ρ is set to ρ_i, HOLDOVER is raised, the holdover timer starts (R128). -/
def enterHoldover (s : State) : State :=
  let s := setDiscState .holdover (s.withDisc { s.disc with holdover := some s.time.raw })
  raise .holdover (giveRho s.disc.rhoI s)

/-- The state falls to FREE_RUN with its flag, by an expiry (R114, R127). The holdover timer stops. -/
def fallFreeRun (s : State) : State :=
  raise .freeRun (setDiscState .freeRun (s.withDisc { s.disc with holdover := none }))

/-- The active source a source mode gives at enabling, at RESTART and on entering the mode (R113). -/
def SourceMode.source : SourceMode → ActiveSource
  | .network => .network
  | .input => .input
  | .networkThenInput => .network

/-- The latched source an expected source identifier gives: itself, or absent when it is 0 (R116, R133, R136). -/
def expectedLatch (expected : Ident) : Option Ident := if expected = 0 then none else some expected

/-- What TIME_SET and TIME_STEP do to the Discipline Unit (R131). -/
def toldOfStep (s : State) : State := if s.disc.state = .freeRun then s else enterAcquire s

/-- The Discipline Unit at a swap that turns the discipline off (R133). -/
def disciplineOff (s : State) : State :=
  setDiscState .freeRun
    (s.withDisc { s.disc with source := .none, missing := none, holdover := none, seen := [], lockCount := 0, rejectCount := 0 })

/-- The Discipline Unit at a swap that turns the discipline on (R133). -/
def disciplineOn (s : State) : State :=
  setDiscState .freeRun
    (s.withDisc { s.disc with source := s.bank.discipline.mode.source, lockCount := 0, rejectCount := 0, missing := some s.time.raw })

/-- The Discipline Unit at a swap that changes the source mode of a discipline that stays on (R133). -/
def disciplineMode (s : State) : State :=
  let src := s.bank.discipline.mode.source
  if s.disc.source = src then s else startMissing (s.withDisc { s.disc with source := src })

/-- The Discipline Unit at a swap that changes the expected source (R133). -/
def disciplineExpected (s : State) : State :=
  s.withDisc { s.disc with seen := [], latched := expectedLatch s.bank.discipline.expected }

/-- The Discipline Unit at a swap from profile `old` to the bank now active (R133). -/
def swapDiscipline (old : Profile) (s : State) : State :=
  let o := old.discipline
  let n := s.bank.discipline
  let s :=
    if o.enable && !n.enable then disciplineOff s
    else if !o.enable && n.enable then disciplineOn s
    else if n.enable && o.mode != n.mode then disciplineMode s
    else s
  if o.expected = n.expected then s else disciplineExpected s

/-- The Discipline Unit at RESTART (R136). ρ, ρ_i are kept (R52). -/
def restartDiscipline (s : State) : State :=
  let n := s.bank.discipline
  setDiscState .freeRun
    (s.withDisc
      { s.disc with
        seen := []
        latched := expectedLatch n.expected
        lockCount := 0
        rejectCount := 0
        hold := false
        holdover := none
        last := none
        source := if n.enable then n.mode.source else .none
        missing := if n.enable then some s.time.raw else none })

/-- The missing timer has expired at this tick (R40, R114; log 6). -/
def missingDue (s : State) : Bool :=
  match s.disc.missing with
  | none => false
  | some t => elapsed s.time.raw t s.tickLimits.missing && elapsed s.time.raw t s.bank.timerLimits.missing

/-- An expiry of the missing timer (R114): the source switch of NETWORK_THEN_INPUT, the state, the timer. -/
def expireMissing (s : State) : State :=
  let switches : Bool := s.bank.discipline.mode == .networkThenInput && s.disc.source == .network
  let s := s.withDisc
    { s.disc with
      source := if switches then .input else s.disc.source
      missing := if switches then some s.time.raw else none }
  match s.disc.state with
  | .acquire => fallFreeRun s
  | .locked => enterHoldover s
  | .freeRun => s
  | .holdover => s

/-- The holdover timer has expired at this tick, in HOLDOVER; a limit of 0 never expires (R40, R127; log 6). -/
def holdoverDue (s : State) : Bool :=
  s.disc.state == .holdover &&
    (match s.disc.holdover, s.tickLimits.holdover, s.bank.timerLimits.holdover with
      | some t, some n, some m => elapsed s.time.raw t n && elapsed s.time.raw t m
      | _, _, _ => false)

end Sys2Proof.Machine
end

