-- ==== Sys2Proof/Machine/Correction.lean ====
section
/-! DEFINITION. The Correction Unit: the sums by kind, final rounding, saturation (05 R75 to R87). Every stage is exact
integer arithmetic. -/

namespace Sys2Proof.Machine

/-- Frame units as fine units (00, Units). -/
def frameToFine (x : Int) : Int := x * 256

/-- The port terms and residence that a MARK's sum adds, without C_in: R + L_in × 256 + L_out × 256 + A × 256 + D (R82).
The asymmetry is sign-extended from 24 bits (R79). -/
def markSum (d rho : Int) (snap : Snapshot) (latencyOut : Nat) : Int :=
  atRate d rho + frameToFine snap.latencyIn + frameToFine latencyOut + frameToFine snap.asymmetry.toInt + snap.delay

/-- The sum of a one-step MARK (R81). -/
def oneStepSum (cIn : BitVec 64) (d rho : Int) (snap : Snapshot) (latencyOut : Nat) : Int :=
  frameToFine cIn.toInt + markSum d rho snap latencyOut

/-- The sum of a DETAIL from its linked MARK's held sum (R83). -/
def detailSum (cIn : BitVec 64) (held : Int) : Int := frameToFine cIn.toInt + held

/-- The sum of an ECHO from the raw difference raw_out - t2 (R84). -/
def echoSum (cIn : BitVec 64) (d rho : Int) (latencyIn latencyOut : Nat) : Int :=
  frameToFine cIn.toInt + atRate d rho + frameToFine latencyIn + frameToFine latencyOut

/-- The final rounding of a sum in fine units to frame units (R85). -/
def roundSum (mode : RoundingMode) (x : Int) : Int :=
  let n := x / 256
  let r := x % 256
  match mode with
  | .nearestEven => if r < 128 then n else if 128 < r then n + 1 else if n % 2 = 0 then n else n + 1
  | .towardZero => if r = 0 then n else if x < 0 then n + 1 else n
  | .upward => if r = 0 then n else n + 1
  | .downward => n

/-- The largest signed 64-bit value. -/
def transitMax : Int := 9223372036854775807

/-- The smallest signed 64-bit value. -/
def transitMin : Int := -9223372036854775808

/-- A rounded value lies outside the signed 64-bit range (R87). -/
def saturates (x : Int) : Bool := decide (x < transitMin ∨ transitMax < x)

/-- What a computation hands back to its slot: the held value and the flags it raises. -/
structure Computed where
  held : BitVec 64
  saturated : Bool
  unknown : Bool
  deriving DecidableEq, Repr

/-- Stages 1, 3 and 4 of a computation (R75): transit unknown absorbs everything (R86), otherwise the sum is rounded
(R85) and saturated (R87). -/
def computeTransit (mode : RoundingMode) (cIn : BitVec 64) (sum : Int) : Computed :=
  if cIn = transitUnknown then { held := transitUnknown, saturated := false, unknown := true }
  else
    let x := roundSum mode sum
    { held := BitVec.ofInt 64 (clampInt transitMin transitMax x), saturated := saturates x, unknown := false }

/-- The flags of a computation raised (R86, R87). -/
def raiseComputed (o : Computed) (s : State) : State :=
  raiseIf o.unknown .unknownTransit (raiseIf o.saturated .saturated s)

end Sys2Proof.Machine
end

