-- ==== Sys2Proof/Machine/Residence.lean ====
section
/-! DEFINITION. The Residence Table: allocation, capture mirror, linking, slots and retirement (04 R53 to R73). -/

namespace Sys2Proof.Machine

/-! ## Frame fields -/

/-- The cell word at which the time header begins (R20). -/
def HeaderOffset.h : HeaderOffset → Nat
  | .four => 4
  | .five => 5

/-- The kind field of word h+0, when it is tracked (R22, section 11.1). -/
def wordKind (w : Word) : Option FrameKind :=
  match (w.extractLsb' 28 4).toNat with
  | 0 => some .mark
  | 1 => some .probe
  | 2 => some .echo
  | 8 => some .detail
  | _ => none

/-- The version field of word h+0. -/
def wordVersion (w : Word) : BitVec 4 := w.extractLsb' 24 4

/-- The DETAIL_FOLLOWS bit of word h+0, bit 17. -/
def wordDetailFollows (w : Word) : Bool := w.getLsbD 17

/-- The sequence field of word h+0. -/
def wordSequence (w : Word) : BitVec 16 := w.extractLsb' 0 16

/-- The domain field of word h+1. -/
def wordDomain (w : Word) : BitVec 8 := w.extractLsb' 24 8

/-- A two-word field, present when both of its words are wholly present (R56). -/
def pairField (high low : CapturedWord) : Option (BitVec 64) :=
  if high.isPresent && low.isPresent then some (joinWords high.data low.data) else none

/-- C_in, from words h+2 and h+3 of the header copy (R56). -/
def Entry.cIn (e : Entry) : Option (BitVec 64) := pairField e.copy[0] e.copy[1]

/-- The source identifier, from words h+6 and h+7 (R56). -/
def Entry.source (e : Entry) : Option Ident := pairField e.copy[4] e.copy[5]

/-- The requester identifier of an ECHO, from words h+8 and h+9 (R56). -/
def Entry.requester (e : Entry) : Option Ident := pairField e.copy[6] e.copy[7]

/-! ## Finding and changing entries -/

/-- The capacity of the table (R53). -/
def tableCapacity : Nat := 64

/-- The entry is reached by accesses to its cell: OPEN or COMPLETE (section 4.1). -/
def Entry.live (e : Entry) : Bool := e.state != .detached

/-- The OPEN or COMPLETE entry of a cell (R58). -/
def findLive (k : CellKey) (es : List Entry) : Option Entry := es.find? fun e => e.live && e.key == k

/-- The entry with a place in the allocation order. -/
def findOrder (o : Nat) (es : List Entry) : Option Entry := es.find? (·.order == o)

/-- That entry changed. -/
def changeEntry (o : Nat) (f : Entry → Entry) (es : List Entry) : List Entry := es.map fun e => if e.order = o then f e else e

/-- The entries of the table replaced. -/
def setEntries (es : List Entry) (s : State) : State := s.withTable { s.table with entries := es }

/-- What the end of entry `e` does to the entry it is linked to (R66): a DETAIL's MARK has its link ended, or is retired
with it when DETACHED; a MARK's DETAIL loses its link. -/
def endLink (e : Entry) (es : List Entry) : List Entry :=
  match e.link with
  | .entry o =>
    if e.kind = .detail then
      (es.filter fun m => !(m.order == o && m.state == .detached)).map fun m => if m.order = o then { m with link := .ended } else m
    else changeEntry o (fun d => { d with link := .absent }) es
  | _ => es

/-- The entry with a place in the allocation order retired (R66, R67). -/
def retireEntry (o : Nat) (es : List Entry) : List Entry :=
  match findOrder o es with
  | none => es
  | some e => endLink e (es.filter fun x => x.order != o)

/-- Several entries retired. -/
def retireEntries (os : List Nat) (es : List Entry) : List Entry := os.foldl (fun es o => retireEntry o es) es

/-! ## Linking -/

/-- A MARK entry that may be linked to DETAIL `d` (R65). -/
def Entry.linkable (m d : Entry) : Bool :=
  m.kind == .mark && m.detailFollows && m.state != .opened && m.link == .absent &&
  m.source.isSome && m.source == d.source && m.sequence == d.sequence && m.domain == d.domain && m.origin == d.origin

/-- The youngest of the entries, the one allocated last (R65). -/
def youngest (es : List Entry) : Option Entry :=
  es.foldl (fun best e => match best with
    | none => some e
    | some b => if b.order < e.order then some e else some b) none

/-- DETAIL entry `d`, just COMPLETE, linked to the youngest MARK that qualifies; otherwise its link stays absent (R65). -/
def linkDetail (d : Entry) (es : List Entry) : List Entry :=
  match youngest (es.filter (·.linkable d)) with
  | none => es
  | some m =>
    changeEntry m.order (fun x => { x with link := .entry d.order }) (changeEntry d.order (fun x => { x with link := .entry m.order }) es)

/-- The words a kind needs are present in the header copy (R57): h+2 to h+7 for a MARK or DETAIL, h+2 to h+9 for an
ECHO, none for a PROBE. -/
def Entry.copyComplete (e : Entry) : Bool :=
  match e.kind with
  | .probe => true
  | .echo => e.copy.toList.all (·.isPresent)
  | .mark => (e.copy.toList.take 6).all (·.isPresent)
  | .detail => (e.copy.toList.take 6).all (·.isPresent)

/-- An OPEN entry whose words are present becomes COMPLETE, and a DETAIL is then linked (R57, R65). -/
def completeEntry (o : Nat) (es : List Entry) : List Entry :=
  match findOrder o es with
  | none => es
  | some e =>
    if e.state = .opened ∧ e.copyComplete then
      let es := changeEntry o (fun x => { x with state := .complete }) es
      if e.kind = .detail then linkDetail e es else es
    else es

/-! ## The capture mirror -/

/-- Header copy of an entry after a write of cell word `n`: words h+2 to h+9 alone are copied (R56). -/
def Entry.mirror (e : Entry) (n : Nat) (en : Enables) (w : Word) : Entry :=
  if h : e.header.h + 2 ≤ n ∧ n < e.header.h + 10 then
    { e with copy := e.copy.set (n - e.header.h - 2) (e.copy[n - e.header.h - 2].capture en w) }
  else e

/-- A write of cell word `n`, n not 0, reaches the OPEN or COMPLETE entry of its cell (R56, R57). -/
def mirrorWrite (k : CellKey) (n : Nat) (en : Enables) (w : Word) (s : State) : State :=
  match findLive k s.table.entries with
  | none => s
  | some e => setEntries (completeEntry e.order (changeEntry e.order (·.mirror n en w) s.table.entries)) s

/-- A COMPLETE two-step MARK whose link is absent or a DETAIL that has not ended detaches at a rewrite (R68). -/
def Entry.detaches (e : Entry) : Bool := e.state == .complete && e.kind == .mark && e.detailFollows && e.link != .ended

/-- A rewrite of a cell's word 0: its OPEN or COMPLETE entry detaches or retires, and one rewrite is counted (R68). -/
def rewriteCell (k : CellKey) (s : State) : State :=
  match findLive k s.table.entries with
  | none => s
  | some e =>
    count .rewrites
      (setEntries
        (if e.detaches then changeEntry e.order (fun x => { x with state := .detached }) s.table.entries
         else retireEntry e.order s.table.entries) s)

/-! ## Allocation -/

/-- The snapshot of an ingress MARK entry; D is 0 in NONE mode (R55). -/
def takeSnapshot (p : Port) (s : State) : Snapshot :=
  let items := s.bank.ports[p]
  { latencyIn := items.latencyIn
    asymmetry := items.asymmetry
    delay := match items.delayMode with | .link => s.delays[p].delay | .none => 0 }

/-- An allocation request (R33): cell key, header offset, origin lane, kind, a reading, and the captured words. -/
structure AllocationRequest where
  key : CellKey
  header : HeaderOffset
  origin : Origin
  kind : FrameKind
  reading : Raw
  words : Vector CapturedWord 15
  deriving DecidableEq, Repr

/-- A captured word of a candidate by cell word number; words past 14 are not captured (R28). -/
def wordAt (ws : Vector CapturedWord 15) (n : Nat) : CapturedWord := ws[n]?.getD .empty

/-- The entry a request makes, OPEN, before its words are looked at (R53). -/
def newEntry (r : AllocationRequest) (s : State) : Entry :=
  let h := r.header.h
  { order := s.table.nextOrder
    state := .opened
    key := r.key
    header := r.header
    origin := r.origin
    kind := r.kind
    detailFollows := wordDetailFollows (wordAt r.words h).data
    sequence := wordSequence (wordAt r.words h).data
    domain := wordDomain (wordAt r.words (h + 1)).data
    copy := tab8 fun i => wordAt r.words (h + 2 + i.val)
    rawIn := r.reading
    snapshot := match r.kind, r.origin with
      | .mark, .ingress p => some (takeSnapshot p s)
      | _, _ => none
    link := .absent
    slots := tab6 fun _ => .idle }

/-- An ingress allocation counts as a tracked arrival of its port (R53). -/
def countArrival (o : Origin) (s : State) : State :=
  match o with
  | .ingress p => countPort p .tracked s
  | .processor => s

/-- An allocation request: a new entry, or UNTRACKED when 64 are in use (R53, R54). -/
def allocate (r : AllocationRequest) (s : State) : State :=
  if s.table.entries.length < tableCapacity then
    let e := newEntry r s
    countArrival r.origin
      (s.withTable { entries := completeEntry e.order (s.table.entries ++ [e]), nextOrder := s.table.nextOrder + 1 })
  else raise .untracked (count .untracked s)

/-! ## Egress slots -/

/-- Slot `q` of an entry replaced. -/
def Entry.setSlot (e : Entry) (q : Port) (x : Slot) : Entry := { e with slots := e.slots.set q x }

/-- Slot `q` of the entry with a place in the allocation order replaced. -/
def setSlot (o : Nat) (q : Port) (x : Slot) (s : State) : State :=
  setEntries (changeEntry o (·.setSlot q x) s.table.entries) s

/-- A slot goes to PASSED: its flag raised, one passed read counted; raw_out stays when it had one (R60, R61). -/
def passSlot (e : Entry) (q : Port) (rawOut : Option Raw) (f : Flag) (s : State) : State :=
  raise f (countPort q .passed (setSlot e.order q (.passed rawOut) s))

/-- A slot goes to PATCHED with a computed transit: its flags raised, one patched read counted (R60). -/
def patchSlot (e : Entry) (q : Port) (rawOut : Raw) (c : Computed) (s : State) : State :=
  raiseComputed c (countPort q .patched (setSlot e.order q (.patched rawOut c.held) s))

/-- The snapshot a computation uses; only an ingress MARK entry is computed from one (R55). -/
def Entry.snap (e : Entry) : Snapshot := e.snapshot.getD { latencyIn := 0, asymmetry := 0, delay := 0 }

/-- The held sum of a linked MARK's slot `q`, when the link is present and that slot is SUMMED (R64). -/
def linkedSum (e : Entry) (q : Port) (es : List Entry) : Option Int :=
  match e.link with
  | .entry o =>
    match findOrder o es with
    | some m => match m.slots[q] with
      | .summed _ x => some x
      | _ => none
    | none => none
  | _ => none

/-- The computation for slot `q`, TIMED at `rawOut`, of an entry whose needed words are present (R60, R63, R64, R74). -/
def computeSlot (e : Entry) (q : Port) (rawOut : Raw) (cIn : BitVec 64) (s : State) : State :=
  let mode := s.bank.rounding
  let out := s.bank.ports[q].latencyOut
  match e.kind with
  | .probe => s
  | .mark =>
    if e.detailFollows then setSlot e.order q (.summed rawOut (markSum (rawDiff rawOut e.rawIn) s.time.rho e.snap out)) s
    else patchSlot e q rawOut (computeTransit mode cIn (oneStepSum cIn (rawDiff rawOut e.rawIn) s.time.rho e.snap out)) s
  | .detail =>
    match linkedSum e q s.table.entries with
    | none => passSlot e q (some rawOut) .detailUnmatched s
    | some x => patchSlot e q rawOut (computeTransit mode cIn (detailSum cIn x)) s
  | .echo =>
    let src := e.requester.getD 0
    match findResponder q e.sequence src s with
    | none => passSlot e q (some rawOut) .echoUnmatched s
    | some r =>
      removeResponder q e.sequence src
        (patchSlot e q rawOut
          (computeTransit mode cIn (echoSum cIn (rawDiff rawOut r.t2) s.time.rho s.bank.ports[q].latencyIn out)) s)

/-- The transit words of an entry can be computed: C_in is present, and for an ECHO the requester identifier too (R60). -/
def Entry.computable (e : Entry) : Option (BitVec 64) :=
  match e.kind with
  | .echo => if e.requester.isSome then e.cIn else none
  | _ => e.cIn

/-- The first transit-word read settles slot `q` (R60). A PROBE's slot, and a slot already settled, are left (R61, R62). -/
def settleSlot (e : Entry) (q : Port) (s : State) : State :=
  if e.kind = .probe then s
  else match e.slots[q] with
    | .idle => passSlot e q none .order s
    | .timed rawOut =>
      match e.computable with
      | none => passSlot e q (some rawOut) .order s
      | some c => computeSlot e q rawOut c s
    | _ => s

/-- The egress instant of port `q`: slot `q` becomes TIMED at this reading; a PROBE gives the Delay Unit its transmit
hand-off (R59, R62). -/
def timeSlot (e : Entry) (q : Port) (s : State) : State :=
  let s := setSlot e.order q (.timed s.time.raw) s
  if e.kind = .probe then transmitHandoff q e.sequence s.time.raw s else s

/-- A read of cell word `n` of a cell by the egress lane of port `q` acts on the entry of the cell (R58 to R62). -/
def egressRead (k : CellKey) (n : Nat) (q : Port) (s : State) : State :=
  match findLive k s.table.entries with
  | none => s
  | some e =>
    if n = 0 then timeSlot e q s
    else if n = e.header.h + 2 ∨ n = e.header.h + 3 then settleSlot e q s
    else s

/-- The word that read returns to the fabric, after it has acted: a transit word from a PATCHED slot's held value, and
otherwise the memory's data (R61, R88). -/
def egressData (k : CellKey) (n : Nat) (q : Port) (memoryData : Word) (s : State) : Word :=
  match findLive k s.table.entries with
  | none => memoryData
  | some e =>
    match e.slots[q] with
    | .patched _ held => if n = e.header.h + 2 then highWord held else if n = e.header.h + 3 then lowWord held else memoryData
    | _ => memoryData

/-! ## Age and emptying -/

/-- An entry's age has reached the limit of this tick and of the bank in force (R40, R70; log 6). -/
def ageDue (e : Entry) (s : State) : Bool :=
  elapsed s.time.raw e.rawIn s.tickLimits.age && elapsed s.time.raw e.rawIn s.bank.timerLimits.age

/-- The table emptied, counting nothing (R71, R73). -/
def emptyTable (s : State) : State := setEntries [] s

end Sys2Proof.Machine
end

