-- ==== Sys2Proof/Machine/Swap.lean ====
section
/-! DEFINITION. The swap and every owner's part in it (09 R158 to R163; 01 R17; 04 R72), the rollover (03 R45) and the step
of station time (03 R46), which may give a rollover and so a pending swap. -/

namespace Sys2Proof.Machine

/-! ## Status words -/

/-- The status word of a slot replaced. -/
def setStatus (slot : Fin 16) (x : SlotStatus) (s : State) : State :=
  s.withMonitor { s.monitor with status := s.monitor.status.set slot x }

/-- The slot that gave a pending swap still holds it: its status word still shows PENDING, for every command taken in a
slot rewrites its status word (R159, R166; log 15). -/
def slotHoldsSwap (slot : Fin 16) (s : State) : Bool := s.monitor.status[slot].result == .pending

/-- The status word of the slot that gave the swap rewritten, keeping tag and code, and the Commands block requested, if
the slot still holds the swap (R159, R161, R163, R166). -/
def rewriteSwapStatus (slot : Fin 16) (r : CommandResult) (s : State) : State :=
  if slotHoldsSwap slot s then request [.commands] (setStatus slot { s.monitor.status[slot] with result := r } s) else s

/-! ## The decode change -/

/-- A fabric access is in progress: its first word has passed (R17; log 14). -/
def accessInProgress (s : State) : Bool :=
  match s.arbiter.current with
  | none => false
  | some a => decide (0 < a.passed)

/-- Window `n` differs between the decode in force and the active bank (R17). -/
def windowChanges (n : Fin 4) (s : State) : Bool := s.decode.pool[n] != s.bank.pool[n]

/-- The entries of changed windows retired, in every state, counting nothing (R72). -/
def retireChanged (s : State) : State :=
  let os := (s.table.entries.filter fun e => windowChanges e.key.window s).map (·.order)
  setEntries (retireEntries os s.table.entries) s

/-- The candidates of changed windows dropped (R17, R37). -/
def dropChanged (s : State) : State :=
  s.withCandidates (tab7 fun n => s.candidates[n].filter fun c => !windowChanges c.key.window s)

/-- The decode change, when no fabric access is in progress: changed windows are found, their entries and candidates end,
and the decode follows the active bank (R17). -/
def decodeChange (s : State) : State :=
  if accessInProgress s then s
  else
    let s := dropChanged (retireChanged s)
    s.withDecode { pool := s.bank.pool, exclusion := s.bank.exclusion }

/-! ## The swap -/

/-- The other bank letter. -/
def BankName.other : BankName → BankName
  | .a => .b
  | .b => .a

/-- The staged bank becomes active and the request none (R158, R159, R162), with the Status block requested (R173). -/
def exchangeBanks (s : State) : State :=
  request [.status] (s.withProfiles { s.profiles with active := s.profiles.active.other, swap := .none })

/-- A swap: the banks are exchanged and every owner acts (R162; log 11). The Pulse Generator takes its items before the
Discipline Unit takes its own, so that R149 finds a pulse that was active before the swap also where the discipline's
change of state then ends it (R147). -/
def performSwap (s : State) : State :=
  let old := s.bank
  swapDiscipline old (swapPulses old (clampRates (swapDelays old (decodeChange (exchangeBanks s)))))

/-- A pending swap takes place at a rollover (R159). -/
def swapAtRollover (s : State) : State :=
  match s.profiles.swap with
  | .pending slot => rewriteSwapStatus slot .done (performSwap s)
  | _ => s

/-- A pending swap cancelled, by PROFILE_CANCEL or RESTART (R161, R163). -/
def cancelSwap (s : State) : State :=
  match s.profiles.swap with
  | .pending slot => rewriteSwapStatus slot .cancelled (request [.status] (s.withProfiles { s.profiles with swap := .none }))
  | _ => s

/-! ## Rollover and step -/

/-- The seconds of station time now differ from those last seen (R45). -/
def rolloverDue (s : State) : Bool := s.now.sec != s.time.secondsSeen

/-- A station second rollover: the record is re-anchored, and the event goes to the Report Writer and, for a pending
swap, to the Profile Store; the Pulse Generator takes no action on it (R45, R145, R159, R173). -/
def giveRollover (s : State) : State :=
  let s := s.withTime { s.time.reanchor with secondsSeen := s.now.sec }
  swapAtRollover (request rolloverBlocks s)

/-- The T_w of every waiting Seen-Mark record moved by a step amount (R120). -/
def shiftWaiting (a : Int) (s : State) : State :=
  s.withDisc { s.disc with seen := s.disc.seen.map fun m => if m.awaiting then { m with tw := m.tw.add a } else m }

/-- A step of station time by a signed amount (R46, R120): the record, STEPPED, the waiting T_w, a rollover if the second
changed, the Pulse Generator. -/
def stepTime (a : Int) (s : State) : State :=
  let s := shiftWaiting a (raise .stepped (s.withTime (s.time.step a)))
  let s := if rolloverDue s then giveRollover s else s
  stepPulses s

end Sys2Proof.Machine
end

