-- ==== Sys2Proof/Machine/Samples.lean ====
section
/-! DEFINITION. Offset samples: how the Discipline Unit tests hand-offs, forms θ and answers a sample in each state
(07 R115 to R126, R129, R130, R132; 08 R138, R139). -/

namespace Sys2Proof.Machine

/-! ## Answering a sample -/

/-- A threshold or limit in ns, in fine units (chapter 07: "compared in fine units, after multiplying by 65,536"). -/
def nsFn (n : Nat) : Int := n * 65536

/-- The size of an offset. -/
def absFn (x : Int) : Int := if x < 0 then -x else x

/-- u of a PI update: θ clamped to ±2^40 fn, divided by 64 and rounded down (R126). -/
def piInput (theta : Int) : Int := clampInt (-1099511627776) 1099511627776 theta / 64

/-- The PI update: ρ_i, then ρ, each clamped to the rate limit (R126). -/
def piUpdate (theta : Int) (s : State) : State :=
  let u := piInput theta
  let s := giveRhoI (s.disc.rhoI - u / (2 ^ s.bank.discipline.ki : Nat)) s
  giveRho (s.disc.rhoI - u / (2 ^ s.bank.discipline.kp : Nat)) s

/-- The sample becomes the last sample (R132). -/
def recordSample (c : SampleClass) (theta : Int) (o : SampleOrigin) (s : State) : State :=
  s.withDisc { s.disc with last := some { cls := c, theta := theta, origin := o } }

/-- An UNORDERED sample: recorded, counted as rejected, SAMPLE_REJECTED under the policy SIGNAL (R122 to R125, R132). -/
def rejectUnordered (o : SampleOrigin) (s : State) : State :=
  raiseIf (s.bank.unordered == .signal) .sampleRejected (count .samplesRejected (recordSample .unordered 0 o s))

/-- The lock count becomes `n`; at 8 the state becomes LOCKED with both counts 0 (R123). -/
def setLockCount (n : Nat) (s : State) : State :=
  if 8 ≤ n then setDiscState .locked (s.withDisc { s.disc with lockCount := 0, rejectCount := 0 })
  else s.withDisc { s.disc with lockCount := n }

/-- The reject count goes up by one; at 4 the state becomes ACQUIRE (R124). -/
def addReject (s : State) : State :=
  if 4 ≤ s.disc.rejectCount + 1 then enterAcquire s
  else s.withDisc { s.disc with rejectCount := s.disc.rejectCount + 1 }

/-- A sample with a value in ACQUIRE steps: its size is above the step threshold, and that is not 0 (R123). -/
def stepsOn (theta : Int) (s : State) : Bool :=
  s.bank.discipline.stepThreshold != 0 && decide (nsFn s.bank.discipline.stepThreshold < absFn theta)

/-- A sample with a value in ACQUIRE (R123, R129). The step is taken last, so that what it brings about (a rollover, a
pending swap) meets the sample's own bookkeeping done. -/
def answerAcquire (theta : Int) (o : SampleOrigin) (s : State) : State :=
  if stepsOn theta s then
    stepTime (-theta)
      (count .samplesAccepted (recordSample .stepped theta o (s.withDisc { s.disc with lockCount := 0 })))
  else
    let lock := if absFn theta < nsFn s.bank.discipline.lockThreshold then s.disc.lockCount + 1 else 0
    setLockCount lock (count .samplesAccepted (recordSample .updated theta o (piUpdate theta s)))

/-- A sample with a value in LOCKED (R124). -/
def answerLocked (theta : Int) (o : SampleOrigin) (s : State) : State :=
  if absFn theta ≤ nsFn s.bank.discipline.gateLimit then
    let s := count .samplesAccepted (recordSample .updated theta o (piUpdate theta s))
    s.withDisc { s.disc with rejectCount := 0 }
  else addReject (raise .sampleRejected (count .samplesRejected (recordSample .above theta o s)))

/-- A sample with a value, by the state it meets (R122 to R125). -/
def answerValue (theta : Int) (o : SampleOrigin) (s : State) : State :=
  match s.disc.state with
  | .freeRun => answerAcquire theta o (enterAcquire s)
  | .acquire => answerAcquire theta o s
  | .locked => answerLocked theta o s
  | .holdover => answerAcquire theta o (enterAcquire s)

/-- An UNORDERED sample, by the state it meets (R122 to R125). -/
def answerUnordered (o : SampleOrigin) (s : State) : State :=
  match s.disc.state with
  | .freeRun => rejectUnordered o s
  | .acquire => let s := rejectUnordered o s; s.withDisc { s.disc with lockCount := 0 }
  | .locked => addReject (rejectUnordered o s)
  | .holdover => rejectUnordered o s

/-- Tests 5 and 6 of R115 for a sample, UNORDERED when `theta` is absent: under hold it is discarded and counted (R130);
otherwise the active source follows a network sample (R113), the missing timer starts again (R114), and the state
answers. -/
def takeSample (theta : Option Int) (o : SampleOrigin) (s : State) : State :=
  if s.disc.hold then count .samplesRejected s
  else
    let src := match o with
      | .network _ => .network
      | .input => s.disc.source
    let s := startMissing (s.withDisc { s.disc with source := src })
    match theta with
    | some x => answerValue x o s
    | none => answerUnordered o s

/-! ## Network hand-offs -/

/-- What the Frame Recognizer hands to the Discipline Unit (R34). -/
structure NetworkHandoff where
  port : Port
  rawIn : Raw
  detail : Bool
  detailFollows : Bool
  sequence : BitVec 16
  domain : BitVec 8
  transit : BitVec 64
  originSec : BitVec 32
  originNs : BitVec 32
  source : Ident
  deriving DecidableEq, Repr

/-- T_w less an origin stamp, in fine units; the origin nanoseconds are used as carried and the origin's fraction is 0
(R47, R119). -/
def originDiff (tw : StationTime) (sec ns : BitVec 32) : Int :=
  (tw.sec - sec).toInt * 65536000000000 + ((tw.ns.val : Int) - ns.toNat) * 65536 + tw.frac.toNat

/-- The offset θ from a record, an origin stamp and a transit in frame units (R119). -/
def offsetSample (m : SeenMark) (sec ns : BitVec 32) (transit : Int) : Int :=
  originDiff m.tw sec ns - transit * 256 - m.asymmetry.toInt * 256 - m.delay

/-- The Seen-Mark record is of this source and sequence (R118). -/
def SeenMark.names (m : SeenMark) (src : Ident) (seq : BitVec 16) : Bool := m.source == src && m.sequence == seq

/-- The capacity of the Seen-Mark list (R118). -/
def seenCapacity : Nat := 8

/-- The record a MARK enters (R118). -/
def newSeenMark (m : NetworkHandoff) (s : State) : SeenMark :=
  let items := s.bank.ports[m.port]
  { source := m.source
    sequence := m.sequence
    port := m.port
    tw := (s.time.convert m.rawIn).add (-((items.latencyIn : Int) * 256))
    cIn := m.transit
    asymmetry := items.asymmetry
    delay := match items.delayMode with | .link => s.delays[m.port].delay | .none => 0
    awaiting := m.detailFollows }

/-- A record joins the tail of the Seen-Mark list, a full list losing its head (R118). -/
def joinSeen (l : List SeenMark) (m : SeenMark) : List SeenMark := (if seenCapacity ≤ l.length then l.drop 1 else l) ++ [m]

/-- A MARK at test 4: a duplicate is counted; a new one is entered, and a one-step one gives its sample (R118, R119). -/
def takeMark (m : NetworkHandoff) (s : State) : State :=
  if s.disc.seen.any (·.names m.source m.sequence) then count .duplicates s
  else
    let r := newSeenMark m s
    let s := s.withDisc { s.disc with seen := joinSeen s.disc.seen r }
    if m.detailFollows then s
    else
      takeSample (if m.transit = transitUnknown then none else some (offsetSample r m.originSec m.originNs m.transit.toInt))
        (.network m.port) s

/-- A DETAIL pairs with this record: same source, sequence and port, awaiting (R119). -/
def SeenMark.pairs (r : SeenMark) (m : NetworkHandoff) : Bool := r.names m.source m.sequence && r.port == m.port && r.awaiting

/-- A DETAIL at test 4: paired with its record, whose awaiting mark is cleared, or discarded (R119). -/
def takeDetail (m : NetworkHandoff) (s : State) : State :=
  match s.disc.seen.find? (·.pairs m) with
  | none => s
  | some r =>
    let s := s.withDisc { s.disc with seen := s.disc.seen.map fun x => if x.pairs m then { x with awaiting := false } else x }
    takeSample
      (if r.cIn = transitUnknown ∨ m.transit = transitUnknown then none
       else some (offsetSample r m.originSec m.originNs (r.cIn.toInt + m.transit.toInt)))
      (.network m.port) s

/-- Test 4 by kind. -/
def takeHandoff (m : NetworkHandoff) (s : State) : State := if m.detail then takeDetail m s else takeMark m s

/-- Test 3: the source against the latched source (R116). With an expected source the latched source is that value. -/
def testSource (m : NetworkHandoff) (s : State) : State :=
  let expected := s.bank.discipline.expected
  if expected ≠ 0 then
    if m.source = expected then takeHandoff m s else raise .foreignSource s
  else match s.disc.latched with
    | none => if m.detail then s else takeHandoff m (s.withDisc { s.disc with latched := some m.source })
    | some l => if m.source = l then takeHandoff m s else raise .foreignSource s

/-- The discipline domain: entry 0 of the domain list while it is enabled (R25). -/
def Profile.disciplineDomain (p : Profile) : Option (BitVec 8) := if p.domains[0].enable then some p.domains[0].value else none

/-- A network hand-off meets tests 1 and 2, then the others (R115). -/
def networkHandoff (m : NetworkHandoff) (s : State) : State :=
  if !s.bank.discipline.enable || s.bank.discipline.mode == .input then s
  else if s.bank.disciplineDomain = some m.domain then testSource m s
  else s

/-! ## Captures and input hand-offs -/

/-- θ of a captured time: its nanoseconds and fraction folded to the nearest whole second (R121). -/
def foldSecond (t : StationTime) : Int :=
  (if t.ns.val < 500000000 then (t.ns.val : Int) else (t.ns.val : Int) - 1000000000) * 65536 + t.frac.toNat

/-- An input hand-off: discarded unless the discipline is enabled and its active source is INPUT (R121, R139). -/
def inputHandoff (t : StationTime) (s : State) : State :=
  if s.bank.discipline.enable && s.disc.source == .input then takeSample (some (foldSecond t)) .input s else s

/-- The captured time of input `n` now: station time now less the input delay of the active bank (R138). After a swap in
its own tick that is the new bank at once, for CAPTURE_TEST too. DESIGN CHOICE (log 23). -/
def capturedTime (n : Fin 2) (s : State) : StationTime := s.now.add (-(s.bank.inputs[n].inputDelay * 65536))

/-- A capture on input `n` (R138): the record, the overrun, the Captures block, and I0's hand-off. -/
def capture (n : Fin 2) (s : State) : State :=
  let t := capturedTime n s
  let c := s.captures[n]
  let s := s.withCaptures (s.captures.set n { c with time := t, count := c.count + 1, pending := true })
  let s := request [.captures] (raiseIf c.pending .captureOverrun s)
  if n = 0 then inputHandoff t s else s

/-- The level an input shows after a change in its active direction (R137). -/
def EdgePolarity.activeLevel : EdgePolarity → Bool
  | .rising => true
  | .falling => false

/-- The level of input `n` recorded; the input is sampled once a tick, so this tick brings no other change (R137). -/
def recordLevel (n : Fin 2) (level : Bool) (s : State) : State :=
  s.withCaptures (s.captures.set n { s.captures[n] with level := level, sampling := .taken })

/-- The sampling of an input at the next tick (R137): the first tick after release takes the level that RESET_RELEASE
carries, and every later one may find a change (log 4, log 19). -/
def Sampling.next : Sampling → Sampling
  | .starting => .taken
  | .taken => .ready
  | .ready => .ready

/-- Both inputs at the next tick (R137). -/
def sampleInputs (s : State) : State :=
  s.withCaptures (tab2 fun n => { s.captures[n] with sampling := s.captures[n].sampling.next })

end Sys2Proof.Machine
end

