-- ==== Sys2Proof/Machine/Recognizer.lean ====
section
/-! DEFINITION. The Frame Recognizer: candidates, decisions and hand-offs (02 R20 to R37), and a cell word write as a whole
(01 R5). -/

namespace Sys2Proof.Machine

/-- The candidate index of an origin lane: the lane code, 0 for the processor, p + 1 for the ingress lane of port p. -/
def Origin.index : Origin → Fin 7
  | .processor => 0
  | .ingress p => ⟨p.val + 1, by omega⟩

/-- The origin lane of a candidate index. -/
def originOf (n : Fin 7) : Origin := if h : n.val = 0 then .processor else .ingress ⟨n.val - 1, by omega⟩

/-- The candidate of a lane replaced. -/
def setCandidate (n : Fin 7) (c : Option Candidate) (s : State) : State := s.withCandidates (s.candidates.set n c)

/-- Captured cell word `n` of a candidate. -/
def Candidate.word (c : Candidate) (n : Nat) : CapturedWord := wordAt c.words n

/-- Cell words `n` to `n + k - 1` of a candidate are present (R30). -/
def Candidate.present (c : Candidate) (n k : Nat) : Bool := (List.range' n k).all fun i => (c.word i).isPresent

/-- A 64-bit field at cell words `n` and `n + 1`. -/
def Candidate.field64 (c : Candidate) (n : Nat) : BitVec 64 := joinWords (c.word n).data (c.word (n + 1)).data

/-- The type code: the lower half of a word (R20). -/
def typeCode (w : Word) : BitVec 16 := w.extractLsb' 0 16

/-- What the type decision says (R21). -/
inductive TypeDecision where
  | notYet
  | drop
  | frame (h : HeaderOffset)
  deriving DecidableEq, Repr

/-- The type decision of an undecided candidate (R21). -/
def Candidate.typeDecision (c : Candidate) (p : Profile) : TypeDecision :=
  if !c.present 3 1 then .notYet
  else if typeCode (c.word 3).data = p.tagType then
    if !c.present 4 1 then .notYet
    else if typeCode (c.word 4).data = p.frameType then .frame .five else .drop
  else if typeCode (c.word 3).data = p.frameType then .frame .four
  else .drop

/-- A domain passes the domain check (R25). -/
def Profile.passesDomain (p : Profile) (d : BitVec 8) : Bool := p.domains.toList.any fun e => e.enable && e.value == d

/-- Step 3 of the allocation decision (R31): dropped, continued, or continued with an allocation request. -/
inductive LaneDecision where
  | drop
  | proceed (k : FrameKind)
  | request (k : FrameKind)
  deriving DecidableEq, Repr

/-- The table of R31 by origin lane and kind. -/
def laneDecision (o : Origin) (k : Option FrameKind) : LaneDecision :=
  match o, k with
  | .ingress _, some .mark => .request .mark
  | .ingress _, some .detail => .request .detail
  | .ingress _, some .probe => .proceed .probe
  | .ingress _, some .echo => .proceed .echo
  | .processor, some .probe => .request .probe
  | .processor, some .echo => .request .echo
  | .processor, some .mark => .drop
  | .processor, some .detail => .drop
  | _, none => .drop

/-- How many words from h on the completion of this lane and kind needs (R32). No candidate of the processor's lane goes on as a
MARK or DETAIL (R31). -/
def completionWords (o : Origin) (k : FrameKind) : Option Nat :=
  match o, k with
  | .ingress _, .mark => some 8
  | .ingress _, .detail => some 8
  | .ingress _, .probe => some 8
  | .ingress _, .echo => some 10
  | .processor, .probe => some 2
  | .processor, .echo => some 10
  | .processor, .mark => none
  | .processor, .detail => none

/-- The kind a discipline sample carries is a DETAIL's (R34): like all it carries, the kind is the captured one of that moment (R30);
where h+0 has been rewritten to a kind that is neither MARK nor DETAIL, it is the kind the candidate went on with (log 12). -/
def Candidate.carriesDetail (c : Candidate) (k : FrameKind) (h : Nat) : Bool :=
  match wordKind (c.word h).data with
  | some .mark => false
  | some .detail => true
  | _ => k == .detail

/-- The hand-off of a completed MARK or DETAIL (R34). -/
def Candidate.handoff (c : Candidate) (p : Port) (h : Nat) (detail : Bool) : NetworkHandoff where
  port := p
  rawIn := c.arrival
  detail := detail
  detailFollows := wordDetailFollows (c.word h).data
  sequence := wordSequence (c.word h).data
  domain := wordDomain (c.word (h + 1)).data
  transit := c.field64 (h + 2)
  originSec := (c.word (h + 4)).data
  originNs := (c.word (h + 5)).data
  source := c.field64 (h + 6)

/-- The hand-offs of a completion (R32, R34 to R36), by the kind `k` of the allocation decision. A processor candidate hands
nothing further on. The delay mode is read and the hand-off made in one event: after a swap to NONE in the same tick an ECHO
gives no hand-off and no flag, as the completion row of R110 says, and never the ECHO_STRAY that its clearing row says of a
hand-off that meets a cleared list. DESIGN CHOICE (log 25). -/
def completionHandoffs (o : Origin) (k : FrameKind) (c : Candidate) (h : Nat) (s : State) : State :=
  match o with
  | .processor => s
  | .ingress p =>
    let items := s.bank.ports[p]
    let seq := wordSequence (c.word h).data
    match k with
    | .mark => if items.upstreamEligible then networkHandoff (c.handoff p h (c.carriesDetail .mark h)) s else s
    | .detail => if items.upstreamEligible then networkHandoff (c.handoff p h (c.carriesDetail .detail h)) s else s
    | .probe =>
      match items.delayMode with
      | .link => responderHandoff p { sequence := seq, source := c.field64 (h + 6), t2 := c.arrival } s
      | .none => s
    | .echo =>
      if c.field64 (h + 8) = s.bank.localId ∧ items.delayMode = .link then
        echoHandoff p seq (c.field64 (h + 2)) c.arrival s
      else s

/-- The type decision, taken once (R21, R30): the state, with the candidate that goes on. -/
def decideType (n : Fin 7) (c : Candidate) (s : State) : State × Option Candidate :=
  match c.header with
  | some _ => (s, some c)
  | none =>
    match c.typeDecision s.bank with
    | .notYet => (s, some c)
    | .drop => (setCandidate n none s, none)
    | .frame h => let c := { c with header := some h }; (setCandidate n (some c) s, some c)

/-- The allocation decision, taken once when h+0 and h+1 are present (R30, R31): version, domain, kind and lane. -/
def decideAllocation (n : Fin 7) (c : Candidate) (s : State) : State × Option Candidate :=
  match c.header with
  | none => (s, some c)
  | some ho =>
    let h := ho.h
    if c.allocated.isSome || !c.present h 2 then (s, some c)
    else if wordVersion (c.word h).data ≠ s.bank.version then (count .versionMismatch (setCandidate n none s), none)
    else if !s.bank.passesDomain (wordDomain (c.word (h + 1)).data) then (setCandidate n none s, none)
    else
      let o := originOf n
      let went := fun k => { c with allocated := some k }
      match laneDecision o (wordKind (c.word h).data) with
      | .drop => (setCandidate n none s, none)
      | .proceed k => (setCandidate n (some (went k)) s, some (went k))
      | .request k =>
        let reading := match o with
          | .ingress _ => c.arrival
          | .processor => s.time.raw
        (allocate { key := c.key, header := ho, origin := o, kind := k, reading := reading, words := c.words }
          (setCandidate n (some (went k)) s), some (went k))

/-- The completion decision (R30, R32), once the allocation decision is taken: with the words present that its kind needs, the
candidate ends and makes its hand-offs. An entry made from it has the same kind and sees the same writes, and becomes COMPLETE in
the same step (R57). -/
def decideCompletion (n : Fin 7) (c : Candidate) (s : State) : State :=
  match c.header, c.allocated with
  | some ho, some k =>
    let o := originOf n
    match completionWords o k with
    | none => s
    | some words => if c.present ho.h words then completionHandoffs o k c ho.h (setCandidate n none s) else s
  | _, _ => s

/-- The decisions whose words are present, in their order; one that drops the candidate is the last (R30). -/
def takeDecisions (n : Fin 7) (c : Candidate) (s : State) : State :=
  match decideType n c s with
  | (s, none) => s
  | (s, some c) =>
    match decideAllocation n c s with
    | (s, none) => s
    | (s, some c) => decideCompletion n c s

/-- A write of cell word `w` in 1 to 14, by any lane, captured by the candidate of lane `n` when it is on this cell
(R28, R29), and the decisions that follow (R30). A write of word 15 or above is not captured and takes no decision: R29 says so of
the other lanes; of the candidate's own lane it is open whether R30's "each write that reaches an open candidate" means it too,
which shows only where a swap of the priority-tag type has made the type decision possible since. DESIGN CHOICE (log 27). -/
def captureWrite (k : CellKey) (w : Nat) (en : Enables) (data : Word) (s : State) (n : Fin 7) : State :=
  match s.candidates[n] with
  | none => s
  | some c =>
    if h : c.key = k ∧ w < 15 then
      let c := { c with words := c.words.set w (c.words[w].capture en data) }
      takeDecisions n c (setCandidate n (some c) s)
    else s

/-- The seven candidate lanes. -/
def allLanes : List (Fin 7) := [0, 1, 2, 3, 4, 5, 6]

/-- The candidates on a cell dropped, but for that of the writing lane, at a word-0 write (R29). -/
def dropOthers (k : CellKey) (own : Option (Fin 7)) (s : State) : State :=
  s.withCandidates (tab7 fun n => s.candidates[n].filter fun c => !(c.key == k && own != some n))

/-- The candidate that a tracked word-0 write opens (R27). -/
def openedCandidate (k : CellKey) (en : Enables) (data : Word) (raw : Raw) : Candidate where
  key := k
  arrival := raw
  words := (Vector.replicate 15 CapturedWord.empty).set 0 (CapturedWord.empty.capture en data)
  header := none
  allocated := none

/-- The classes a lane falls into (R5). -/
inductive LaneClass where
  | processor
  | ingress (p : Port)
  | egress (q : Port)
  | other
  deriving DecidableEq, Repr

/-- The lane class of a lane code (R5): 0 processor, p + 1 ingress, q + 9 egress, 7, 8 and 15 other. -/
def laneClass (lane : BitVec 4) : LaneClass :=
  let n := lane.toNat
  if n = 0 then .processor
  else if h : n ≤ 6 then .ingress ⟨n - 1, by omega⟩
  else if h : 9 ≤ n ∧ n ≤ 14 then .egress ⟨n - 9, by omega⟩
  else .other

/-- The candidate lane of a writing lane; egress and other lanes have none (section 2.4). -/
def LaneClass.candidate : LaneClass → Option (Fin 7)
  | .processor => some 0
  | .ingress p => some (Origin.index (.ingress p))
  | .egress _ => none
  | .other => none

/-- A window lets this lane's writes reach the Frame Recognizer (R5, R10). -/
def tracks (w : PoolWindow) : LaneClass → Bool
  | .processor => w.processorTracking
  | .ingress _ => w.ingressTracking
  | .egress _ => false
  | .other => false

/-- The Frame Recognizer at a word-0 write: other lanes' candidates on the cell drop, and a tracked lane's candidate is
opened (R27, R29). -/
def openWrite (k : CellKey) (l : LaneClass) (en : Enables) (data : Word) (s : State) : State :=
  let s := dropOthers k l.candidate s
  match l.candidate with
  | none => s
  | some n => if tracks s.decode.pool[k.window] l then setCandidate n (some (openedCandidate k en data s.time.raw)) s else s

/-- A write word to a pool cell, with an enable set: the Residence Table, then the Frame Recognizer (R5). -/
def cellWrite (k : CellKey) (n : Nat) (l : LaneClass) (en : Enables) (data : Word) (s : State) : State :=
  if n = 0 then openWrite k l en data (rewriteCell k s)
  else allLanes.foldl (captureWrite k n en data) (mirrorWrite k n en data s)

/-- All candidates dropped (R37). -/
def dropCandidates (s : State) : State := s.withCandidates (tab7 fun _ => none)

end Sys2Proof.Machine
end

