-- ==== Sys2Proof/Machine/Operands.lean ====
section
/-! DEFINITION. What the next word of the access in progress is to the part (01 R2, R5 to R8, R16, R18), how it passes
between the ports (R3), and the operands of a software command (10 R164, R165; section 11.2). -/

namespace Sys2Proof.Machine

/-! ## The decode of an address -/

/-- A pool window contains a word address, compared as plain integers (R10); the end of memory bounds it by itself. -/
def PoolWindow.contains (w : PoolWindow) (a : Nat) : Bool :=
  w.enable && decide (w.base ≤ a ∧ a < w.base + w.cellSize * w.cellCount)

/-- An exclusion window contains a word address (R9). -/
def ExclusionWindow.contains (w : ExclusionWindow) (a : Nat) : Bool := w.enable && decide (w.base ≤ a ∧ a < w.base + w.size)

/-- The lowest-numbered pool window that contains a word address (R6). -/
def WindowSet.claims (d : WindowSet) (a : Nat) : Option (Fin 4) := [0, 1, 2, 3].find? fun n : Fin 4 => d.pool[n].contains a

/-- The command base: the strap value times 16,384 (R8). -/
def State.commandBase (s : State) : Nat := s.straps.base.toNat * 16384

/-- The start of the report area: the command base plus 1,024 (R8). -/
def State.reportBase (s : State) : Nat := s.commandBase + 1024

/-- The classes of a word address (R6). -/
inductive WordClass where
  | command (slot : Fin 16) (word : Fin 8)
  | report
  | excluded
  | pool (key : CellKey) (offset : Nat)
  | untouched
  deriving DecidableEq, Repr

/-- The class of a word address: the first of R6's classes that contains it; a pool word with its cell key and cell word
offset, counted from the window's base (R6, R7). -/
def State.wordClass (s : State) (a : WordAddress) : WordClass :=
  let n := a.toNat
  if s.commandBase ≤ n ∧ n < s.commandBase + 128 then
    .command ⟨(n - s.commandBase) / 8 % 16, Nat.mod_lt _ (by decide)⟩ ⟨(n - s.commandBase) % 8, Nat.mod_lt _ (by decide)⟩
  else if s.reportBase ≤ n ∧ n < s.reportBase + 1024 then .report
  else if s.decode.exclusion[0].contains n || s.decode.exclusion[1].contains n then .excluded
  else match s.decode.claims n with
    | some w =>
      let p := s.decode.pool[w]
      .pool { window := w, index := (n - p.base) / p.cellSize } ((n - p.base) % p.cellSize)
    | none => .untouched

/-! ## The next word -/

/-- The address of an access's next word: one further for each word passed, modulo 2^22 (R2). -/
def Access.next (a : Access) : WordAddress := a.start + BitVec.ofNat 22 a.passed

/-- The access in progress that has a word still to pass. -/
def State.wordAccess (s : State) : Option Access :=
  match s.arbiter.current with
  | some a => if a.passed < a.length then some a else none
  | none => none

/-- What the next word reaches (R5). -/
inductive Route where
  /-- No block: the word passes between the ports. -/
  | pass
  /-- The Command Monitor takes a command in this slot (R165). -/
  | command (slot : Fin 16)
  /-- The shadow of words 1-7 of this slot; `word` 0 is slot word 1 (R164). -/
  | shadow (slot : Fin 16) (word : Fin 7)
  /-- The Residence Table, and the Frame Recognizer as the window tracks (R5). -/
  | cellWrite (key : CellKey) (offset : Nat) (lane : LaneClass)
  /-- The Residence Table, by the egress lane of this port (R5). -/
  | cellRead (key : CellKey) (offset : Nat) (q : Port)
  deriving DecidableEq, Repr

/-- Words pass undecoded: reset is held, the part is in bypass, or the access began in reset (R16, R18). -/
def State.undecoded (s : State) (a : Access) : Bool := s.resetHeld || s.straps.bypass || a.passThrough

/-- A processor-lane write in the command area: with all enables set word 0 takes a command, words 1-7 update the shadow;
a word 0 with one to three enables reaches nothing (R164, R165; log 16). -/
def commandRoute (slot : Fin 16) (word : Fin 8) (en : Enables) : Route :=
  if h : word.val = 0 then (if en = 0b1111 then .command slot else .pass) else .shadow slot ⟨word.val - 1, by omega⟩

/-- Where a write word with these enables goes; with no enable set it is no write event (R2, R5). -/
def State.writeRoute (s : State) (a : Access) (en : Enables) : Route :=
  if s.undecoded a || en == 0 then .pass
  else match s.wordClass a.next with
    | .command slot word => if laneClass a.lane = .processor then commandRoute slot word en else .pass
    | .pool key n => .cellWrite key n (laneClass a.lane)
    | _ => .pass

/-- Where a read word goes: only an egress lane's read of a pool cell reaches a block (R5). -/
def State.readRoute (s : State) (a : Access) : Route :=
  if s.undecoded a then .pass
  else match s.wordClass a.next with
    | .pool key n => match laneClass a.lane with
      | .egress q => .cellRead key n q
      | _ => .pass
    | _ => .pass

/-- Where the next word of the access in progress goes, for a write with these enables; no route when there is no such
word. -/
def State.route (s : State) (en : Enables) : Option (Access × Route) :=
  match s.wordAccess with
  | none => none
  | some a => match a.direction with
    | .write => some (a, s.writeRoute a en)
    | .read => some (a, s.readRoute a)

/-! ## Passing -/

/-- The access in progress has passed one more word; one whose first word passes in reset passes whole (R2, R18). -/
def advance (s : State) : State :=
  s.withArbiter
    { s.arbiter with
      current := s.arbiter.current.map fun a => { a with passed := a.passed + 1, passThrough := a.passThrough || s.resetHeld } }

/-- A write word passes to the memory port with the fabric's data and enables (R3). -/
def passWrite (a : WordAddress) (en : Enables) (data : Word) (s : State) : State :=
  advance ((s.withMemory (s.memory.writeWord a en data)).withPorts { s.ports with memory := some (.write a en data) })

/-- A read word passes: the memory port reads, and `data` goes to the fabric (R3). -/
def passRead (a : WordAddress) (data : Word) (s : State) : State :=
  advance (s.withPorts { memory := some (.read a), fabric := some data })

/-- The next word passes and reaches no block: a write with these enables and data, or a read answered from memory. -/
def passPlain (a : Access) (en : Enables) (data : Word) (s : State) : State :=
  match a.direction with
  | .write => passWrite a.next en data s
  | .read => passRead a.next (s.memory.readWord a.next) s

/-! ## Command words -/

/-- The word-0 write of a command: code, tag, immediate (section 11.2). -/
def commandWord (code tag : BitVec 8) (imm : BitVec 16) : Word := code ++ tag ++ imm

/-- Word 1 to 7 of a slot's shadow; `n` is 0 for word 1. -/
def shadowWord (slot : Fin 16) (n : Fin 7) (s : State) : Word := s.monitor.shadows[slot][n]

/-- The shadow of a slot word after a write of its enabled octets (R164). -/
def writeShadow (slot : Fin 16) (n : Fin 7) (en : Enables) (data : Word) (s : State) : State :=
  s.withMonitor
    { s.monitor with
      shadows := s.monitor.shadows.set slot (s.monitor.shadows[slot].set n (mergeWord (shadowWord slot n s) data en)) }

end Sys2Proof.Machine
end

