-- ==== Sys2Proof/Machine/Report.lean ====
section
/-! DEFINITION. The report blocks: where each lies and what its words hold (10 R170, R172; 11 R177, section 11.4). -/

namespace Sys2Proof.Machine

/-- The offset of a block in the report area (section 11.4). -/
def BlockKind.offset : BlockKind → Nat
  | .status => 0
  | .discipline => 16
  | .port p => 32 + 16 * p.val
  | .commands => 128
  | .captures => 160
  | .counters => 176

/-- A word of four octet fields, bits 31-24 first. -/
def octetFields (a b c d : Nat) : Word := octetsWord (BitVec.ofNat 8 a) (BitVec.ofNat 8 b) (BitVec.ofNat 8 c) (BitVec.ofNat 8 d)

/-- An off/on or set/clear field (R177). -/
def boolField (b : Bool) : Nat := if b then 1 else 0

/-- The code of a discipline state. -/
def DisciplineState.code : DisciplineState → Nat
  | .freeRun => 0
  | .acquire => 1
  | .locked => 2
  | .holdover => 3

/-- The code of an active source. -/
def ActiveSource.code : ActiveSource → Nat
  | .none => 0
  | .network => 1
  | .input => 2

/-- The code of a bank. -/
def BankName.code : BankName → Nat
  | .a => 0
  | .b => 1

/-- The code of a swap request. -/
def SwapRequest.code : SwapRequest → Nat
  | .none => 0
  | .waiting => 1
  | .pending _ => 2

/-- The code of a sample class; 0 is absent. -/
def SampleClass.code : SampleClass → Nat
  | .updated => 1
  | .stepped => 2
  | .above => 3
  | .unordered => 4

/-- The code of a result (section 11.2). -/
def CommandResult.code : CommandResult → Nat
  | .none => 0
  | .done => 1
  | .clamped => 2
  | .pending => 3
  | .cancelled => 4
  | .busy => 5
  | .unknownCommand => 6
  | .badItem => 7
  | .wrongState => 8

/-- The two bits of a port in the port summary: delay mode, then delay valid (section 11.4). -/
def portSummary (s : State) (p : Port) : Nat :=
  (boolField (s.bank.ports[p].delayMode == .link) + 2 * boolField s.delays[p].valid) * 4 ^ p.val

/-- The data words of the Status block. -/
def statusWords (s : State) : List Word :=
  [ s.now.sec,
    BitVec.ofNat 32 s.now.ns.val,
    BitVec.ofNat 32 s.now.frac.toNat,
    BitVec.ofNat 32 s.report.flags.toNat,
    BitVec.ofNat 32 s.report.enables.toNat,
    octetFields s.disc.state.code (boolField s.disc.state.timeValid) s.profiles.active.code s.profiles.swap.code,
    BitVec.ofNat 32 (allPorts.map (portSummary s)).sum,
    BitVec.ofNat 32 (s.table.entries.length * 65536 + s.straps.base.toNat) ]

/-- The data words of the Discipline block. -/
def disciplineWords (s : State) : List Word :=
  let d := s.disc
  let source := d.latched.getD 0
  let theta : BitVec 96 := match d.last with
    | some l => BitVec.ofInt 96 l.theta
    | none => 0
  [ octetFields d.state.code d.source.code (boolField d.hold) (boolField d.latched.isSome),
    octetFields d.lockCount d.rejectCount 0 0,
    BitVec.ofInt 32 s.time.rho,
    highWord source,
    lowWord source,
    BitVec.ofInt 32 d.rhoI,
    (match d.last with
      | none => 0
      | some l => match l.origin with
        | .network p => octetFields l.cls.code 0 p.val 0
        | .input => octetFields l.cls.code 1 0 0),
    theta.extractLsb' 64 32,
    theta.extractLsb' 32 32,
    theta.extractLsb' 0 32 ]

/-- The data words of the Port p block. -/
def portWords (p : Port) (s : State) : List Word :=
  let d := s.delays[p]
  let c := s.report.ports[p]
  [ octetFields (boolField d.valid) d.ring.length 0 0,
    highWord (BitVec.ofNat 64 d.delay),
    lowWord (BitVec.ofNat 64 d.delay),
    c.tracked,
    c.patched,
    c.passed,
    c.delayAccepted,
    c.delayRejected ]

/-- A slot status word. -/
def SlotStatus.word (x : SlotStatus) : Word := octetsWord (BitVec.ofNat 8 x.result.code) x.tag x.code 0

/-- The four words of a capture record. -/
def captureWords (c : CaptureInput) : List Word :=
  [ c.time.sec,
    BitVec.ofNat 32 c.time.ns.val,
    (c.count ++ c.time.frac : BitVec 32),
    octetFields (boolField c.pending) 0 0 0 ]

/-- The data words of the Counters block. -/
def counterWords (s : State) : List Word :=
  let g := s.report.globals
  [g.untracked, g.aged, g.rewrites, g.versionMismatch, g.samplesAccepted, g.samplesRejected, g.duplicates]

/-- The data words of a block, from the state at its burst's start (R172, R177). -/
def blockData (k : BlockKind) (s : State) : List Word :=
  match k with
  | .status => statusWords s
  | .discipline => disciplineWords s
  | .port p => portWords p s
  | .commands => s.monitor.status.toList.map SlotStatus.word
  | .captures => captureWords s.captures[0] ++ captureWords s.captures[1]
  | .counters => counterWords s

/-- Words at consecutive addresses. -/
def placeWords : Nat → List Word → List (WordAddress × Word)
  | _, [] => []
  | a, w :: ws => (BitVec.ofNat 22 a, w) :: placeWords (a + 1) ws

/-- The words of a block's burst in ascending address order: leading generation, data, trailing generation (R172). -/
def burstWords (k : BlockKind) (s : State) : List (WordAddress × Word) :=
  let g := s.report.generations[k.number]
  placeWords (s.reportBase + k.offset) (g :: blockData k s ++ [g])

end Sys2Proof.Machine
end

