-- ==== Sys2Proof/Machine/Arbiter.lean ====
section
/-! DEFINITION. The memory-port arbiter and the report bursts (01 R4, R12 to R15; 10 R172). -/

namespace Sys2Proof.Machine

/-- The limit of the wait count (R13). -/
def waitLimit : Nat := 64

/-- A report burst starts for block `k`, with `ks` left in the queue (R172): its generation counts one, it takes every
value it shows, and the wait count is 0 (R12, R13). -/
def startBurst (k : BlockKind) (ks : List BlockKind) (s : State) : State :=
  let s := s.withReport
    { s.report with
      queue := ks
      generations := s.report.generations.set k.number (s.report.generations[k.number] + 1) }
  s.withArbiter { s.arbiter with owner := .report, waitCount := 0, burst := some { kind := k, words := burstWords k s } }

/-- The first waiting access is granted the memory port (R12). -/
def grantFabric (a : Access) (rest : List Access) (s : State) : State :=
  s.withArbiter { s.arbiter with owner := .fabric, current := some a, waiting := rest }

/-- The grant at a free port, by the table of R12; a burst started with an access waiting is forced service and raises
REPORT_FORCED (R14). -/
def grant (s : State) : State :=
  match s.arbiter.waiting, s.report.queue with
  | [], [] => s.withArbiter { s.arbiter with owner := .idle }
  | [], k :: ks => startBurst k ks s
  | a :: rest, [] => grantFabric a rest s
  | a :: rest, k :: ks =>
    if s.arbiter.waitCount < waitLimit then grantFabric a rest s else raise .reportForced (startBurst k ks s)

/-- While reset is held no access is held waiting: the first one presented passes, and the owner stays IDLE (R15, R18). -/
def grantHeld (s : State) : State :=
  match s.arbiter.waiting with
  | [] => s
  | a :: rest => s.withArbiter { s.arbiter with current := some a, waiting := rest }

/-- The memory port is free: no access and no burst has it. -/
def portFree (s : State) : Bool := s.arbiter.current.isNone && s.arbiter.burst.isNone

/-- A free port is granted: at the end of an access or burst, and when an access or a report request arrives (R12). -/
def grantIfFree (s : State) : State := if portFree s then (if s.resetHeld then grantHeld s else grant s) else s

/-- The wait count at the end of a fabric access: one more while a report request waits, 64 at most, 0 when the queue is
empty (R13). -/
def countWait (s : State) : State :=
  s.withArbiter
    { s.arbiter with
      waitCount := if s.resetHeld || s.report.queue.isEmpty then 0 else min waitLimit (s.arbiter.waitCount + 1) }

/-- The swap a PROFILE_SWAP with mode IMMEDIATE made wait takes place at the end of its access (R158). -/
def swapAtEnd (s : State) : State :=
  match s.profiles.swap with
  | .waiting => performSwap s
  | _ => s

/-- The end of the access in progress: a waiting swap, the decode change of a swap that came during the access (R17), the
wait count, and the grant (R12, R13). R173 leaves it open whether a burst that starts in the tick of an event shows the
state before or after it; here a burst granted at this end shows the state after the swap and the decode change. DESIGN
CHOICE (log 24). -/
def endAccess (s : State) : State :=
  grantIfFree (countWait (decodeChange (swapAtEnd (s.withArbiter { s.arbiter with current := none }))))

/-- The words of a burst all written, the port's last word the trailing generation (R12, R172). -/
def writeBurst (b : Burst) (s : State) : State :=
  (s.withMemory (s.memory.writeBurst b.words)).withPorts
    { s.ports with memory := (b.words.getLast?.map fun w => .write w.1 0b1111 w.2).or s.ports.memory }

/-- The end of a report burst: its words stand in memory and the port goes back to the arbiter (R12). -/
def endBurst (b : Burst) (s : State) : State :=
  grantIfFree ((writeBurst b s).withArbiter { s.arbiter with burst := none, owner := .idle })

end Sys2Proof.Machine
end

