-- ==== Sys2Proof/Machine/Events.lean ====
section
/-! DEFINITION. The events of time and of the input pins: ROLLOVER, the four expiries, the pulse instants, ACTIVE_EDGE and
INPUT_LEVEL_CHANGE (03 R45; 04 R70; 06 R95, R99; 07 R114, R127; 08 R137, R138, R145). Each acts when the state says that
it happens at this tick, and otherwise does not occur and changes nothing (log 8). A report request it makes may find the
port free, and is then granted (R12). -/

namespace Sys2Proof.Machine

/-- An event that happens when `c` holds, in a part that is not held in reset. -/
def happens (c : Bool) (f : State → State) (s : State) : State := if !s.resetHeld && c then grantIfFree (f s) else s

/-- ROLLOVER (R45). -/
def execRollover (s : State) : Host.Outcome State Fault Refusal := .next (happens (rolloverDue s) giveRollover s)

/-- The entry of this place in the allocation order is due to age out. -/
def agedOut (order : Nat) (s : State) : Bool := (findOrder order s.table.entries).any (ageDue · s)

/-- The expiry of an entry: retired whatever its state, and counted as aged (R70). -/
def expireEntry (order : Nat) (s : State) : State := count .aged (setEntries (retireEntry order s.table.entries) s)

/-- ENTRY_AGE_EXPIRY (R70). -/
def execEntryAgeExpiry (order : Nat) (s : State) : Host.Outcome State Fault Refusal :=
  .next (happens (agedOut order s) (expireEntry order) s)

/-- A reading is older than the probe timeout of this tick and of the bank in force (R40, R95, R99, R109; log 6). -/
def probeTimedOut (start : Raw) (s : State) : Bool :=
  elapsed s.time.raw start s.tickLimits.probe && elapsed s.time.raw start s.bank.timerLimits.probe

/-- The Probe List record of this sequence is due to expire. -/
def probeDue (p : Port) (sequence : BitVec 16) (s : State) : Bool :=
  (s.delays[p].probes.find? (·.sequence == sequence)).any fun r => probeTimedOut r.t1 s

/-- PROBE_RECORD_EXPIRY (R95). -/
def execProbeRecordExpiry (p : Port) (sequence : BitVec 16) (s : State) : Host.Outcome State Fault Refusal :=
  .next (happens (probeDue p sequence s) (fun s => raise .probeLost (removeProbe p sequence s)) s)

/-- The Responder List record of this sequence and source is due to expire. -/
def responderDue (p : Port) (sequence : BitVec 16) (source : Ident) (s : State) : Bool :=
  (findResponder p sequence source s).any fun r => probeTimedOut r.t2 s

/-- RESPONDER_RECORD_EXPIRY (R99). -/
def execResponderRecordExpiry (p : Port) (sequence : BitVec 16) (source : Ident) (s : State) : Host.Outcome State Fault Refusal :=
  .next (happens (responderDue p sequence source s) (removeResponder p sequence source) s)

/-- MISSING_TIMER_EXPIRY (R114). -/
def execMissingTimerExpiry (s : State) : Host.Outcome State Fault Refusal := .next (happens (missingDue s) expireMissing s)

/-- HOLDOVER_TIMER_EXPIRY (R127). -/
def execHoldoverTimerExpiry (s : State) : Host.Outcome State Fault Refusal := .next (happens (holdoverDue s) fallFreeRun s)

/-- PULSE_LEADING_INSTANT (R145). -/
def execPulseLeadingInstant (n : Fin 4) (s : State) : Host.Outcome State Fault Refusal :=
  .next (happens (leadingDue n s) (leadPulse n) s)

/-- PULSE_TRAILING_INSTANT (R145). -/
def execPulseTrailingInstant (n : Fin 4) (s : State) : Host.Outcome State Fault Refusal :=
  .next (happens (trailingDue n s) (trailPulse n) s)

/-- The level of input `n` after a change in the direction of the active bank's polarity (R137). -/
def activeLevelOf (n : Fin 2) (s : State) : Bool := s.bank.inputs[n].polarity.activeLevel

/-- An active edge at input `n`: the level is recorded, and captured when the input is enabled (R137, R138). Polarity, enable
and delay are those of the active bank at the row: after a swap in its own tick, the new one's at once (R142's choice of
order; R143 and R162 speak of the first tick after). DESIGN CHOICE (log 23). -/
def takeEdge (n : Fin 2) (s : State) : State :=
  let s := recordLevel n (activeLevelOf n s) s
  if s.bank.inputs[n].enable then capture n s else s

/-- The sample of input `n` at this tick differs from that of the tick before and shows `level` (R137): this tick's sample
is still to be taken, and the recorded level is the other one. -/
def sampleShows (n : Fin 2) (level : Bool) (s : State) : Bool :=
  s.captures[n].sampling == .ready && s.captures[n].level != level

/-- ACTIVE_EDGE (R137): this tick's sample shows the active level, the one before the other. -/
def execActiveEdge (n : Fin 2) (s : State) : Host.Outcome State Fault Refusal :=
  .next (happens (sampleShows n (activeLevelOf n s) s) (takeEdge n) s)

/-- INPUT_LEVEL_CHANGE (R137): a change against the active direction; the level is recorded and nothing else happens. -/
def execInputLevelChange (n : Fin 2) (s : State) : Host.Outcome State Fault Refusal :=
  .next (happens (sampleShows n (!activeLevelOf n s) s) (fun s => recordLevel n (!activeLevelOf n s) s) s)

end Sys2Proof.Machine
end

