-- ==== Sys2Proof/Machine/Clock.lean ====
section
/-! DEFINITION. What the part does on an empty queue (log 1, log 2): the events that are due at this tick happen by
themselves, one a step, and when none is due the oscillator ticks (03 R38, R40). -/

namespace Sys2Proof.Machine

/-- An entry that is due to age out. Of several due at one tick the oldest allocation is the first, and it shows: a DETACHED
MARK takes its linked DETAIL with it and the two count one less than the other way about (R66). The rules give no order;
DESIGN CHOICE (log 2). -/
def dueEntry (s : State) : Option Nat := (s.table.entries.find? (ageDue · s)).map (·.order)

/-- A Probe List record that is due to expire: its port and sequence; the lowest port and its oldest record first (log 2). -/
def dueProbe (s : State) : Option (Port × BitVec 16) :=
  allPorts.findSome? fun p => (s.delays[p].probes.find? fun r => probeTimedOut r.t1 s && probeDue p r.sequence s).map fun r => (p, r.sequence)

/-- A Responder List record that is due to expire: its port, sequence and source; the lowest port and its oldest record first
(log 2). -/
def dueResponder (s : State) : Option (Port × BitVec 16 × Ident) :=
  allPorts.findSome? fun p =>
    (s.delays[p].responders.find? fun r => probeTimedOut r.t2 s && responderDue p r.sequence r.source s).map fun r => (p, r.sequence, r.source)

/-- An output that has reached an instant, the lowest-numbered first (log 2). -/
def dueOutput (due : Fin 4 → State → Bool) (s : State) : Option (Fin 4) := [0, 1, 2, 3].find? fun n => due n s

/-- The event that is due at this tick, if there is one. -/
def dueEvent (s : State) : Option Instr :=
  if rolloverDue s then some .rollover
  else match dueEntry s, dueProbe s, dueResponder s with
    | some o, _, _ => some (.entryAgeExpiry o)
    | none, some (p, q), _ => some (.probeRecordExpiry p q)
    | none, none, some (p, q, i) => some (.responderRecordExpiry p q i)
    | none, none, none =>
      if missingDue s then some .missingTimerExpiry
      else if holdoverDue s then some .holdoverTimerExpiry
      else match dueOutput trailingDue s, dueOutput leadingDue s with
        | some n, _ => some (.pulseTrailingInstant n)
        | none, some n => some (.pulseLeadingInstant n)
        | none, none => none

/-- A tick: the raw count takes 8 ns, the inputs are sampled anew, and the timer lengths of the active bank are the tick's
(R38, R40, R137; log 6). -/
def tick (s : State) : State :=
  (sampleInputs (s.withTime { s.time with raw := s.time.raw + tickFn })).withTickLimits s.bank.timerLimits

/-- The next thing that happens on an empty queue; none while reset is held, for the raw count stands (R51). -/
inductive Idle where
  | rest
  | event (i : Instr)
  | tick
  deriving DecidableEq, Repr

/-- What happens on an empty queue. -/
def idleKind (s : State) : Idle :=
  if s.resetHeld then .rest
  else match dueEvent s with
    | some i => .event i
    | none => .tick

end Sys2Proof.Machine
end

