-- ==== Sys2Proof/Machine/Fabric.lean ====
section
/-! DEFINITION. The meanings of the rows that reset the part and that move accesses and words: HARDWARE_RESET,
RESET_RELEASE, FABRIC_ACCESS_REQUEST, FABRIC_WORD_PASS, SHADOW_WRITE, CELL_WORD_WRITE, CELL_WORD_READ, FABRIC_ACCESS_END,
REPORT_BURST_END (01 R2 to R19; 10 R164). A word row acts on the next word of the access in progress when that word
is what the row says; otherwise the row does not occur and changes nothing (log 8). -/

namespace Sys2Proof.Machine

/-! ## Reset -/

/-- A report burst in progress at hardware reset is abandoned after the last word it had written (R15). How many words
that is, short of the trailing one that ends the burst, is a free value (log 7). -/
def abandonBurst (s : State) : State :=
  match s.arbiter.burst with
  | none => s
  | some b =>
    let written := b.words.take (Config.burstWordsWritten s.freeIndex % b.words.length)
    let s := writeBurst { b with words := written } s
    { s with freeIndex := s.freeIndex + 1 }

/-- The access that has the port when reset is held: the one in progress, which then passes whole if a word of it had
passed, or else the first one waiting (R18). -/
def heldAccess (a : Arbiter) : Option Access × List Access :=
  match a.current, a.waiting with
  | some c, w => (some { c with passThrough := c.passThrough || decide (0 < c.passed) }, w)
  | none, c :: w => (some c, w)
  | none, [] => (none, [])

/-- The part held in reset: every block at its value after hardware reset, what the fabric has presented kept, memory as
written (R15, R18; log 3, log 13). -/
def holdReset (s : State) : State :=
  { State.reset with
    memory := s.memory
    ports := s.ports
    arbiter := { State.reset.arbiter with current := (heldAccess s.arbiter).1, waiting := (heldAccess s.arbiter).2 }
    freeIndex := s.freeIndex
    pending := s.pending }

/-- HARDWARE_RESET (R15). -/
def execHardwareReset (s : State) : Host.Outcome State Fault Refusal := .next (holdReset (abandonBurst s))

/-- What the fabric has presented at reset release: an access of which a word has passed passes whole, undecoded; one that
has not started is the first to be granted (R18; log 13). -/
def releasedAccess (a : Arbiter) : Option Access × List Access :=
  match a.current with
  | none => (none, a.waiting)
  | some c => if c.passed = 0 then (none, c :: a.waiting) else (some { c with passThrough := true }, a.waiting)

/-- The part brought up (R8, R16, R18, R51, R176): straps sampled, blocks at their start-up state, input levels taken
without an edge (R137), every report block queued, or none in bypass. -/
def bringUp (base : BitVec 8) (bypass level0 level1 : Bool) (s : State) : State :=
  { State.reset with
    resetHeld := false
    straps := { base := base, bypass := bypass }
    memory := s.memory
    ports := s.ports
    arbiter := { State.reset.arbiter with current := (releasedAccess s.arbiter).1, waiting := (releasedAccess s.arbiter).2 }
    captures := tab2 fun n => { State.reset.captures[n] with level := if n = 0 then level0 else level1 }
    report := { State.reset.report with queue := if bypass then [] else allBlocks }
    freeIndex := s.freeIndex
    pending := s.pending }

/-- RESET_RELEASE (R18). Released already, the pin has nothing to release, and the straps have no effect (R16). -/
def execResetRelease (base : BitVec 8) (bypass level0 level1 : Bool) (s : State) : Host.Outcome State Fault Refusal :=
  if s.resetHeld then .next (grantIfFree (bringUp base bypass level0 level1 s)) else .next s

/-! ## Accesses -/

/-- The access of a request: lane field and word address (R2). -/
def newAccess (address : BitVec 26) (direction : Direction) (length : Nat) : Access where
  lane := address.extractLsb' 22 4
  start := address.extractLsb' 0 22
  direction := direction
  length := length
  passed := 0
  passThrough := false

/-- An access presented to the arbiter (R4, R12). Whether it is "at the same moment" as a grant (R12, R14) follows from the
queue: presented before the end or the request that frees or asks for the port, it is there at that grant and R12's table
and R14's forced service see it; presented after it in the same tick, it finds the port taken by a burst that was not
forced and waits. DESIGN CHOICE (log 2). -/
def presentAccess (a : Access) (s : State) : State :=
  grantIfFree (s.withArbiter { s.arbiter with waiting := s.arbiter.waiting ++ [a] })

/-- FABRIC_ACCESS_REQUEST (R2, R4, R12). A length outside 1 to 16 is no access (log 9). -/
def execFabricAccessRequest (address : BitVec 26) (direction : Direction) (length : Nat) (s : State) :
    Host.Outcome State Fault Refusal :=
  if 1 ≤ length ∧ length ≤ 16 then .next (presentAccess (newAccess address direction length) s) else .fault .burstLength

/-- FABRIC_ACCESS_END (R13): the access whose last word has passed. -/
def execFabricAccessEnd (s : State) : Host.Outcome State Fault Refusal :=
  match s.arbiter.current with
  | none => .next s
  | some a => if a.length ≤ a.passed then .next (endAccess s) else .next s

/-- REPORT_BURST_END (R12, R172). -/
def execReportBurstEnd (s : State) : Host.Outcome State Fault Refusal :=
  match s.arbiter.burst with
  | none => .next s
  | some b => .next (endBurst b s)

/-! ## Words -/

/-- FABRIC_WORD_PASS (R3): the next word reaches no block. -/
def execFabricWordPass (en : Enables) (data : Word) (s : State) : Host.Outcome State Fault Refusal :=
  match s.route en with
  | some (a, .pass) => .next (passPlain a en data s)
  | _ => .next s

/-- SHADOW_WRITE (R164): memory and the shadow take the enabled octets. -/
def execShadowWrite (en : Enables) (data : Word) (s : State) : Host.Outcome State Fault Refusal :=
  match s.route en with
  | some (a, .shadow slot word) => .next (writeShadow slot word en data (passWrite a.next en data s))
  | _ => .next s

/-- CELL_WORD_WRITE (R5): the word passes, and the Residence Table and the Frame Recognizer take it. -/
def execCellWordWrite (en : Enables) (data : Word) (s : State) : Host.Outcome State Fault Refusal :=
  match s.route en with
  | some (a, .cellWrite key n lane) => .next (cellWrite key n lane en data (passWrite a.next en data s))
  | _ => .next s

/-- CELL_WORD_READ (R61): the Residence Table acts, and the word it leaves to the fabric passes (R88). -/
def execCellWordRead (s : State) : Host.Outcome State Fault Refusal :=
  match s.route 0 with
  | some (a, .cellRead key n q) =>
    let s := egressRead key n q s
    .next (passRead a.next (egressData key n q (s.memory.readWord a.next) s) s)
  | _ => .next s

end Sys2Proof.Machine
end

