-- ==== Sys2Proof/WellFormed.lean ====
section
/-! DEFINITION. The checks a command term must pass to stand for something the outside can do. The operand types carry
the rest (port, input and output numbers, widths). -/

namespace Sys2Proof

/-- The command codes of section 11.2. -/
def commandCodes : List (BitVec 8) :=
  [0x01, 0x02, 0x03, 0x10, 0x20, 0x30, 0x31, 0x40, 0x41, 0x50, 0x51, 0x52, 0x53, 0x60, 0x61, 0x62, 0x7F]

/-- A command is well formed when: an access has 1 to 16 words (R2); a word handed to a block as a write has an enable
set (R2); an unknown command's code is none of section 11.2 (R165). -/
def Instr.wellFormed : Instr → Bool
  | .fabricAccessRequest _ _ n => decide (1 ≤ n ∧ n ≤ 16)
  | .shadowWrite en _ => decide (en ≠ 0)
  | .cellWordWrite en _ => decide (en ≠ 0)
  | .unknownCommand code _ _ => !commandCodes.contains code
  | _ => true

/-- The command code that the word-0 write of a software command carries; the other rows carry none (section 11.2). -/
def Instr.commandCode : Instr → Option (BitVec 8)
  | .timeSet _ _ => some 0x01
  | .timeStep _ _ => some 0x02
  | .rateSet _ _ => some 0x03
  | .tableFlush _ _ => some 0x10
  | .pathClear _ _ => some 0x20
  | .disciplineRelatch _ _ => some 0x30
  | .disciplineHold _ _ => some 0x31
  | .captureAck _ _ => some 0x40
  | .captureTest _ _ => some 0x41
  | .profileWrite _ _ => some 0x50
  | .profileCopy _ _ => some 0x51
  | .profileSwapImmediate _ _ => some 0x52
  | .profileSwapAtSecond _ _ => some 0x52
  | .profileCancel _ _ => some 0x53
  | .flagClear _ _ => some 0x60
  | .flagEnable _ _ => some 0x61
  | .reportNow _ _ => some 0x62
  | .restart _ _ => some 0x7F
  | .unknownCommand code _ _ => some code
  | .hardwareReset => none
  | .resetRelease _ _ _ _ => none
  | .fabricAccessRequest _ _ _ => none
  | .fabricWordPass _ _ => none
  | .shadowWrite _ _ => none
  | .cellWordWrite _ _ => none
  | .cellWordRead => none
  | .fabricAccessEnd => none
  | .reportBurstEnd => none
  | .rollover => none
  | .entryAgeExpiry _ => none
  | .probeRecordExpiry _ _ => none
  | .responderRecordExpiry _ _ _ => none
  | .missingTimerExpiry => none
  | .holdoverTimerExpiry => none
  | .pulseLeadingInstant _ => none
  | .pulseTrailingInstant _ => none
  | .activeEdge _ => none
  | .inputLevelChange _ => none

/-- The row is UNKNOWN_COMMAND. -/
def Instr.isUnknown : Instr → Bool
  | .unknownCommand _ _ _ => true
  | _ => false

end Sys2Proof
end

