-- ==== Sys2Proof/Machine/Command.lean ====
section
/-! DEFINITION. Taking a software command (10 R165, R166): the row a written word is, and one shared operation over what each
command does. -/

namespace Sys2Proof.Machine

/-- The slot that takes a command when the next word of the access in progress is a write with all enables set, and that
access. -/
def commandTaken (s : State) : Option (Access × Fin 16) :=
  match s.route 0b1111 with
  | some (a, .command slot) => some (a, slot)
  | _ => none

/-- The last act of taking a command: the slot's status word, and the Commands request (R165). -/
def finishCommand (slot : Fin 16) (code tag : BitVec 8) (x : State × CommandResult) : State :=
  request [.commands] (setStatus slot { result := x.2, tag := tag, code := code } x.1)

/-- A command taken: its word passes to memory, its owner acts on the slot's shadow in the same tick, and the slot's
status word is written last (R165). Where the next word takes no command, nothing occurs (log 8). -/
def takeCommand (code tag : BitVec 8) (imm : BitVec 16) (act : Fin 16 → State → State × CommandResult) (s : State) : State :=
  match commandTaken s with
  | none => s
  | some (a, slot) => finishCommand slot code tag (act slot (passWrite a.next 0b1111 (commandWord code tag imm) s))

/-- The row that a written fabric word is: the Path Decoder sends it to a block by its address, lane and enables (R5), and the
Command Monitor picks the command of a word-0 write by the code it carries (R165). -/
def writtenRow (en : Enables) (data : Word) (s : State) : Instr :=
  match s.route en with
  | some (_, .command _) => commandOfWord data
  | some (_, .shadow _ _) => .shadowWrite en data
  | some (_, .cellWrite _ _ _) => .cellWordWrite en data
  | _ => .fabricWordPass en data

/-- UNKNOWN_COMMAND (R165): no block acts. A code that names a command is not this row (log 8). -/
def execUnknownCommand (code tag : BitVec 8) (imm : BitVec 16) (s : State) : Host.Outcome State Fault Refusal :=
  if commandCodes.contains code then .next s else .next (takeCommand code tag imm (fun _ s => (s, .unknownCommand)) s)

end Sys2Proof.Machine
end

