-- ==== Sys2Proof/Machine/Items.lean ====
section
/-! DEFINITION. Writing one item of a profile: item codes, indices and value clamps (09 R153, R154; 01 R9, R11; 08 R144;
section 11.3). -/

namespace Sys2Proof.Machine

/-- A value as stored, and whether it was adjusted (R154). -/
structure Stored (α : Type) where
  value : α
  adjusted : Bool

/-- An unsigned number with a plain range: the whole 64-bit operand is compared (R153, R154). -/
def storeUnsigned (lo hi : Nat) (v : BitVec 64) : Stored Nat :=
  if v.toNat < lo then { value := lo, adjusted := true }
  else if hi < v.toNat then { value := hi, adjusted := true }
  else { value := v.toNat, adjusted := false }

/-- A signed number with a plain range (R153, R154). -/
def storeSigned (lo hi : Int) (v : BitVec 64) : Stored Int :=
  if v.toInt < lo then { value := lo, adjusted := true }
  else if hi < v.toInt then { value := hi, adjusted := true }
  else { value := v.toInt, adjusted := false }

/-- Off or on: 0 is off, any other value on, adjusted unless 0 or 1 (R153, R154). -/
def storeFlag (v : BitVec 64) : Stored Bool := { value := decide (v ≠ 0), adjusted := decide (1 < v.toNat) }

/-- A choice from a list, its codes from 0: a code above the highest stores the highest (R154). -/
def storeChoice {α : Type} (first : α) (rest : List α) (v : BitVec 64) : Stored α :=
  let n := storeUnsigned 0 rest.length v
  { value := ((first :: rest)[n.value]?).getD first, adjusted := n.adjusted }

/-- A pool window base: above 4,194,303 it stores 4,194,288, and it is rounded down to a multiple of 16 (R11). -/
def storePoolBase (v : BitVec 64) : Stored Nat :=
  if 4194303 < v.toNat then { value := 4194288, adjusted := true }
  else { value := v.toNat / 16 * 16, adjusted := decide (v.toNat % 16 ≠ 0) }

/-- The cell sizes of R10. -/
def cellSizes : List Nat := [16, 32, 64, 128, 256, 512, 1024, 2048]

/-- The divisors of 1,000 that a pulse period may be, in ms (section 8.3). -/
def pulsePeriods : List Nat := [1, 2, 4, 5, 8, 10, 20, 25, 40, 50, 100, 125, 200, 250, 500, 1000]

/-- The largest listed number not above `n`, or `least` when there is none; the list rises. -/
def largestUpTo (least n : Nat) (l : List Nat) : Nat := (l.takeWhile (· ≤ n)).getLastD least

/-- A cell size: the largest listed not above the value, or 16 for values below 16 (R11). -/
def storeCellSize (v : BitVec 64) : Stored Nat :=
  { value := largestUpTo 16 v.toNat cellSizes, adjusted := !cellSizes.contains v.toNat }

/-- A pulse period: 0 or a divisor of 1,000; other values store the largest divisor below, 1,000 at most (R144). -/
def storePeriod (v : BitVec 64) : Stored Nat :=
  if v = 0 then { value := 0, adjusted := false }
  else { value := largestUpTo 1 v.toNat pulsePeriods, adjusted := !pulsePeriods.contains v.toNat }

/-- The stored value put into a profile. -/
def Stored.into {α : Type} (x : Stored α) (f : α → Profile) : Stored Profile := { value := f x.value, adjusted := x.adjusted }

/-- A pool window changed. -/
def Profile.setPool (p : Profile) (n : Fin 4) (w : PoolWindow) : Profile := { p with pool := p.pool.set n w }

/-- An exclusion window changed. -/
def Profile.setExclusion (p : Profile) (n : Fin 2) (w : ExclusionWindow) : Profile := { p with exclusion := p.exclusion.set n w }

/-- A domain list entry changed. -/
def Profile.setDomain (p : Profile) (n : Fin 4) (d : DomainEntry) : Profile := { p with domains := p.domains.set n d }

/-- A port's items changed. -/
def Profile.setPort (p : Profile) (n : Port) (x : PortItems) : Profile := { p with ports := p.ports.set n x }

/-- A capture input's items changed. -/
def Profile.setInput (p : Profile) (n : Fin 2) (x : CaptureItems) : Profile := { p with inputs := p.inputs.set n x }

/-- A pulse output's items changed. -/
def Profile.setOutput (p : Profile) (n : Fin 4) (x : PulseItems) : Profile := { p with outputs := p.outputs.set n x }

/-- The discipline's items changed. -/
def Profile.setDiscipline (p : Profile) (x : DisciplineItems) : Profile := { p with discipline := x }

/-- An index inside a range of `n`, or none: BAD_ITEM (R153). -/
def index? (n : Nat) (i : Nat) : Option (Fin n) := if h : i < n then some ⟨i, h⟩ else none

/-- The items of a pool window (codes 0x01 to 0x06). -/
def writePool (code : Nat) (v : BitVec 64) (p : Profile) (n : Fin 4) : Option (Stored Profile) :=
  let w := p.pool[n]
  match code with
  | 0x01 => some ((storeFlag v).into fun x => p.setPool n { w with enable := x })
  | 0x02 => some ((storePoolBase v).into fun x => p.setPool n { w with base := x })
  | 0x03 => some ((storeCellSize v).into fun x => p.setPool n { w with cellSize := x })
  | 0x04 => some ((storeUnsigned 1 65535 v).into fun x => p.setPool n { w with cellCount := x })
  | 0x05 => some ((storeFlag v).into fun x => p.setPool n { w with ingressTracking := x })
  | 0x06 => some ((storeFlag v).into fun x => p.setPool n { w with processorTracking := x })
  | _ => none

/-- The items of an exclusion window (codes 0x08 to 0x0A). -/
def writeExclusion (code : Nat) (v : BitVec 64) (p : Profile) (n : Fin 2) : Option (Stored Profile) :=
  let w := p.exclusion[n]
  match code with
  | 0x08 => some ((storeFlag v).into fun x => p.setExclusion n { w with enable := x })
  | 0x09 => some ((storeUnsigned 0 4194303 v).into fun x => p.setExclusion n { w with base := x })
  | 0x0A => some ((storeUnsigned 1 4194304 v).into fun x => p.setExclusion n { w with size := x })
  | _ => none

/-- The items of a domain list entry (codes 0x13, 0x14). -/
def writeDomain (code : Nat) (v : BitVec 64) (p : Profile) (n : Fin 4) : Option (Stored Profile) :=
  let d := p.domains[n]
  match code with
  | 0x13 => some ((storeUnsigned 0 255 v).into fun x => p.setDomain n { d with value := BitVec.ofNat 8 x })
  | 0x14 => some ((storeFlag v).into fun x => p.setDomain n { d with enable := x })
  | _ => none

/-- The items of a port (codes 0x20 to 0x24). -/
def writePort (code : Nat) (v : BitVec 64) (p : Profile) (n : Port) : Option (Stored Profile) :=
  let x := p.ports[n]
  match code with
  | 0x20 => some ((storeUnsigned 0 1048575 v).into fun y => p.setPort n { x with latencyIn := y })
  | 0x21 => some ((storeUnsigned 0 1048575 v).into fun y => p.setPort n { x with latencyOut := y })
  | 0x22 => some ((storeSigned (-8388608) 8388607 v).into fun y => p.setPort n { x with asymmetry := BitVec.ofInt 24 y })
  | 0x23 => some ((storeChoice DelayMode.none [.link] v).into fun y => p.setPort n { x with delayMode := y })
  | 0x24 => some ((storeFlag v).into fun y => p.setPort n { x with upstreamEligible := y })
  | _ => none

/-- The items of a capture input (codes 0x40 to 0x42). -/
def writeInput (code : Nat) (v : BitVec 64) (p : Profile) (n : Fin 2) : Option (Stored Profile) :=
  let x := p.inputs[n]
  match code with
  | 0x40 => some ((storeFlag v).into fun y => p.setInput n { x with enable := y })
  | 0x41 => some ((storeChoice EdgePolarity.rising [.falling] v).into fun y => p.setInput n { x with polarity := y })
  | 0x42 => some ((storeSigned (-1000000) 1000000 v).into fun y => p.setInput n { x with inputDelay := y })
  | _ => none

/-- The items of a pulse output (codes 0x48 to 0x4C). -/
def writeOutput (code : Nat) (v : BitVec 64) (p : Profile) (n : Fin 4) : Option (Stored Profile) :=
  let x := p.outputs[n]
  match code with
  | 0x48 => some ((storePeriod v).into fun y => p.setOutput n { x with period := y })
  | 0x49 => some ((storeUnsigned 0 999999999 v).into fun y => p.setOutput n { x with offset := y })
  | 0x4A => some ((storeUnsigned 1 65535 v).into fun y => p.setOutput n { x with width := y })
  | 0x4B => some ((storeChoice PulsePolarity.activeHigh [.activeLow] v).into fun y => p.setOutput n { x with polarity := y })
  | 0x4C => some ((storeChoice Gating.always [.validOnly, .lockedOnly] v).into fun y => p.setOutput n { x with gating := y })
  | _ => none

/-- The items that exist once (index 0). -/
def writeSingle (code : Nat) (v : BitVec 64) (p : Profile) : Option (Stored Profile) :=
  let d := p.discipline
  match code with
  | 0x0B => some ((storeUnsigned 1 255 v).into fun x => { p with ageLimit := x })
  | 0x10 => some ((storeUnsigned 0 65535 v).into fun x => { p with frameType := BitVec.ofNat 16 x })
  | 0x11 => some ((storeUnsigned 0 65535 v).into fun x => { p with tagType := BitVec.ofNat 16 x })
  | 0x12 => some ((storeUnsigned 0 15 v).into fun x => { p with version := BitVec.ofNat 4 x })
  | 0x15 => some { value := { p with localId := v }, adjusted := false }
  | 0x16 => some ((storeChoice RoundingMode.nearestEven [.towardZero, .upward, .downward] v).into fun x => { p with rounding := x })
  | 0x28 => some ((storeUnsigned 0 65535 v).into fun x => { p with defaultDelay := x })
  | 0x29 => some ((storeUnsigned 1 1000000 v).into fun x => { p with delayMax := x })
  | 0x2A => some ((storeUnsigned 1 8 v).into fun x => { p with windowLength := x })
  | 0x2B => some ((storeUnsigned 1 255 v).into fun x => { p with probeTimeout := x })
  | 0x2C => some ((storeChoice UnorderedPolicy.quiet [.signal] v).into fun x => { p with unordered := x })
  | 0x30 => some ((storeFlag v).into fun x => p.setDiscipline { d with enable := x })
  | 0x31 => some ((storeChoice SourceMode.network [.input, .networkThenInput] v).into fun x => p.setDiscipline { d with mode := x })
  | 0x32 => some { value := p.setDiscipline { d with expected := v }, adjusted := false }
  | 0x33 => some ((storeUnsigned 0 1000000000 v).into fun x => p.setDiscipline { d with stepThreshold := x })
  | 0x34 => some ((storeUnsigned 1 1000000 v).into fun x => p.setDiscipline { d with lockThreshold := x })
  | 0x35 => some ((storeUnsigned 1 100000000 v).into fun x => p.setDiscipline { d with gateLimit := x })
  | 0x36 => some ((storeUnsigned 1 255 v).into fun x => p.setDiscipline { d with missingTimeout := x })
  | 0x37 => some ((storeUnsigned 0 65535 v).into fun x => p.setDiscipline { d with holdoverLimit := x })
  | 0x38 => some ((storeUnsigned 0 31 v).into fun x => p.setDiscipline { d with kp := x })
  | 0x39 => some ((storeUnsigned 0 31 v).into fun x => p.setDiscipline { d with ki := x })
  | 0x3A => some ((storeUnsigned 1 500 v).into fun x => p.setDiscipline { d with rateLimit := x })
  | _ => none

/-- One item of a profile written; none when the code names no item or the index is outside its range (R153, R156). -/
def writeItem (code index : Nat) (v : BitVec 64) (p : Profile) : Option (Stored Profile) :=
  if 0x01 ≤ code ∧ code ≤ 0x06 then (index? 4 index).bind (writePool code v p)
  else if 0x08 ≤ code ∧ code ≤ 0x0A then (index? 2 index).bind (writeExclusion code v p)
  else if 0x13 ≤ code ∧ code ≤ 0x14 then (index? 4 index).bind (writeDomain code v p)
  else if 0x20 ≤ code ∧ code ≤ 0x24 then (index? 6 index).bind (writePort code v p)
  else if 0x40 ≤ code ∧ code ≤ 0x42 then (index? 2 index).bind (writeInput code v p)
  else if 0x48 ≤ code ∧ code ≤ 0x4C then (index? 4 index).bind (writeOutput code v p)
  else if index = 0 then writeSingle code v p
  else none

end Sys2Proof.Machine
end

