-- ==== Sys2Proof/Machine/ProfileCommands.lean ====
section
/-! DEFINITION. The commands of the Profile Store: PROFILE_WRITE, PROFILE_COPY, PROFILE_SWAP in its two modes,
PROFILE_CANCEL (09 R156 to R161). -/

namespace Sys2Proof.Machine

/-- A swap is waiting or pending (R160). -/
def swapRequested (s : State) : Bool := s.profiles.swap != .none

/-- The staged bank replaced (R156, R157). -/
def setStaged (p : Profile) (s : State) : State := s.withProfiles (s.profiles.withStaged p)

/-- PROFILE_WRITE's effect, its checks in order: swap request, item and index, value (R156). -/
def profileWrite (slot : Fin 16) (s : State) : State × CommandResult :=
  if swapRequested s then (s, .busy)
  else
    let w := shadowWord slot 0 s
    match writeItem (w.extractLsb' 16 16).toNat (w.extractLsb' 0 16).toNat (joinWords (shadowWord slot 1 s) (shadowWord slot 2 s)) s.staged with
    | none => (s, .badItem)
    | some x => (setStaged x.value s, if x.adjusted then .clamped else .done)

/-- PROFILE_WRITE (R156). -/
def execProfileWrite (tag : BitVec 8) (imm : BitVec 16) (s : State) : Host.Outcome State Fault Refusal :=
  .next (takeCommand 0x50 tag imm profileWrite s)

/-- PROFILE_COPY's effect (R157). -/
def profileCopy (s : State) : State × CommandResult :=
  if swapRequested s then (s, .busy) else (setStaged s.bank s, .done)

/-- PROFILE_COPY (R157). -/
def execProfileCopy (tag : BitVec 8) (imm : BitVec 16) (s : State) : Host.Outcome State Fault Refusal :=
  .next (takeCommand 0x51 tag imm (fun _ s => profileCopy s) s)

/-- A swap request made, unless there is one (R158 to R160); a new request changes the Status block (R173). -/
def requestSwap (r : SwapRequest) (x : CommandResult) (s : State) : State × CommandResult :=
  if swapRequested s then (s, .busy) else (request [.status] (s.withProfiles { s.profiles with swap := r }), x)

/-- PROFILE_SWAP with mode IMMEDIATE: the request waits for the end of the access (R158). -/
def execProfileSwapImmediate (tag : BitVec 8) (high : BitVec 15) (s : State) : Host.Outcome State Fault Refusal :=
  .next (takeCommand 0x52 tag (high ++ 0#1) (fun _ s => requestSwap .waiting .done s) s)

/-- PROFILE_SWAP with mode AT_SECOND: the request is pending and records its slot (R159). -/
def execProfileSwapAtSecond (tag : BitVec 8) (high : BitVec 15) (s : State) : Host.Outcome State Fault Refusal :=
  .next (takeCommand 0x52 tag (high ++ 1#1) (fun slot s => requestSwap (.pending slot) .pending s) s)

/-- PROFILE_CANCEL's effect (R161). -/
def profileCancel (s : State) : State × CommandResult :=
  match s.profiles.swap with
  | .pending _ => (cancelSwap s, .done)
  | .waiting => (s, .wrongState)
  | .none => (s, .wrongState)

/-- PROFILE_CANCEL (R161). -/
def execProfileCancel (tag : BitVec 8) (imm : BitVec 16) (s : State) : Host.Outcome State Fault Refusal :=
  .next (takeCommand 0x53 tag imm (fun _ s => profileCancel s) s)

end Sys2Proof.Machine
end

