-- ==== Sys2Proof/Machine/ReportCommands.lean ====
section
/-! DEFINITION. The commands of the Report Writer: FLAG_CLEAR, FLAG_ENABLE, REPORT_NOW, RESTART (10 R169, R174, R175). -/

namespace Sys2Proof.Machine

/-- The flags a mask names cleared, and the Status block requested (R169). -/
def clearFlags (mask : BitVec 16) (s : State) : State :=
  request [.status] (s.withReport { s.report with flags := s.report.flags &&& ~~~mask })

/-- FLAG_CLEAR (R169). -/
def execFlagClear (tag : BitVec 8) (imm : BitVec 16) (s : State) : Host.Outcome State Fault Refusal :=
  .next (takeCommand 0x60 tag imm (fun _ s => (clearFlags imm s, .done)) s)

/-- The enable set replaced by a mask, and the Status block requested (R169). -/
def enableFlags (mask : BitVec 16) (s : State) : State :=
  request [.status] (s.withReport { s.report with enables := mask })

/-- FLAG_ENABLE (R169). -/
def execFlagEnable (tag : BitVec 8) (imm : BitVec 16) (s : State) : Host.Outcome State Fault Refusal :=
  .next (takeCommand 0x61 tag imm (fun _ s => (enableFlags imm s, .done)) s)

/-- REPORT_NOW (R174). -/
def execReportNow (tag : BitVec 8) (imm : BitVec 16) (s : State) : Host.Outcome State Fault Refusal :=
  .next (takeCommand 0x62 tag imm (fun _ s => (request allBlocks s, .done)) s)

/-- Every counter 0 (R170). -/
def clearCounters (s : State) : State :=
  s.withReport { s.report with globals := .zero, ports := tab6 fun _ => .zero }

/-- RESTART's effect, owner by owner (R175): all blocks requested, candidates dropped (R37), table emptied (R73), ports
cleared (R112), the Discipline Unit (R136), a pending swap cancelled (R163), counters 0. -/
def restartPart (s : State) : State :=
  clearCounters (cancelSwap (restartDiscipline (clearPorts allPorts (emptyTable (dropCandidates (request allBlocks s))))))

/-- RESTART (R175). -/
def execRestart (tag : BitVec 8) (imm : BitVec 16) (s : State) : Host.Outcome State Fault Refusal :=
  .next (takeCommand 0x7F tag imm (fun _ s => (restartPart s, .done)) s)

end Sys2Proof.Machine
end

