-- ==== Sys2Proof/Machine/TimeCommands.lean ====
section
/-! DEFINITION. The commands of the Time Base: TIME_SET, TIME_STEP, RATE_SET (03 R46 to R50; 07 R131). -/

namespace Sys2Proof.Machine

/-- The station time a TIME_SET names: its nanoseconds operand taken as 999,999,999 when above it, fraction 0 (R48). -/
def givenTime (sec ns : Word) : StationTime where
  sec := sec
  ns := ⟨min ns.toNat 999999999, by omega⟩
  frac := 0

/-- TIME_SET's effect (R48): a step to the given time, and the Discipline Unit is told (R46, R131). -/
def timeSet (slot : Fin 16) (s : State) : State × CommandResult :=
  let ns := shadowWord slot 1 s
  (toldOfStep (stepTime ((givenTime (shadowWord slot 0 s) ns).sub s.now) s),
    if 999999999 < ns.toNat then .clamped else .done)

/-- TIME_SET (R48). -/
def execTimeSet (tag : BitVec 8) (imm : BitVec 16) (s : State) : Host.Outcome State Fault Refusal :=
  .next (takeCommand 0x01 tag imm timeSet s)

/-- The amount of a TIME_STEP in fine units (R49). -/
def stepAmount (ns : Word) (frac : BitVec 16) : Int := ns.toInt * 65536 + frac.toNat

/-- TIME_STEP's effect (R49): a step, and the Discipline Unit is told (R46, R131). -/
def timeStep (imm : BitVec 16) (slot : Fin 16) (s : State) : State × CommandResult :=
  (toldOfStep (stepTime (stepAmount (shadowWord slot 0 s) imm) s), .done)

/-- TIME_STEP (R49). -/
def execTimeStep (tag : BitVec 8) (imm : BitVec 16) (s : State) : Host.Outcome State Fault Refusal :=
  .next (takeCommand 0x02 tag imm (timeStep imm) s)

/-- RATE_SET's effect (R50). -/
def rateSet (slot : Fin 16) (s : State) : State × CommandResult :=
  if s.bank.discipline.enable then (s, .wrongState)
  else
    let r := (shadowWord slot 0 s).toInt
    (giveRhoI r (giveRho r s), if clampRate s.rateLimit r = r then .done else .clamped)

/-- RATE_SET (R50). -/
def execRateSet (tag : BitVec 8) (imm : BitVec 16) (s : State) : Host.Outcome State Fault Refusal :=
  .next (takeCommand 0x03 tag imm rateSet s)

end Sys2Proof.Machine
end

