-- ==== Sys2Proof/Machine/UnitCommands.lean ====
section
/-! DEFINITION. The commands of the Residence Table, the Delay Unit, the Discipline Unit and the Edge Capture: TABLE_FLUSH,
PATH_CLEAR, DISCIPLINE_RELATCH, DISCIPLINE_HOLD, CAPTURE_ACK, CAPTURE_TEST (04 R71; 06 R107; 07 R117, R130; 08 R140, R141). -/

namespace Sys2Proof.Machine

/-- TABLE_FLUSH (R71). -/
def execTableFlush (tag : BitVec 8) (imm : BitVec 16) (s : State) : Host.Outcome State Fault Refusal :=
  .next (takeCommand 0x10 tag imm (fun _ s => (emptyTable s, .done)) s)

/-- PATH_CLEAR (R107). -/
def execPathClear (tag : BitVec 8) (imm : BitVec 16) (s : State) : Host.Outcome State Fault Refusal :=
  .next (takeCommand 0x20 tag imm (fun _ s => (clearPorts (maskPorts imm) s, .done)) s)

/-- The Discipline Unit after DISCIPLINE_RELATCH (R117). -/
def relatch (s : State) : State :=
  s.withDisc { s.disc with seen := [], latched := if s.bank.discipline.expected = 0 then none else s.disc.latched }

/-- DISCIPLINE_RELATCH (R117). -/
def execDisciplineRelatch (tag : BitVec 8) (imm : BitVec 16) (s : State) : Host.Outcome State Fault Refusal :=
  .next (takeCommand 0x30 tag imm (fun _ s => (relatch s, .done)) s)

/-- Hold set on or off; turned on in LOCKED it moves the state to HOLDOVER (R130). -/
def setHold (on : Bool) (s : State) : State :=
  let turnedOn := on && !s.disc.hold
  let s := s.withDisc { s.disc with hold := on }
  if turnedOn && s.disc.state == .locked then enterHoldover s else s

/-- DISCIPLINE_HOLD (R130). -/
def execDisciplineHold (tag : BitVec 8) (imm : BitVec 16) (s : State) : Host.Outcome State Fault Refusal :=
  .next (takeCommand 0x31 tag imm (fun _ s => (setHold (imm.getLsbD 0) s, .done)) s)

/-- Pending cleared in the records a mask names, and the Captures block requested if one changed (R140). -/
def acknowledge (mask : BitVec 16) (s : State) : State :=
  let changes : Bool := (mask.getLsbD 0 && s.captures[0].pending) || (mask.getLsbD 1 && s.captures[1].pending)
  let s := s.withCaptures (tab2 fun n => { s.captures[n] with pending := s.captures[n].pending && !mask.getLsbD n.val })
  if changes then request [.captures] s else s

/-- CAPTURE_ACK (R140). -/
def execCaptureAck (tag : BitVec 8) (imm : BitVec 16) (s : State) : Host.Outcome State Fault Refusal :=
  .next (takeCommand 0x40 tag imm (fun _ s => (acknowledge imm s, .done)) s)

/-- CAPTURE_TEST (R141): a capture on the input of bit 0, enabled or not; the recorded level stays. -/
def execCaptureTest (tag : BitVec 8) (imm : BitVec 16) (s : State) : Host.Outcome State Fault Refusal :=
  .next (takeCommand 0x41 tag imm (fun _ s => (capture (if imm.getLsbD 0 then 1 else 0) s, .done)) s)

end Sys2Proof.Machine
end

