-- ==== Sys2Proof/Machine/Dispatch.lean ====
section
/-! DEFINITION. One arm for each command: a direct call of its meaning. -/

namespace Sys2Proof.Machine

/-- The effect of a command on everything but the queue. -/
def exec (i : Instr) (s : State) : Host.Outcome State Fault Refusal :=
  match i with
  | .hardwareReset => Sys2Proof.Machine.execHardwareReset s
  | .resetRelease base bypass level0 level1 => Sys2Proof.Machine.execResetRelease base bypass level0 level1 s
  | .fabricAccessRequest address direction length => Sys2Proof.Machine.execFabricAccessRequest address direction length s
  | .fabricWordPass enables data => Sys2Proof.Machine.execFabricWordPass enables data s
  | .shadowWrite enables data => Sys2Proof.Machine.execShadowWrite enables data s
  | .cellWordWrite enables data => Sys2Proof.Machine.execCellWordWrite enables data s
  | .cellWordRead => Sys2Proof.Machine.execCellWordRead s
  | .fabricAccessEnd => Sys2Proof.Machine.execFabricAccessEnd s
  | .reportBurstEnd => Sys2Proof.Machine.execReportBurstEnd s
  | .rollover => Sys2Proof.Machine.execRollover s
  | .entryAgeExpiry order => Sys2Proof.Machine.execEntryAgeExpiry order s
  | .probeRecordExpiry port sequence => Sys2Proof.Machine.execProbeRecordExpiry port sequence s
  | .responderRecordExpiry port sequence source => Sys2Proof.Machine.execResponderRecordExpiry port sequence source s
  | .missingTimerExpiry => Sys2Proof.Machine.execMissingTimerExpiry s
  | .holdoverTimerExpiry => Sys2Proof.Machine.execHoldoverTimerExpiry s
  | .pulseLeadingInstant output => Sys2Proof.Machine.execPulseLeadingInstant output s
  | .pulseTrailingInstant output => Sys2Proof.Machine.execPulseTrailingInstant output s
  | .activeEdge input => Sys2Proof.Machine.execActiveEdge input s
  | .timeSet tag imm => Sys2Proof.Machine.execTimeSet tag imm s
  | .timeStep tag imm => Sys2Proof.Machine.execTimeStep tag imm s
  | .rateSet tag imm => Sys2Proof.Machine.execRateSet tag imm s
  | .tableFlush tag imm => Sys2Proof.Machine.execTableFlush tag imm s
  | .pathClear tag imm => Sys2Proof.Machine.execPathClear tag imm s
  | .disciplineRelatch tag imm => Sys2Proof.Machine.execDisciplineRelatch tag imm s
  | .disciplineHold tag imm => Sys2Proof.Machine.execDisciplineHold tag imm s
  | .captureAck tag imm => Sys2Proof.Machine.execCaptureAck tag imm s
  | .captureTest tag imm => Sys2Proof.Machine.execCaptureTest tag imm s
  | .profileWrite tag imm => Sys2Proof.Machine.execProfileWrite tag imm s
  | .profileCopy tag imm => Sys2Proof.Machine.execProfileCopy tag imm s
  | .profileSwapImmediate tag high => Sys2Proof.Machine.execProfileSwapImmediate tag high s
  | .profileSwapAtSecond tag high => Sys2Proof.Machine.execProfileSwapAtSecond tag high s
  | .profileCancel tag imm => Sys2Proof.Machine.execProfileCancel tag imm s
  | .flagClear tag imm => Sys2Proof.Machine.execFlagClear tag imm s
  | .flagEnable tag imm => Sys2Proof.Machine.execFlagEnable tag imm s
  | .reportNow tag imm => Sys2Proof.Machine.execReportNow tag imm s
  | .restart tag imm => Sys2Proof.Machine.execRestart tag imm s
  | .unknownCommand code tag imm => Sys2Proof.Machine.execUnknownCommand code tag imm s
  | .inputLevelChange input => Sys2Proof.Machine.execInputLevelChange input s

end Sys2Proof.Machine
end

