-- ==== Sys2Proof/Safety.lean ====
section
/-! DEFINITION. The words the statements use: when a row's event occurs, what a word row stores, and the invariants of the
part. -/

namespace Sys2Proof.Machine

/-! ## When the next word is decoded, and as what -/

/-- Access `a` has the port, a word of it is still to pass, and its words are decoded: reset is released, the part is not
in bypass, and the access did not begin in reset (R2, R16, R18). -/
abbrev Decoding (s : State) (a : Access) : Prop :=
  s.arbiter.current = some a ∧ a.passed < a.length ∧ s.resetHeld = false ∧ s.straps.bypass = false ∧ a.passThrough = false

/-- The next word of `a` is a processor-lane write to word 0 of a command slot (R8, R165). -/
abbrev AtCommand (s : State) (a : Access) (slot : Fin 16) : Prop :=
  Decoding s a ∧ a.direction = .write ∧ a.lane = 0 ∧ a.next.toNat = s.commandBase + 8 * slot.val

/-- The next word of `a` is a processor-lane write to one of words 1 to 7 of a command slot; `n` is 0 for word 1
(R8, R164). -/
abbrev AtShadow (s : State) (a : Access) (slot : Fin 16) (n : Fin 7) : Prop :=
  Decoding s a ∧ a.direction = .write ∧ a.lane = 0 ∧ a.next.toNat = s.commandBase + 8 * slot.val + 1 + n.val

/-- A word address in the command area (R8). -/
abbrev InCommandArea (s : State) (n : Nat) : Prop := s.commandBase ≤ n ∧ n < s.commandBase + 128

/-- A word address outside the command and report areas and every enabled exclusion window (R6). -/
abbrev OutsideAreas (s : State) (n : Nat) : Prop :=
  ¬ InCommandArea s n ∧ ¬ (s.commandBase + 1024 ≤ n ∧ n < s.commandBase + 2048) ∧
  ∀ x : Fin 2, s.decode.exclusion[x].contains n = false

/-- A word address that pool window `w` claims: outside the areas, inside the enabled window, and inside no
lower-numbered one (R6). -/
abbrev ClaimedBy (s : State) (n : Nat) (w : Fin 4) : Prop :=
  OutsideAreas s n ∧ s.decode.pool[w].contains n = true ∧ ∀ v : Fin 4, v < w → s.decode.pool[v].contains n = false

/-- The cell key and offset of a word address that window `w` claims (R7). -/
def cellOf (s : State) (n : Nat) (w : Fin 4) : CellKey × Nat :=
  ({ window := w, index := (n - s.decode.pool[w].base) / s.decode.pool[w].cellSize },
    (n - s.decode.pool[w].base) % s.decode.pool[w].cellSize)

/-- The next word of `a` is a write to a pool cell (R5). -/
abbrev AtCellWrite (s : State) (a : Access) (w : Fin 4) : Prop :=
  Decoding s a ∧ a.direction = .write ∧ ClaimedBy s a.next.toNat w

/-- The next word of `a` is a read of a pool cell by the egress lane of port `q` (R5). -/
abbrev AtCellRead (s : State) (a : Access) (w : Fin 4) (q : Port) : Prop :=
  Decoding s a ∧ a.direction = .read ∧ a.lane.toNat = q.val + 9 ∧ ClaimedBy s a.next.toNat w

/-- The next word of `a` reaches no block, whatever enables a write carries (R5, R16, R18): its words pass undecoded; or it
lies in the command area and is a read or of a lane other than the processor's; or in the report area or an exclusion
window; or in no window; or it is a read of a pool cell by a lane that is no egress lane. -/
abbrev AtMemoryOnly (s : State) (a : Access) : Prop :=
  s.arbiter.current = some a ∧ a.passed < a.length ∧
  ((s.resetHeld = true ∨ s.straps.bypass = true ∨ a.passThrough = true) ∨
    (InCommandArea s a.next.toNat ∧ (a.direction = .read ∨ a.lane ≠ 0)) ∨
    (¬ InCommandArea s a.next.toNat ∧ ¬ OutsideAreas s a.next.toNat) ∨
    (OutsideAreas s a.next.toNat ∧ ∀ w : Fin 4, s.decode.pool[w].contains a.next.toNat = false) ∨
    (OutsideAreas s a.next.toNat ∧ a.direction = .read ∧ ¬ (9 ≤ a.lane.toNat ∧ a.lane.toNat ≤ 14)))

/-! ## What a word leaves behind -/

/-- The access in progress with one more word passed; one that has a word pass while reset is held passes whole (R2,
R18). -/
def advanced (a : Access) (s : State) : Arbiter :=
  { s.arbiter with current := some { a with passed := a.passed + 1, passThrough := a.passThrough || s.resetHeld } }

/-- The state after the next word of `a` passed as a write with these enables and data: memory, port and arbiter (R3). -/
def written (a : Access) (en : Enables) (data : Word) (s : State) : State :=
  { s with
    memory := s.memory.writeWord a.next en data
    ports := { s.ports with memory := some (.write a.next en data) }
    arbiter := advanced a s }

/-- The state after a command was answered in a slot: its status word, and the Commands block requested (R165, R166). -/
def answered (slot : Fin 16) (r : CommandResult) (tag code : BitVec 8) (s : State) : State :=
  { s with
    monitor := { s.monitor with status := s.monitor.status.set slot { result := r, tag := tag, code := code } }
    report := { s.report with queue := joinQueue s.report.queue .commands } }

/-- The word-0 write that gives a software command; none for other rows, and none where UNKNOWN_COMMAND is given a code
that names a command. -/
def commandWordOf : Instr → Option Word
  | .timeSet tag imm => some (commandWord 0x01 tag imm)
  | .timeStep tag imm => some (commandWord 0x02 tag imm)
  | .rateSet tag imm => some (commandWord 0x03 tag imm)
  | .tableFlush tag imm => some (commandWord 0x10 tag imm)
  | .pathClear tag imm => some (commandWord 0x20 tag imm)
  | .disciplineRelatch tag imm => some (commandWord 0x30 tag imm)
  | .disciplineHold tag imm => some (commandWord 0x31 tag imm)
  | .captureAck tag imm => some (commandWord 0x40 tag imm)
  | .captureTest tag imm => some (commandWord 0x41 tag imm)
  | .profileWrite tag imm => some (commandWord 0x50 tag imm)
  | .profileCopy tag imm => some (commandWord 0x51 tag imm)
  | .profileSwapImmediate tag high => some (commandWord 0x52 tag (high ++ 0#1))
  | .profileSwapAtSecond tag high => some (commandWord 0x52 tag (high ++ 1#1))
  | .profileCancel tag imm => some (commandWord 0x53 tag imm)
  | .flagClear tag imm => some (commandWord 0x60 tag imm)
  | .flagEnable tag imm => some (commandWord 0x61 tag imm)
  | .reportNow tag imm => some (commandWord 0x62 tag imm)
  | .restart tag imm => some (commandWord 0x7F tag imm)
  | .unknownCommand code tag imm => if commandCodes.contains code then none else some (commandWord code tag imm)
  | _ => none

/-- The word a fabric row stores: its address, enables and data; none when the row stores nothing (R3). -/
def storedWord (i : Instr) (s : State) : Option (WordAddress × Enables × Word) :=
  match i with
  | .fabricWordPass en data => match s.route en with
    | some (a, .pass) => if a.direction = .write then some (a.next, en, data) else none
    | _ => none
  | .shadowWrite en data => match s.route en with
    | some (a, .shadow _ _) => some (a.next, en, data)
    | _ => none
  | .cellWordWrite en data => match s.route en with
    | some (a, .cellWrite _ _ _) => some (a.next, en, data)
    | _ => none
  | i => match commandWordOf i, commandTaken s with
    | some w, some (a, _) => some (a.next, 0b1111, w)
    | _, _ => none

/-- The rows that are the word of a fabric access (R2). -/
def wordRow : Instr → Bool
  | .fabricWordPass _ _ => true
  | .shadowWrite _ _ => true
  | .cellWordWrite _ _ => true
  | .cellWordRead => true
  | i => i.commandCode.isSome

/-- The two rows of the reset pin. -/
def resetRow : Instr → Bool
  | .hardwareReset => true
  | .resetRelease _ _ _ _ => true
  | _ => false

/-- No swap is pending: a rollover brings no swap with it (R159). -/
abbrev NoPendingSwap (s : State) : Prop := ∀ slot, s.profiles.swap ≠ .pending slot

/-- What the word-0 write of a taken command leaves, whatever the command: memory, port and arbiter as after the write, and
the reset pin, straps, raw count, shadows, timer lengths and queue as they were (R3, R38, R164, R165). -/
abbrev TakenFrom (a : Access) (w : Word) (s t : State) : Prop :=
  t.memory = s.memory.writeWord a.next 0b1111 w ∧
  t.ports = { s.ports with memory := some (.write a.next 0b1111 w) } ∧
  t.arbiter = advanced a s ∧ t.resetHeld = s.resetHeld ∧ t.straps = s.straps ∧ t.time.raw = s.time.raw ∧
  t.monitor.shadows = s.monitor.shadows ∧ t.tickLimits = s.tickLimits ∧ t.freeIndex = s.freeIndex ∧ t.pending = s.pending

/-! ## Invariants -/

/-- The SRAM is in its canonical form. -/
abbrev MemoryInv (s : State) : Prop := s.memory.wf = true

/-- The memory port has one user, no work waits at a free port, the wait count and the queue keep their laws (R2, R4, R12,
R13, R15, R171). -/
abbrev PortInv (s : State) : Prop :=
  (∀ a ∈ s.arbiter.current, 1 ≤ a.length ∧ a.length ≤ 16 ∧ a.passed ≤ a.length ∧ (a.passed = 0 → a.passThrough = false)) ∧
  (∀ a ∈ s.arbiter.waiting, 1 ≤ a.length ∧ a.length ≤ 16 ∧ a.passed = 0 ∧ a.passThrough = false) ∧
  (s.arbiter.burst.isSome = true → s.arbiter.current = none) ∧
  (s.arbiter.owner = .report ↔ s.arbiter.burst.isSome = true) ∧
  (s.arbiter.owner = .fabric → s.arbiter.current.isSome = true) ∧
  (s.resetHeld = true → s.arbiter.owner = .idle ∧ s.arbiter.waitCount = 0) ∧
  (portFree s = true → s.arbiter.waiting = [] ∧ (s.resetHeld = true ∨ s.report.queue = [])) ∧
  s.arbiter.waitCount ≤ 64 ∧
  (0 < s.arbiter.waitCount → s.report.queue ≠ []) ∧
  s.report.queue.Nodup

/-- ρ and ρ_i lie inside plus or minus the active rate limit (R44). -/
abbrev RateInv (s : State) : Prop :=
  -s.rateLimit ≤ s.time.rho ∧ s.time.rho ≤ s.rateLimit ∧ -s.rateLimit ≤ s.disc.rhoI ∧ s.disc.rhoI ≤ s.rateLimit

/-- The lock count stays below 8, the reject count below 4, and the Seen-Mark list holds at most 8 records, no two of one
source and sequence (R118, R123, R124). -/
abbrev CountInv (s : State) : Prop :=
  s.disc.lockCount < 8 ∧ s.disc.rejectCount < 4 ∧ s.disc.seen.length ≤ 8 ∧
  s.disc.seen.Pairwise fun m n => ¬ (m.source = n.source ∧ m.sequence = n.sequence)

/-- The lists of one port hold at most 4 records, of distinct sequences (and sources), its ring at most the window
length, and D(p) and delay valid follow the ring (R93, R96, R97, R104, R105). -/
abbrev PortDelay.Inv (d : PortDelay) (p : Profile) : Prop :=
  d.probes.length ≤ 4 ∧ (d.probes.Pairwise fun x y => x.sequence ≠ y.sequence) ∧
  d.responders.length ≤ 4 ∧ (d.responders.Pairwise fun x y => ¬ (x.sequence = y.sequence ∧ x.source = y.source)) ∧
  d.ring.length ≤ p.windowLength ∧
  d.delay = ringDelay p.defaultDelay d.ring ∧ d.valid = !d.ring.isEmpty

/-- Every port keeps its laws under the active bank. -/
abbrev DelayInv (s : State) : Prop := ∀ p : Port, s.delays[p].Inv s.bank

/-- The Residence Table holds at most 64 entries, in allocation order, oldest first (R53). -/
abbrev TableInv (s : State) : Prop :=
  s.table.entries.length ≤ 64 ∧ (s.table.entries.Pairwise fun e f => e.order < f.order) ∧
  ∀ e ∈ s.table.entries, e.order < s.table.nextOrder

/-- No two live entries share a cell, no two candidates share a cell, and a candidate that has not allocated has no live
entry on its cell (section 4.1; R26, R29, R53, R68). -/
abbrev CellInv (s : State) : Prop :=
  (s.table.entries.Pairwise fun e f => ¬ (e.live = true ∧ f.live = true ∧ e.key = f.key)) ∧
  (∀ m n : Fin 7, m ≠ n → ∀ c ∈ s.candidates[m], ∀ d ∈ s.candidates[n], c.key ≠ d.key) ∧
  (∀ n : Fin 7, ∀ c ∈ s.candidates[n], c.allocated = none → ∀ e ∈ s.table.entries, e.live = true → e.key ≠ c.key)

/-- A live entry on the cell of an open candidate was made from that candidate: same kind, header offset and origin lane, the
same words, and it is OPEN, for it becomes COMPLETE at the write that completes the candidate (R32, R53, R56, R57). -/
abbrev OriginInv (s : State) : Prop :=
  ∀ n : Fin 7, ∀ c ∈ s.candidates[n], ∀ e ∈ s.table.entries, e.live = true → e.key = c.key →
    c.allocated = some e.kind ∧ c.header = some e.header ∧ e.origin = originOf n ∧ e.state = .opened ∧
    ∀ i : Fin 8, e.copy[i] = c.word (e.header.h + 2 + i.val)

/-- Links join a two-step MARK and a DETAIL of the table, each naming the other; an entry that has not completed has no
link, and a DETACHED entry is a two-step MARK (R65, R66, R68). -/
abbrev LinkInv (s : State) : Prop :=
  ∀ e ∈ s.table.entries,
    (e.state = .opened → e.link = .absent) ∧
    (e.state = .detached → e.kind = .mark ∧ e.detailFollows = true) ∧
    (∀ o, e.link = .entry o → ∃ f ∈ s.table.entries, f.order = o ∧ f.link = .entry e.order ∧
      ((e.kind = .mark ∧ e.detailFollows = true ∧ f.kind = .detail) ∨
        (e.kind = .detail ∧ f.kind = .mark ∧ f.detailFollows = true)))

/-- An output whose period is 0 is off; otherwise its settings in force are those of the active bank; a pulse is active
only while its gating condition holds (R144, R147, R149). -/
abbrev PulseOutput.Inv (o : PulseOutput) (i : PulseItems) (d : DisciplineState) : Prop :=
  (i.period = 0 → o.schedule = none ∧ o.trailing = none) ∧
  (i.period ≠ 0 → o.schedule.map (·.settings) = some i.settings) ∧
  (o.trailing.isSome = true → i.gating.holds d = true)

/-- Every pulse output keeps its laws. -/
abbrev PulseInv (s : State) : Prop := ∀ n : Fin 4, s.pulses[n].Inv s.bank.outputs[n] s.disc.state

/-- The raw count is a whole number of 8 ns ticks (R38). -/
abbrev RawInv (s : State) : Prop := s.time.raw.toNat % 524288 = 0

/-- A pool window inside the ranges of R10 and R11. -/
abbrev PoolWindow.InRange (w : PoolWindow) : Prop :=
  w.base ≤ 4194288 ∧ w.base % 16 = 0 ∧ w.cellSize ∈ cellSizes ∧ 1 ≤ w.cellCount ∧ w.cellCount ≤ 65535

/-- An exclusion window inside the ranges of R9. -/
abbrev ExclusionWindow.InRange (x : ExclusionWindow) : Prop := x.base ≤ 4194303 ∧ 1 ≤ x.size ∧ x.size ≤ 4194304

/-- The discipline items inside the ranges of section 9.3. -/
abbrev DisciplineItems.InRange (d : DisciplineItems) : Prop :=
  d.stepThreshold ≤ 1000000000 ∧ 1 ≤ d.lockThreshold ∧ d.lockThreshold ≤ 1000000 ∧ 1 ≤ d.gateLimit ∧
  d.gateLimit ≤ 100000000 ∧ 1 ≤ d.missingTimeout ∧ d.missingTimeout ≤ 255 ∧ d.holdoverLimit ≤ 65535 ∧ d.kp ≤ 31 ∧
  d.ki ≤ 31 ∧ 1 ≤ d.rateLimit ∧ d.rateLimit ≤ 500

/-- A pulse output inside the ranges of section 8.3. -/
abbrev PulseItems.InRange (i : PulseItems) : Prop :=
  (i.period = 0 ∨ i.period ∈ pulsePeriods) ∧ i.offset ≤ 999999999 ∧ 1 ≤ i.width ∧ i.width ≤ 65535

/-- Every item of a profile inside the range of section 9.3 (R154). -/
abbrev Profile.InRange (p : Profile) : Prop :=
  (∀ n : Fin 4, p.pool[n].InRange) ∧ (∀ n : Fin 2, p.exclusion[n].InRange) ∧ 1 ≤ p.ageLimit ∧ p.ageLimit ≤ 255 ∧
  (∀ n : Port, p.ports[n].latencyIn ≤ 1048575 ∧ p.ports[n].latencyOut ≤ 1048575) ∧ p.defaultDelay ≤ 65535 ∧
  1 ≤ p.delayMax ∧ p.delayMax ≤ 1000000 ∧ 1 ≤ p.windowLength ∧ p.windowLength ≤ 8 ∧ 1 ≤ p.probeTimeout ∧
  p.probeTimeout ≤ 255 ∧ p.discipline.InRange ∧
  (∀ n : Fin 2, -1000000 ≤ p.inputs[n].inputDelay ∧ p.inputs[n].inputDelay ≤ 1000000) ∧ ∀ n : Fin 4, p.outputs[n].InRange

/-- Both banks hold items inside their ranges. -/
abbrev ProfileInv (s : State) : Prop := s.profiles.bankA.InRange ∧ s.profiles.bankB.InRange

/-- While the reset pin is held, every block is as hardware reset leaves it, and only memory, the ports and what the
fabric has presented differ (R18). -/
abbrev HeldInv (s : State) : Prop :=
  s.resetHeld = true →
    s.arbiter.burst = none ∧
    s = { State.reset with memory := s.memory, ports := s.ports, arbiter := s.arbiter, freeIndex := s.freeIndex, pending := s.pending }

/-- In bypass no block but the Time Base and the sampling of the inputs moves, and no report is requested (R16). -/
abbrev BypassInv (s : State) : Prop :=
  s.resetHeld = false → s.straps.bypass = true →
    s.arbiter.burst = none ∧ s.time.rho = 0 ∧
    (∀ n : Fin 2, s.captures[n] = { State.reset.captures[n] with level := s.captures[n].level, sampling := s.captures[n].sampling }) ∧
    s = { State.reset with
          resetHeld := false, straps := s.straps, memory := s.memory, ports := s.ports, arbiter := s.arbiter,
          time := s.time, captures := s.captures, report := { State.reset.report with queue := [] },
          tickLimits := s.tickLimits, freeIndex := s.freeIndex, pending := s.pending }

/-- The data words of a block (section 11.4). -/
def BlockKind.size : BlockKind → Nat
  | .status => 8
  | .discipline => 10
  | .port _ => 8
  | .commands => 16
  | .captures => 8
  | .counters => 7

/-- The words of a burst of this kind lie at consecutive addresses from the block's place in the report area, one for each
data word and a generation word at either end, both of this count (R172). -/
abbrev FramesBlock (base : Nat) (k : BlockKind) (generation : Word) (ws : List (WordAddress × Word)) : Prop :=
  ws.length = k.size + 2 ∧
  (∀ n : Fin 18, ∀ w, ws[n.val]? = some w → w.1.toNat = base + 1024 + k.offset + n.val ∧ w.1.toNat < base + 2048) ∧
  ws.head?.map (·.2) = some generation ∧ ws.getLast?.map (·.2) = some generation

/-- A burst in progress writes its block and nothing else, between two words of the block's count (R3, R172). -/
abbrev BurstInv (s : State) : Prop :=
  ∀ b ∈ s.arbiter.burst, FramesBlock s.commandBase b.kind s.report.generations[b.kind.number] b.words

/-! ## What a grant does -/

/-- The grant at a free port by the table of R12, for arbiter `x` with the wait count as it stands then and Report Writer
`r`: the port idle, the fabric granted, or a burst of the queue's head that takes its words of the state the grant leaves, its
count gone up by one. A burst with an access waiting is forced: it takes its words before REPORT_FORCED is raised (R14;
log 17). -/
abbrev Granted (x : Arbiter) (r : ReportWriter) (bypass : Bool) (t : State) : Prop :=
  match x.waiting, r.queue with
  | [], [] => t.report = r ∧ t.arbiter = { x with owner := .idle }
  | a :: rest, [] => t.report = r ∧ t.arbiter = { x with owner := .fabric, current := some a, waiting := rest }
  | [], k :: ks =>
    t.report = { r with queue := ks, generations := r.generations.set k.number (r.generations[k.number] + 1) } ∧
    t.arbiter = { x with owner := .report, waitCount := 0, burst := some { kind := k, words := burstWords k t } }
  | a :: rest, k :: ks =>
    if x.waitCount < 64 then t.report = r ∧ t.arbiter = { x with owner := .fabric, current := some a, waiting := rest }
    else
      t.report =
        { r with
          queue := if bypass then ks else joinQueue ks .status
          generations := r.generations.set k.number (r.generations[k.number] + 1)
          flags := r.flags ||| 0x8000 } ∧
      t.arbiter =
        { x with
          owner := .report, waitCount := 0
          burst := some { kind := k, words := burstWords k { t with report := { t.report with flags := r.flags } } } }

/-- The grant at the end of the access in progress of arbiter `x`: the wait count goes up by one, to 64 at most, while a report
request waits, and is 0 otherwise (R13); then the port is granted. -/
abbrev GrantedAtEnd (x : Arbiter) (r : ReportWriter) (bypass : Bool) (t : State) : Prop :=
  Granted { x with current := none, waitCount := if r.queue = [] then 0 else min 64 (x.waitCount + 1) } r bypass t

/-- State `t` is `v`, what an event that found state `s` leaves, with the port granted where the event found it free (R12). -/
abbrev GrantAfter (s v t : State) : Prop :=
  t = { v with arbiter := t.arbiter, report := t.report } ∧ (portFree s = false → t = v) ∧
  (portFree s = true → Granted v.arbiter v.report v.straps.bypass t)

/-- The state after a raise of this flag: it is set, and the Status block is requested (R167, R173). -/
def raised (flag : BitVec 16) (s : State) : State :=
  { s with
    report :=
      { s.report with
        flags := s.report.flags ||| flag
        queue := if s.straps.bypass then s.report.queue else joinQueue s.report.queue .status } }

/-! ## What is due at a tick -/

/-- The event of a row is due at this tick: a rollover while the seconds differ from those last seen (R45; log 21), an expiry
once its reading is as old as its length, by the timer lengths of this tick and of the active bank (R40, R70, R95, R99, R114,
R127; log 6), an instant that station time has reached (R145). No other row is an event of time. -/
def DueAt (s : State) : Instr → Prop
  | .rollover => s.now.sec ≠ s.time.secondsSeen
  | .entryAgeExpiry o => ∃ e ∈ s.table.entries, e.order = o ∧ (s.tickLimits.age : Int) ≤ rawDiff s.time.raw e.rawIn ∧
      (s.bank.ageLimit : Int) * 65536000000 ≤ rawDiff s.time.raw e.rawIn
  | .probeRecordExpiry p q => ∃ r ∈ s.delays[p].probes, r.sequence = q ∧
      (s.tickLimits.probe : Int) ≤ rawDiff s.time.raw r.t1 ∧ (s.bank.probeTimeout : Int) * 655360000000 ≤ rawDiff s.time.raw r.t1
  | .responderRecordExpiry p q i => ∃ r ∈ s.delays[p].responders, r.sequence = q ∧ r.source = i ∧
      (s.tickLimits.probe : Int) ≤ rawDiff s.time.raw r.t2 ∧ (s.bank.probeTimeout : Int) * 655360000000 ≤ rawDiff s.time.raw r.t2
  | .missingTimerExpiry => ∃ x, s.disc.missing = some x ∧ (s.tickLimits.missing : Int) ≤ rawDiff s.time.raw x ∧
      (s.bank.discipline.missingTimeout : Int) * 6553600000000 ≤ rawDiff s.time.raw x
  | .holdoverTimerExpiry => s.disc.state = .holdover ∧ ∃ x limit, s.disc.holdover = some x ∧ s.tickLimits.holdover = some limit ∧
      (limit : Int) ≤ rawDiff s.time.raw x ∧ s.bank.discipline.holdoverLimit ≠ 0 ∧
      (s.bank.discipline.holdoverLimit : Int) * 65536000000000 ≤ rawDiff s.time.raw x
  | .pulseLeadingInstant n => ∃ c, s.pulses[n].schedule = some c ∧ 0 ≤ s.now.sub c.next
  | .pulseTrailingInstant n => ∃ x, s.pulses[n].trailing = some x ∧ 0 ≤ s.now.sub x
  | _ => False

/-! ## What a cell write does -/

/-- A captured word before and after a write of the octets a set of enables covers (R28, R56). -/
abbrev Captures (en : Enables) (data : Word) (old new : CapturedWord) : Prop :=
  new.present = old.present ||| en ∧
  ∀ i, i < 32 → new.data.getLsbD i = if en.getLsbD (i / 8) then data.getLsbD i else old.data.getLsbD i

/-- The header copy of an entry before and after a write of cell word `n`: words h+2 to h+9 alone are copied (R56). -/
abbrev HeaderMirrors (n : Nat) (en : Enables) (data : Word) (e f : Entry) : Prop :=
  f = { e with copy := f.copy } ∧
  ∀ i : Fin 8, if n = e.header.h + 2 + i.val then Captures en data e.copy[i] f.copy[i] else f.copy[i] = e.copy[i]

/-- The header words an entry needs to complete are present (R57). -/
abbrev WordsPresent (e : Entry) : Prop :=
  match e.kind with
  | .probe => True
  | .echo => ∀ i : Fin 8, e.copy[i].present = 0b1111
  | .mark => ∀ i : Fin 8, i.val < 6 → e.copy[i].present = 0b1111
  | .detail => ∀ i : Fin 8, i.val < 6 → e.copy[i].present = 0b1111

/-- MARK entry `m` may be linked to DETAIL `d` (R65). -/
abbrev Qualifies (m d : Entry) : Prop :=
  m.kind = .mark ∧ m.detailFollows = true ∧ m.state ≠ .opened ∧ m.link = .absent ∧
  m.source.isSome = true ∧ m.source = d.source ∧ m.sequence = d.sequence ∧ m.domain = d.domain ∧ m.origin = d.origin

/-- The entries `es` after its entry `e` was looked at for completion (R57, R65): an OPEN entry whose words are present
becomes COMPLETE; a DETAIL is then linked with the youngest MARK that qualifies, or stays without a link. -/
abbrev CompletedInto (e : Entry) (es fs : List Entry) : Prop :=
  (e.state ≠ .opened ∨ ¬ WordsPresent e → fs = es) ∧
  (e.state = .opened → WordsPresent e →
    (e.kind ≠ .detail ∨ (∀ m ∈ es, ¬ Qualifies m e) → fs = changeEntry e.order (fun x => { x with state := .complete }) es) ∧
    (e.kind = .detail → ∀ m ∈ es, Qualifies m e → (∀ m' ∈ es, Qualifies m' e → m'.order ≤ m.order) →
      fs = es.map fun x =>
        if x.order = m.order then { x with link := .entry e.order }
        else if x.order = e.order then { x with state := .complete, link := .entry m.order }
        else x))

/-- The entries `es` after the end of their entry `e` (R66, R67): `e` is gone; the MARK linked to a DETAIL that ends has its
link ended, or is retired with it when DETACHED; the DETAIL linked to a MARK that ends loses its link. The others stay as they
are, in their order. -/
abbrev EntryEnds (e : Entry) (es fs : List Entry) : Prop :=
  ((∀ f ∈ es, e.link ≠ .entry f.order) → fs = es.filter fun x => x.order != e.order) ∧
  ∀ f ∈ es, e.link = .entry f.order →
    (e.kind = .detail → f.state ≠ .detached →
      fs = (es.filter fun x => x.order != e.order).map fun x => if x.order = f.order then { x with link := .ended } else x) ∧
    (e.kind = .detail → f.state = .detached → fs = es.filter fun x => x.order != e.order && x.order != f.order) ∧
    (e.kind ≠ .detail →
      fs = (es.filter fun x => x.order != e.order).map fun x => if x.order = f.order then { x with link := .absent } else x)

/-- The entries `es` after a rewrite of word 0 of the cell of their live entry `e` (R68): a COMPLETE two-step MARK whose link is
absent, or is a DETAIL that has not ended, is DETACHED; every other entry ends. -/
abbrev Rewritten (e : Entry) (es fs : List Entry) : Prop :=
  (e.state = .complete ∧ e.kind = .mark ∧ e.detailFollows = true ∧ e.link ≠ .ended →
    fs = changeEntry e.order (fun x => { x with state := .detached }) es) ∧
  (¬ (e.state = .complete ∧ e.kind = .mark ∧ e.detailFollows = true ∧ e.link ≠ .ended) → EntryEnds e es fs)

/-- The candidate that a tracked word-0 write of cell `k` opens at reading `raw` (R27). -/
abbrev OpenedBy (k : CellKey) (en : Enables) (data : Word) (raw : Raw) (c : Candidate) : Prop :=
  c.key = k ∧ c.arrival = raw ∧ c.header = none ∧ c.allocated = none ∧
  ∀ i : Fin 15,
    if i = 0 then
      c.words[i].present = en ∧
      ∀ b, b < 32 → c.words[i].data.getLsbD b = (en.getLsbD (b / 8) && data.getLsbD b)
    else c.words[i] = { data := 0, present := 0 }

/-- The table after a write of cell word `n`, not 0, of cell `k`: the live entry of the cell takes the enabled octets into
its header copy, and may complete (R56, R57). -/
abbrev MirroredFrom (k : CellKey) (n : Nat) (en : Enables) (data : Word) (s t : State) : Prop :=
  t = { s with table := { s.table with entries := t.table.entries } } ∧
  (findLive k s.table.entries = none → t = s) ∧
  ∀ e f, findLive k s.table.entries = some e → HeaderMirrors n en data e f →
    CompletedInto f (changeEntry e.order (fun _ => f) s.table.entries) t.table.entries

/-- A candidate before and after a write of cell word `n`, from 1 to 14, of its cell (R28). -/
abbrev CandidateCaptures (n : Nat) (en : Enables) (data : Word) (c d : Candidate) : Prop :=
  d = { c with words := d.words } ∧
  ∀ i : Fin 15, if i.val = n then Captures en data c.words[i] d.words[i] else d.words[i] = c.words[i]

/-- The words for the type decision are not all present (R21). -/
abbrev TypeWaits (c : Candidate) (p : Profile) : Prop :=
  (c.word 3).present ≠ 0b1111 ∨ ((c.word 3).data.extractLsb' 0 16 = p.tagType ∧ (c.word 4).present ≠ 0b1111)

/-- The words for the type decision say a time frame with its header at `h` (R20, R21). -/
abbrev TypeIs (c : Candidate) (p : Profile) (h : HeaderOffset) : Prop :=
  (c.word 3).present = 0b1111 ∧
  match h with
  | .four => (c.word 3).data.extractLsb' 0 16 ≠ p.tagType ∧ (c.word 3).data.extractLsb' 0 16 = p.frameType
  | .five => (c.word 3).data.extractLsb' 0 16 = p.tagType ∧ (c.word 4).present = 0b1111 ∧
      (c.word 4).data.extractLsb' 0 16 = p.frameType

/-- The words for the type decision say no time frame (R21). -/
abbrev TypeFails (c : Candidate) (p : Profile) : Prop :=
  (c.word 3).present = 0b1111 ∧
  (((c.word 3).data.extractLsb' 0 16 = p.tagType ∧ (c.word 4).present = 0b1111 ∧ (c.word 4).data.extractLsb' 0 16 ≠ p.frameType) ∨
    ((c.word 3).data.extractLsb' 0 16 ≠ p.tagType ∧ (c.word 3).data.extractLsb' 0 16 ≠ p.frameType))

/-- Cell words `n` to `n + k - 1` of a candidate are present (R28, R30). -/
abbrev AllPresent (c : Candidate) (n k : Nat) : Prop := ∀ i, i < k → (c.word (n + i)).present = 0b1111

/-- Candidate `d`, its captures taken, has or gets its header at `h` and has not allocated (R21, R30). -/
abbrev TypeKnown (c d : Candidate) (p : Profile) (h : HeaderOffset) : Prop :=
  c.allocated = none ∧ (c.header = some h ∨ (c.header = none ∧ TypeIs d p h))

/-- The version and domain of candidate `d` pass the checks of the allocation decision (R24, R25). -/
abbrev PassesChecks (d : Candidate) (p : Profile) (h : HeaderOffset) : Prop :=
  AllPresent d h.h 2 ∧ (d.word h.h).data.extractLsb' 24 4 = p.version ∧
  ∃ i : Fin 4, p.domains[i].enable = true ∧ p.domains[i].value = (d.word (h.h + 1)).data.extractLsb' 24 8

/-- The entry an allocation makes in state `s` for candidate `d` of lane `m` and kind `x`, OPEN (R53, R55). -/
def madeEntry (m : Fin 7) (d : Candidate) (h : HeaderOffset) (x : FrameKind) (s : State) : Entry where
  order := s.table.nextOrder
  state := .opened
  key := d.key
  header := h
  origin := originOf m
  kind := x
  detailFollows := (d.word h.h).data.getLsbD 17
  sequence := (d.word h.h).data.extractLsb' 0 16
  domain := (d.word (h.h + 1)).data.extractLsb' 24 8
  copy := tab8 fun i => d.word (h.h + 2 + i.val)
  rawIn := if m = 0 then s.time.raw else d.arrival
  snapshot := match x, originOf m with
    | .mark, .ingress p =>
      some
        { latencyIn := s.bank.ports[p].latencyIn
          asymmetry := s.bank.ports[p].asymmetry
          delay := if s.bank.ports[p].delayMode = .link then s.delays[p].delay else 0 }
    | _, _ => none
  link := .absent
  slots := tab6 fun _ => .idle

/-- The hand-off of a completed MARK or DETAIL of port `p` (R34). -/
def handedOver (p : Port) (c : Candidate) (h : Nat) (detail : Bool) : NetworkHandoff where
  port := p
  rawIn := c.arrival
  detail := detail
  detailFollows := (c.word h).data.getLsbD 17
  sequence := (c.word h).data.extractLsb' 0 16
  domain := (c.word (h + 1)).data.extractLsb' 24 8
  transit := (c.word (h + 2)).data ++ (c.word (h + 3)).data
  originSec := (c.word (h + 4)).data
  originNs := (c.word (h + 5)).data
  source := (c.word (h + 6)).data ++ (c.word (h + 7)).data

/-- Port `p` of the Delay Unit after a responder hand-off (R96): the record of the same sequence and source is replaced, a
full list loses its oldest. -/
def respondedBy (r : ResponderRecord) (d : PortDelay) : PortDelay :=
  { d with
    responders :=
      if ∃ x ∈ d.responders, x.sequence = r.sequence ∧ x.source = r.source then
        (d.responders.filter fun x => !(x.sequence == r.sequence && x.source == r.source)) ++ [r]
      else if d.responders.length < 4 then d.responders ++ [r]
      else d.responders.drop 1 ++ [r] }

/-- The kind that a discipline sample carries is a DETAIL's (R30, R34): the captured one of word h+0, or, where that has been
rewritten to neither MARK nor DETAIL, the kind `x` of the allocation decision (log 12). -/
def carriedDetail (x : FrameKind) (w : Word) : Bool :=
  if wordKind w = some .mark then false else if wordKind w = some .detail then true else x == .detail

/-- The completion decision of candidate `c` of lane `m`, allocated, that stands in state `v`, ends in `t` (R32, R34 to R36), by
the kind of its allocation decision, whatever h+0 holds now (R30): nothing while its words are not all present; otherwise the
candidate ends and its hand-offs are made. -/
abbrev Completes (m : Fin 7) (c : Candidate) (h : Nat) (v t : State) : Prop :=
  let u := { v with candidates := v.candidates.set m none }
  match originOf m, c.allocated with
  | .processor, some .probe => (AllPresent c h 2 → t = u) ∧ (¬ AllPresent c h 2 → t = v)
  | .processor, some .echo => (AllPresent c h 10 → t = u) ∧ (¬ AllPresent c h 10 → t = v)
  | .ingress p, some .mark =>
    (AllPresent c h 8 →
      t = if v.bank.ports[p].upstreamEligible then networkHandoff (handedOver p c h (carriedDetail .mark (c.word h).data)) u else u) ∧
    (¬ AllPresent c h 8 → t = v)
  | .ingress p, some .detail =>
    (AllPresent c h 8 →
      t = if v.bank.ports[p].upstreamEligible then networkHandoff (handedOver p c h (carriedDetail .detail (c.word h).data)) u else u) ∧
    (¬ AllPresent c h 8 → t = v)
  | .ingress p, some .probe =>
    (AllPresent c h 8 →
      t = if v.bank.ports[p].delayMode = .link then
          { u with
            delays := u.delays.set p
              (respondedBy
                { sequence := (c.word h).data.extractLsb' 0 16, source := (c.word (h + 6)).data ++ (c.word (h + 7)).data, t2 := c.arrival }
                u.delays[p]) }
        else u) ∧
    (¬ AllPresent c h 8 → t = v)
  | .ingress p, some .echo =>
    (AllPresent c h 10 →
      t = if (c.word (h + 8)).data ++ (c.word (h + 9)).data = v.bank.localId ∧ v.bank.ports[p].delayMode = .link then
          echoHandoff p ((c.word h).data.extractLsb' 0 16) ((c.word (h + 2)).data ++ (c.word (h + 3)).data) c.arrival u
        else u) ∧
    (¬ AllPresent c h 10 → t = v)
  | _, _ => t = v

/-! ## What a transit-word read does -/

/-- The state after a transit-word read that leaves slot `q` of entry `e` PASSED with this flag (R60, R61). -/
abbrev PassedRead (a : Access) (e : Entry) (q : Port) (rawOut : Option Raw) (flag : BitVec 16) (s t : State) : Prop :=
  t = { s with
    ports := { memory := some (.read a.next), fabric := some (s.memory.readWord a.next) }
    arbiter := advanced a s
    table := { s.table with entries := changeEntry e.order (fun x => x.setSlot q (.passed rawOut)) s.table.entries }
    report :=
      { s.report with
        ports := s.report.ports.set q { s.report.ports[q] with passed := s.report.ports[q].passed + 1 }
        flags := s.report.flags ||| flag
        queue := joinQueue s.report.queue .status } }

/-- The state after a transit-word read of word `n` that leaves slot `q` of entry `e` PATCHED by a computation from the
transit `c` and the sum `x` (R60, R85 to R88): transit unknown stays unknown and raises its flag; otherwise the rounded sum
is held at the nearest end of the 64-bit range, and one outside it raises SATURATED. -/
abbrev PatchedRead (a : Access) (e : Entry) (q : Port) (rawOut : Raw) (n : Nat) (c : BitVec 64) (x : Int)
    (delays : Vector PortDelay 6) (s t : State) : Prop :=
  ∃ (held : BitVec 64) (flag : BitVec 16),
    (c = 0x7FFFFFFFFFFFFFFF → held = c ∧ flag = 0x0008) ∧
    (c ≠ 0x7FFFFFFFFFFFFFFF →
      held.toInt = max (-9223372036854775808) (min 9223372036854775807 (roundSum s.bank.rounding x)) ∧
      flag = if held.toInt = roundSum s.bank.rounding x then 0 else 0x0004) ∧
    t = { s with
      ports := { memory := some (.read a.next), fabric := some (if n = e.header.h + 2 then highWord held else lowWord held) }
      arbiter := advanced a s
      table := { s.table with entries := changeEntry e.order (fun x => x.setSlot q (.patched rawOut held)) s.table.entries }
      delays := delays
      report :=
        { s.report with
          ports := s.report.ports.set q { s.report.ports[q] with patched := s.report.ports[q].patched + 1 }
          flags := s.report.flags ||| flag
          queue := if flag = 0 then s.report.queue else joinQueue s.report.queue .status } }

/-! ## What a swap does -/

/-- What becomes of entry `e` of the table of `s` at a decode change to bank `b` (R17, R66, R72): it goes with its window; where
the entry it is linked to goes, a DETAIL loses its link, a MARK's link is ended, and a DETACHED MARK goes too; otherwise it
stays as it is. -/
def keptEntry (b : Profile) (s : State) (e : Entry) : Option Entry :=
  let goes : Entry → Bool := fun x => s.decode.pool[x.key.window] != b.pool[x.key.window]
  if goes e then none
  else if s.table.entries.any fun x => e.link == .entry x.order && goes x then
    if e.kind = .detail then some { e with link := .absent }
    else if e.state = .detached then none
    else some { e with link := .ended }
  else some e

/-- The decode follows bank `b` when no fabric access is in progress (log 14); the entries and candidates of changed windows
are gone, no entry is added, and those of the other windows stay, but that an entry linked to one that went loses or ends its
link, or ends with it (R17, R66, R72). -/
abbrev DecodeFollows (b : Profile) (s t : State) : Prop :=
  ((∃ a, s.arbiter.current = some a ∧ 0 < a.passed) → t.decode = s.decode ∧ t.table = s.table ∧ t.candidates = s.candidates) ∧
  ((∀ a, s.arbiter.current = some a → a.passed = 0) →
    t.decode = { pool := b.pool, exclusion := b.exclusion } ∧ t.table.nextOrder = s.table.nextOrder ∧
    (∀ e ∈ t.table.entries, s.decode.pool[e.key.window] = b.pool[e.key.window] ∧
      ∃ f ∈ s.table.entries, e = { f with link := e.link }) ∧
    (TableInv s → LinkInv s → t.table.entries = s.table.entries.filterMap (keptEntry b s)) ∧
    (TableInv s → ∀ e ∈ s.table.entries, s.decode.pool[e.key.window] = b.pool[e.key.window] →
      (∀ f ∈ s.table.entries, f.link = .entry e.order → s.decode.pool[f.key.window] = b.pool[f.key.window]) →
      e ∈ t.table.entries) ∧
    ∀ n : Fin 7, t.candidates[n] = s.candidates[n].filter fun c => s.decode.pool[c.key.window] == b.pool[c.key.window])

/-- A port of the Delay Unit at a swap from items `x` to `y` of its bank `b` (R105, R108, R109). -/
abbrev SwappedDelay (x y : PortItems) (b : Profile) (d e : PortDelay) : Prop :=
  (x.delayMode = .link ∧ y.delayMode = .none → e.probes = [] ∧ e.responders = [] ∧ e.ring = []) ∧
  (¬ (x.delayMode = .link ∧ y.delayMode = .none) →
    e.probes = d.probes ∧ e.responders = d.responders ∧ e.ring = d.ring.drop (d.ring.length - b.windowLength)) ∧
  e.valid = !e.ring.isEmpty ∧ (e.ring = [] → e.delay = b.defaultDelay * 65536) ∧
  (e.ring ≠ [] → e.delay ∈ e.ring ∧ ∀ z ∈ e.ring, e.delay ≤ z)

/-- A rate at a swap to a bank: inside plus or minus its limit, floor(ppm × 2^40 / 1,000,000) (R44). -/
def swappedRate (b : Profile) (r : Int) : Int :=
  max (-(b.discipline.rateLimit * 1099511627776 / 1000000 : Nat)) (min (b.discipline.rateLimit * 1099511627776 / 1000000 : Nat) r)

/-- The Discipline Unit at a swap from discipline items `o` to those of bank `b`, at reading `raw` (R44, R133). -/
def swappedDisc (o : DisciplineItems) (b : Profile) (raw : Raw) (d : Discipline) : Discipline :=
  let n := b.discipline
  let source : ActiveSource := if n.mode = .input then .input else .network
  let off : Bool := o.enable && !n.enable
  let on : Bool := !o.enable && n.enable
  let mode : Bool := o.enable && n.enable && o.mode != n.mode
  { d with
    state := if off || on then .freeRun else d.state
    source := if off then .none else if on || mode then source else d.source
    latched := if o.expected = n.expected then d.latched else if n.expected = 0 then none else some n.expected
    seen := if off || o.expected != n.expected then [] else d.seen
    rhoI := swappedRate b d.rhoI
    lockCount := if off || on then 0 else d.lockCount
    rejectCount := if off || on then 0 else d.rejectCount
    missing := if off then none else if on || (mode && d.source != source) then some raw else d.missing
    holdover := if off then none else d.holdover }

/-- The settings an output works with (R144). -/
def pulseSettings (i : PulseItems) : PulseSettings :=
  { period := i.period * 1000000
    offset := i.offset % (i.period * 1000000)
    width := if i.width * 1000 < i.period * 1000000 then i.width * 1000 else i.period * 1000000 / 2 }

/-- An output at a swap from items `i` to `j` at station time `now`, `d` the discipline state after the swap (R147,
R149). -/
def swappedPulse (i j : PulseItems) (now : StationTime) (d : DisciplineState) (o : PulseOutput) : PulseOutput :=
  if j.period = 0 then { schedule := none, trailing := none }
  else
    { schedule :=
        if i.period = j.period ∧ i.offset = j.offset ∧ i.width = j.width then o.schedule
        else
          some
            { settings := pulseSettings j
              next := (pulseSettings j).firstAfter
                (match o.trailing with
                  | some x => if 0 ≤ x.sub now then x else now
                  | none => now) }
      trailing := if j.gating.holds d then o.trailing else none }

/-- What a swap does to the owners whose state the decode does not hold: the Delay Unit, the rates, the Discipline Unit and the
pulse outputs; `d` and `o` are the Discipline Unit and the outputs it finds, `d'` and `o'` those it leaves. -/
abbrev OwnersSwap (s t : State) (now : StationTime) (d d' : Discipline) (o o' : Vector PulseOutput 4) : Prop :=
  (∀ p : Port, SwappedDelay s.bank.ports[p] s.staged.ports[p] s.staged s.delays[p] t.delays[p]) ∧
  t.time.rho = swappedRate s.staged s.time.rho ∧ d' = swappedDisc s.bank.discipline s.staged s.time.raw d ∧
  ∀ n : Fin 4, o'[n] = swappedPulse s.bank.outputs[n] s.staged.outputs[n] now d'.state o[n]

/-- The Profile Store and the status words after the pending swap that `slot` gave has taken place: the slot shows DONE if it
still holds the swap, that is, if it still shows PENDING (R159; log 15). -/
abbrev PendingSwapTaken (slot : Fin 16) (s t : State) : Prop :=
  t.profiles = { s.profiles with active := s.profiles.active.other, swap := .none } ∧ t.monitor.shadows = s.monitor.shadows ∧
  t.monitor.status =
    (if s.monitor.status[slot].result = .pending then
      s.monitor.status.set slot { s.monitor.status[slot] with result := .done }
    else s.monitor.status)

/-- The blocks that the owners request at a swap from `s` to `t`: Status; Discipline where the discipline state changed; and
Port p where D(p) or its delay valid did (R106, R173). -/
abbrev SwapRequests (s t : State) (k : BlockKind) : Prop :=
  k = .status ∨ (k = .discipline ∧ t.disc.state ≠ s.disc.state) ∨
  ∃ p : Port, k = .port p ∧ (t.delays[p].delay ≠ s.delays[p].delay ∨ t.delays[p].valid ≠ s.delays[p].valid)

/-! ## What a step of station time does -/

/-- The Seen-Mark list after a step of station time: the T_w of every waiting record moves with it (R120). -/
def movedMarks (amount : Int) (l : List SeenMark) : List SeenMark :=
  l.map fun m => if m.awaiting then { m with tw := m.tw.add amount } else m

/-- An output after a step to station time `now`: no pulse is active, and the next leading instant is the first later than
`now`; an output that is off stays off (R148). -/
def steppedPulse (now : StationTime) (o : PulseOutput) : PulseOutput :=
  match o.schedule with
  | none => o
  | some c => { schedule := some { c with next := c.settings.firstAfter now }, trailing := none }

/-- A step of station time by an amount (R45, R46, R120, R148, R159): station time moves by it and the record is anchored at this
tick; STEPPED is raised and no other flag, nothing is counted; waiting T_w move with it; the pulses end and the schedules
start anew. When the second changes it brings a rollover, which requests its blocks and takes a pending swap. Outside bypass Status
is requested, the rollover's blocks, the blocks of a swap that takes place, and Commands where the swap rewrites its slot; no
other block joins, and those queued keep their places (R46, R106, R159, R167, R173); in bypass none is taken. Nothing else
changes. That the decode changes at once while no word of a granted access has passed is log 14, that the slot is known by its
showing PENDING log 15, that a rollover is told from the seconds last seen log 21, and that a step of amount 0 sets the next
instants anew log 26: the model's deductions and choice. -/
abbrev StepOf (amount : Int) (s t : State) : Prop :=
  let rolls := t.now.sec ≠ s.time.secondsSeen
  t.now = s.now.add amount ∧ t.time.raw = s.time.raw ∧ t.time.anchorRaw = s.time.raw ∧ t.time.anchorStation = t.now ∧
  t.time.secondsSeen = t.now.sec ∧
  t.report = { s.report with queue := t.report.queue, flags := s.report.flags ||| 0x0800 } ∧
  s.report.queue <+: t.report.queue ∧ (s.straps.bypass = true → t.report.queue = s.report.queue) ∧
  (s.straps.bypass = false → ∀ k : BlockKind, k ∈ t.report.queue ↔
    k ∈ s.report.queue ∨ k = .status ∨
    (rolls ∧ k ∈ ([.discipline, .port 0, .port 1, .port 2, .port 3, .port 4, .port 5, .counters] : List BlockKind)) ∨
    (rolls ∧ ∃ slot, s.profiles.swap = .pending slot ∧
      (SwapRequests s t k ∨ (k = .commands ∧ s.monitor.status[slot].result = .pending)))) ∧
  ((NoPendingSwap s ∨ ¬ rolls) →
    t.time.rho = s.time.rho ∧
    t = { s with
          time := t.time
          disc := { s.disc with seen := movedMarks amount s.disc.seen }
          pulses := t.pulses, report := t.report } ∧
    ∀ n : Fin 4, t.pulses[n] = steppedPulse t.now s.pulses[n]) ∧
  ∀ slot, s.profiles.swap = .pending slot → rolls →
    t = { s with
          time := t.time, disc := t.disc, pulses := t.pulses, report := t.report, decode := t.decode
          candidates := t.candidates, table := t.table, delays := t.delays, profiles := t.profiles, monitor := t.monitor } ∧
    PendingSwapTaken slot s t ∧ DecodeFollows s.staged s t ∧
    ∃ o : Vector PulseOutput 4,
      OwnersSwap s t t.now { s.disc with seen := movedMarks amount s.disc.seen } t.disc s.pulses o ∧
      ∀ n : Fin 4, t.pulses[n] = steppedPulse t.now o[n]

/-- The outputs after a change of the discipline state to `d`: off with a period of 0, and a pulse ends where the gating
condition does not hold (R147). -/
abbrev Gated (d : DisciplineState) (s t : State) : Prop :=
  ∀ n : Fin 4, t.pulses[n] =
    if s.bank.outputs[n].period = 0 then { schedule := none, trailing := none }
    else if s.bank.outputs[n].gating.holds d then s.pulses[n] else { s.pulses[n] with trailing := none }

/-- The Discipline Unit becomes `d`, which may be of another state: then the outputs' gating is tested and the Status and
Discipline blocks are requested; nothing else changes (section 7.4; R147, R173). -/
abbrev DisciplineBecomes (d : Discipline) (s t : State) : Prop :=
  t = { s with disc := d, pulses := t.pulses, report := { s.report with queue := t.report.queue } } ∧
  (d.state = s.disc.state → t.pulses = s.pulses ∧ t.report.queue = s.report.queue) ∧
  (d.state ≠ s.disc.state → Gated d.state s t ∧
    t.report.queue =
      if s.straps.bypass then s.report.queue else joinQueue (joinQueue s.report.queue .status) .discipline)

/-- The Discipline Unit `d` on its entry to ACQUIRE at reading `raw` (R114, R122, R124, R125, R131). -/
def acquired (raw : Raw) (d : Discipline) : Discipline :=
  { d with state := .acquire, lockCount := 0, rejectCount := 0, holdover := none, missing := some raw }

/-- The Discipline Unit is told of a TIME_SET or TIME_STEP (R131). -/
abbrev ToldOfStep (s t : State) : Prop :=
  (s.disc.state = .freeRun → t = s) ∧ (s.disc.state ≠ .freeRun → DisciplineBecomes (acquired s.time.raw s.disc) s t)

/-! ## What a capture and a sample do -/

/-- A capture on input `n` that leaves the record `c`, from state `s` to `t` (R121, R138, R139): the record, the overrun, the
Captures request; and for I0, while the discipline is enabled and follows the input, a sample of the captured time folded to
the nearest whole second. That the record and its requests come before the sample and its requests is log 11. -/
abbrev CapturedFrom (n : Fin 2) (c : CaptureInput) (s t : State) : Prop :=
  ∃ u : State,
    u = { s with
      captures := s.captures.set n c
      report :=
        { s.report with
          flags := if s.captures[n].pending then s.report.flags ||| 0x4000 else s.report.flags
          queue :=
            if s.straps.bypass then s.report.queue
            else joinQueue (if s.captures[n].pending then joinQueue s.report.queue .status else s.report.queue) .captures } } ∧
    (n = 0 ∧ s.bank.discipline.enable = true ∧ s.disc.source = .input →
      t = takeSample
        (some ((if c.time.ns.val < 500000000 then (c.time.ns.val : Int) else (c.time.ns.val : Int) - 1000000000) * 65536 +
          c.time.frac.toNat)) .input u) ∧
    (¬ (n = 0 ∧ s.bank.discipline.enable = true ∧ s.disc.source = .input) → t = u)

/-- The active source after a sample, and the missing timer started again (R113, R114). -/
def sampled (o : SampleOrigin) (raw : Raw) (d : Discipline) : Discipline :=
  { d with source := (match o with | .network _ => .network | .input => d.source), missing := some raw }

/-- The PI update of ρ_i and ρ by an offset (R126). -/
abbrev PiUpdates (theta : Int) (s : State) (rhoI rho : Int) : Prop :=
  ∃ u : Int, u = (max (-1099511627776) (min 1099511627776 theta)) / 64 ∧
    rhoI = max (-s.rateLimit) (min s.rateLimit (s.disc.rhoI - u / 2 ^ s.bank.discipline.ki)) ∧
    rho = max (-s.rateLimit) (min s.rateLimit (rhoI - u / 2 ^ s.bank.discipline.kp))

/-- The Report Writer with one accepted sample more. -/
def acceptedOne (r : ReportWriter) : ReportWriter :=
  { r with globals := { r.globals with samplesAccepted := r.globals.samplesAccepted + 1 } }

/-- The Report Writer with one rejected sample more. -/
def rejectedOne (r : ReportWriter) : ReportWriter :=
  { r with globals := { r.globals with samplesRejected := r.globals.samplesRejected + 1 } }

/-! ## What an item write stores -/

/-- Writing value `v` to item `code`, index `n`, of profile `p` makes it `q`, and says it was adjusted exactly when `adj`
(R153, R154, R156). -/
abbrev Stores (code n : Nat) (v : BitVec 64) (p q : Profile) (adj : Prop) : Prop :=
  ∃ x, writeItem code n v p = some x ∧ x.value = q ∧ (x.adjusted = true ↔ adj)

/-- An unsigned item of the range from `lo` to `hi`: the nearest value of the range is stored (R154). -/
abbrev StoresIn (code n lo hi : Nat) (v : BitVec 64) (p : Profile) (q : Nat → Profile) : Prop :=
  Stores code n v p (q (max lo (min hi v.toNat))) (v.toNat < lo ∨ hi < v.toNat)

/-- `c` is the largest number of the list not above `n`, or `least` when there is none (R11, R144). -/
abbrev FittedTo (l : List Nat) (least n c : Nat) : Prop :=
  c ∈ l ∧ (n < least → c = least) ∧ (least ≤ n → c ≤ n ∧ ∀ x ∈ l, x ≤ n → x ≤ c)

end Sys2Proof.Machine
end

