-- ==== Sys2Proof/Certificates/Slice0/Obligations.lean ====
section
/-! DEFINITION. The statements for the provers: the part's rules as claims about `exec` and `step`. A command is said to be
taken, a word to pass, an event to happen, by conditions on the state alone (the abbreviations of Safety.lean); the conclusion
is the next state. -/

open Sys2Proof Sys2Proof.Machine

/-! ## The machine -/

/-- A step takes the command at the front of the queue. The queue is the model's own form of "what the outside gives",
log 1 and log 2. -/
def Obligations.StepTakesFront : Prop :=
  ∀ (c : Instr) (rest : List Instr) (s : State), s.pending = c :: rest → step s = exec c (s.withPending rest)

/-- On an empty queue the clock runs: nothing while reset is held; an event that is due at this tick, one a step; and when none
is due, a tick of 524,288 fn, at which both inputs are sampled anew. R38 gives the size of a tick; that a tick is a step on an
empty queue is the model's choice, log 1, that what is due happens by itself there, one a step, and which of several goes first,
log 2 (which goes first is not stated here). The lengths of the timers are noted at each tick, and an expiry is due by them and by
those of the active bank (log 6). The form of the sampling is the model's too (the levels of RESET_RELEASE are those of the first
tick, and a change of level is a row: log 4, log 19), and that a rollover is told from the seconds last seen is log 21. -/
def Obligations.EmptyQueueRunsClock : Prop :=
  ∀ s : State, s.pending = [] →
    (s.resetHeld = true → step s = .next s) ∧
    (s.resetHeld = false →
      (∀ i, dueEvent s = some i → DueAt s i ∧ step s = exec i s) ∧
      (DelayInv s → (dueEvent s = none ↔ ∀ i, ¬ DueAt s i)) ∧
      (dueEvent s = none →
        step s = .next
          { s with
            time := { s.time with raw := s.time.raw + 524288 }
            captures := tab2 fun n =>
              { s.captures[n] with sampling := if s.captures[n].sampling = .starting then .taken else .ready }
            tickLimits := s.bank.timerLimits }))

/-- No command is refused, and the one fault is a burst length outside the 1 to 16 of R2 (the model's choice, log 9). -/
def Obligations.OnlyBadBurstLengthStops : Prop :=
  ∀ (c : Instr) (s : State),
    (∀ r, exec c s ≠ .refused r) ∧
    ∀ f, exec c s = .fault f ↔ ∃ a d n, c = .fabricAccessRequest a d n ∧ ¬ (1 ≤ n ∧ n ≤ 16)

/-! ## Reset -/

/-- The values the spec gives for hardware reset, block by block: arbiter, Time Base, Discipline Unit, Residence Table and
candidates, Delay Unit, captures, pulse outputs, banks, window decode, Command Monitor, Report Writer. Both banks and the decode
hold the default profile, every item of section 9.3 at its default (R155). The seconds last seen are the model's own field
(log 21). -/
def Obligations.ResetValues : Prop :=
  State.reset.arbiter.owner = .idle ∧ State.reset.arbiter.waitCount = 0 ∧ State.reset.arbiter.burst = none ∧
  State.reset.time.raw = 0 ∧ State.reset.time.anchorRaw = 0 ∧ State.reset.time.anchorStation = { sec := 0, ns := 0, frac := 0 } ∧
  State.reset.time.rho = 0 ∧ State.reset.time.secondsSeen = 0 ∧
  State.reset.disc =
    { state := .freeRun, source := .none, latched := none, seen := [], rhoI := 0, lockCount := 0, rejectCount := 0,
      hold := false, missing := none, holdover := none, last := none } ∧
  State.reset.table.entries = [] ∧ (∀ n : Fin 7, State.reset.candidates[n] = none) ∧
  (∀ p : Port, State.reset.delays[p] = { probes := [], responders := [], ring := [], delay := 0, valid := false }) ∧
  (∀ n : Fin 2, State.reset.captures[n].time = { sec := 0, ns := 0, frac := 0 } ∧ State.reset.captures[n].count = 0 ∧
    State.reset.captures[n].pending = false) ∧
  (∀ n : Fin 4, State.reset.pulses[n] = { schedule := none, trailing := none }) ∧
  State.reset.profiles = { bankA := defaultProfile, bankB := defaultProfile, active := .a, swap := .none } ∧
  State.reset.decode = { pool := defaultProfile.pool, exclusion := defaultProfile.exclusion } ∧
  (∀ n : Fin 4, defaultProfile.pool[n] =
    { enable := false, base := 0, cellSize := 16, cellCount := 1, ingressTracking := false, processorTracking := false }) ∧
  (∀ n : Fin 2, defaultProfile.exclusion[n] = { enable := false, base := 0, size := 1 }) ∧ defaultProfile.ageLimit = 20 ∧
  defaultProfile.frameType = 0 ∧ defaultProfile.tagType = 0 ∧ defaultProfile.version = 0 ∧
  (∀ n : Fin 4, defaultProfile.domains[n] = { value := 0, enable := false }) ∧ defaultProfile.localId = 0 ∧
  defaultProfile.rounding = .nearestEven ∧
  (∀ p : Port, defaultProfile.ports[p] =
    { latencyIn := 0, latencyOut := 0, asymmetry := 0, delayMode := .none, upstreamEligible := false }) ∧
  defaultProfile.defaultDelay = 0 ∧ defaultProfile.delayMax = 10000 ∧ defaultProfile.windowLength = 4 ∧
  defaultProfile.probeTimeout = 100 ∧ defaultProfile.unordered = .signal ∧
  defaultProfile.discipline =
    { enable := false, mode := .network, expected := 0, stepThreshold := 1000000, lockThreshold := 1000, gateLimit := 100000,
      missingTimeout := 30, holdoverLimit := 3600, kp := 2, ki := 6, rateLimit := 100 } ∧
  (∀ n : Fin 2, defaultProfile.inputs[n] = { enable := false, polarity := .rising, inputDelay := 0 }) ∧
  (∀ n : Fin 4, defaultProfile.outputs[n] =
    { period := 0, offset := 0, width := 100, polarity := .activeHigh, gating := .validOnly }) ∧
  (∀ n : Fin 16, State.reset.monitor.status[n] = { result := .none, tag := 0, code := 0 }) ∧
  (∀ (n : Fin 16) (m : Fin 7), State.reset.monitor.shadows[n][m] = 0) ∧
  State.reset.report.flags = 0 ∧ State.reset.report.enables = 0 ∧
  (∀ k : Fin 11, State.reset.report.generations[k] = 0) ∧
  State.reset.report.globals =
    { untracked := 0, aged := 0, rewrites := 0, versionMismatch := 0, samplesAccepted := 0, samplesRejected := 0,
      duplicates := 0 } ∧
  (∀ p : Port, State.reset.report.ports[p] =
    { tracked := 0, patched := 0, passed := 0, delayAccepted := 0, delayRejected := 0 }) ∧
  State.reset.report.queue =
    [.status, .discipline, .port 0, .port 1, .port 2, .port 3, .port 4, .port 5, .commands, .captures, .counters]

/-- Every invariant holds right after hardware reset. -/
def Obligations.ResetMeetsInvariants : Prop :=
  MemoryInv State.reset ∧ PortInv State.reset ∧ RateInv State.reset ∧ CountInv State.reset ∧ DelayInv State.reset ∧
  TableInv State.reset ∧ CellInv State.reset ∧ OriginInv State.reset ∧ LinkInv State.reset ∧ PulseInv State.reset ∧ RawInv State.reset ∧
  ProfileInv State.reset ∧ HeldInv State.reset ∧ BypassInv State.reset ∧ BurstInv State.reset

/-- HARDWARE_RESET puts every block at its reset value and the arbiter at IDLE. Memory keeps what it holds, and a burst in
progress leaves the words it had written, a number the spec leaves open (log 7). What the fabric has presented stays
presented: an access in progress keeps the port, and passes whole undecoded if a word of it has passed; with none in progress the
first that waits has the port (the model's reading of R15 and R18, log 13). The two ports keep what they showed last (log 22), and
the straps and recorded levels of the part in reset are the model's (log 4). -/
def Obligations.HardwareResetResets : Prop :=
  ∀ s : State, ∃ (m : Memory) (p : PortOutputs) (k : Nat) (c : Option Access) (w : List Access),
    exec .hardwareReset s = .next
      { State.reset with
        memory := m, ports := p, freeIndex := k, pending := s.pending
        arbiter := { State.reset.arbiter with current := c, waiting := w } } ∧
    (∀ a, s.arbiter.current = some a → w = s.arbiter.waiting ∧
      (a.passed = 0 → c = some a) ∧ (a.passed ≠ 0 → c = some { a with passThrough := true })) ∧
    (s.arbiter.current = none → s.arbiter.waiting = [] → c = none ∧ w = []) ∧
    (s.arbiter.current = none → ∀ a rest, s.arbiter.waiting = a :: rest → c = some a ∧ w = rest) ∧
    (s.arbiter.burst = none → m = s.memory ∧ p = s.ports) ∧
    ∀ b, s.arbiter.burst = some b →
      ∃ n, (b.words ≠ [] → n < b.words.length) ∧ m = s.memory.writeBurst (b.words.take n)

/-- RESET_RELEASE brings every block up in its start-up state, with the straps sampled and every report block queued, the
Status burst first; in bypass none is queued. A fabric access that was presented and has not started is granted first
(log 13); one of which a word has passed goes on undecoded, and the reports wait for its end (log 13). Released already,
nothing happens (log 8). The input levels are those of the first tick after release (log 4). -/
def Obligations.ResetReleaseBringsUp : Prop :=
  ∀ (base : BitVec 8) (bypass l0 l1 : Bool) (s : State),
    (s.resetHeld = false → exec (.resetRelease base bypass l0 l1) s = .next s) ∧
    (s.resetHeld = true → ∃ t, exec (.resetRelease base bypass l0 l1) s = .next t ∧
      t.resetHeld = false ∧ t.straps = { base := base, bypass := bypass } ∧ t.memory = s.memory ∧ t.ports = s.ports ∧
      t.pending = s.pending ∧ t.decode = State.reset.decode ∧ t.candidates = State.reset.candidates ∧
      t.table = State.reset.table ∧ t.delays = State.reset.delays ∧ t.time = State.reset.time ∧
      t.disc = State.reset.disc ∧ t.pulses = State.reset.pulses ∧ t.profiles = State.reset.profiles ∧
      t.monitor = State.reset.monitor ∧
      t.captures[0] = { State.reset.captures[0] with level := l0 } ∧
      t.captures[1] = { State.reset.captures[1] with level := l1 } ∧
      (bypass = true → t.report = { State.reset.report with queue := [] } ∧ t.arbiter.burst = none) ∧
      (bypass = false → s.arbiter.current = none → s.arbiter.waiting = [] →
        t.arbiter.owner = .report ∧ t.arbiter.burst = some { kind := .status, words := burstWords .status t } ∧
        t.report =
          { State.reset.report with
            queue := [.discipline, .port 0, .port 1, .port 2, .port 3, .port 4, .port 5, .commands, .captures, .counters]
            generations := State.reset.report.generations.set 0 1 }) ∧
      (∀ a rest,
        ((s.arbiter.current = some a ∧ a.passed = 0 ∧ s.arbiter.waiting = rest) ∨
          (s.arbiter.current = none ∧ s.arbiter.waiting = a :: rest)) →
        t.arbiter.owner = .fabric ∧ t.arbiter.current = some a ∧ t.arbiter.waiting = rest ∧ t.arbiter.burst = none ∧
        t.report = { State.reset.report with queue := if bypass then [] else State.reset.report.queue }) ∧
      (∀ a, s.arbiter.current = some a → a.passed ≠ 0 →
        t.arbiter = { State.reset.arbiter with current := some { a with passThrough := true }, waiting := s.arbiter.waiting } ∧
        t.report = { State.reset.report with queue := if bypass then [] else State.reset.report.queue }))

/-! ## Accesses and the arbiter -/

/-- FABRIC_ACCESS_REQUEST: an access that finds the port free is granted it, or is held for a burst when the wait count is
at its limit and a report request waits (in a state between an access end and its grant: `PortInv` shuts such a state out
elsewhere); one that finds it busy waits behind those presented before it. Any number may wait (log 20); in reset the access
has the port at once and the owner stays as it is (log 13); a forced burst takes its values before the flag is raised
(log 17). -/
def Obligations.AccessRequestIsGrantedOrWaits : Prop :=
  ∀ (address : BitVec 26) (d : Direction) (n : Nat) (s : State) (a : Access), 1 ≤ n → n ≤ 16 →
    a = { lane := address.extractLsb' 22 4, start := address.extractLsb' 0 22, direction := d, length := n, passed := 0,
          passThrough := false } →
    (portFree s = false →
      exec (.fabricAccessRequest address d n) s = .next { s with arbiter := { s.arbiter with waiting := s.arbiter.waiting ++ [a] } }) ∧
    (portFree s = true → s.arbiter.waiting = [] → s.resetHeld = true →
      exec (.fabricAccessRequest address d n) s = .next { s with arbiter := { s.arbiter with current := some a } }) ∧
    (portFree s = true → s.arbiter.waiting = [] → s.resetHeld = false →
      (s.report.queue = [] ∨ s.arbiter.waitCount < 64) →
      exec (.fabricAccessRequest address d n) s = .next { s with arbiter := { s.arbiter with owner := .fabric, current := some a } }) ∧
    (portFree s = true → s.arbiter.waiting = [] → s.resetHeld = false → 64 ≤ s.arbiter.waitCount →
      ∀ k ks, s.report.queue = k :: ks → ∃ t,
        exec (.fabricAccessRequest address d n) s = .next t ∧
        t.arbiter =
          { s.arbiter with
            owner := .report, waitCount := 0, waiting := [a]
            burst := some
              { kind := k, words := burstWords k { t with report := { t.report with flags := s.report.flags } } } } ∧
        t.report.flags = s.report.flags ||| 0x8000)

/-- The grant at the end of a fabric access with no swap waiting: the table of R12 with the wait count of R13 and the forced
service of R14; a burst that starts writes its block of the state right after the end, its count gone up by one. A decode
change that a swap during the access left waiting comes first (R17; log 24). A forced burst takes its values before the flag is
raised (log 17). While the reset pin is held the next access has the port at once, and the owner stays IDLE (log 13). -/
def Obligations.AccessEndGrantsPort : Prop :=
  ∀ (s : State) (a : Access), s.arbiter.current = some a → a.length ≤ a.passed → s.arbiter.burst = none →
    (s.resetHeld = true → HeldInv s →
      exec .fabricAccessEnd s = .next
        (match s.arbiter.waiting with
          | [] => { s with arbiter := { s.arbiter with waitCount := 0, current := none } }
          | b :: bs => { s with arbiter := { s.arbiter with waitCount := 0, current := some b, waiting := bs } })) ∧
    (s.resetHeld = false → s.profiles.swap ≠ .waiting →
    ∃ t, exec .fabricAccessEnd s = .next t ∧
      t = { s with
            arbiter := t.arbiter, report := t.report, decode := t.decode, table := t.table, candidates := t.candidates } ∧
      DecodeFollows s.bank { s with arbiter := { s.arbiter with current := none } } t ∧
      GrantedAtEnd s.arbiter s.report s.straps.bypass t)

/-- A PROFILE_SWAP with mode IMMEDIATE takes place at the end of its access: the banks change places, the decode changes
with them, and every owner acts: the Delay Unit cuts or empties its rings, the rates come inside the new limit, the
Discipline Unit and the pulse outputs take their new items. Their requests join the queue; then the wait count and the grant
follow as at any access end, and a burst granted at that end takes its words of the state after all this (log 24), a forced one
before its flag is raised (log 17). While reset is held no swap waits, and a burst and an access never have the port together
(HeldInv, PortInv). -/
def Obligations.WaitingSwapAtAccessEnd : Prop :=
  ∀ (s : State) (a : Access), s.arbiter.current = some a → a.length ≤ a.passed → s.profiles.swap = .waiting →
    ∃ t, exec .fabricAccessEnd s = .next t ∧
      t.profiles = { s.profiles with active := s.profiles.active.other, swap := .none } ∧ t.bank = s.staged ∧
      DecodeFollows s.staged { s with arbiter := { s.arbiter with current := none } } t ∧
      OwnersSwap s t s.now s.disc t.disc s.pulses t.pulses ∧
      t = { s with
            decode := t.decode, table := t.table, candidates := t.candidates, delays := t.delays, time := t.time, disc := t.disc
            pulses := t.pulses, profiles := t.profiles, report := t.report, arbiter := t.arbiter } ∧
      t.time.raw = s.time.raw ∧ t.now = s.now ∧ t.time.secondsSeen = s.time.secondsSeen ∧
      (s.arbiter.burst = none → s.resetHeld = false →
        ∃ r : ReportWriter, r = { s.report with queue := r.queue } ∧
          (∀ k, k ∈ r.queue ↔ k ∈ s.report.queue ∨ (s.straps.bypass = false ∧ SwapRequests s t k)) ∧
          GrantedAtEnd s.arbiter r s.straps.bypass t)

/-- REPORT_BURST_END: the words of the burst stand in memory and the port is granted again, a burst that starts writing its
block of the state at that moment, its count gone up by one. That the words are written together at the end is the model's
choice, log 7, and that a forced burst takes its values before its flag is raised is log 17. -/
def Obligations.BurstEndGrantsPort : Prop :=
  ∀ (s : State) (b : Burst), s.arbiter.burst = some b → s.arbiter.current = none → s.resetHeld = false →
    ∃ t, exec .reportBurstEnd s = .next t ∧ t.memory = s.memory.writeBurst b.words ∧ t.ports.fabric = s.ports.fabric ∧
      t = { s with memory := t.memory, ports := t.ports, arbiter := t.arbiter, report := t.report } ∧
      (∀ w, b.words.getLast? = some w → t.ports.memory = some (.write w.1 0b1111 w.2)) ∧
      Granted { s.arbiter with owner := .idle, burst := none } s.report s.straps.bypass t

/-- The words of a report burst lie at consecutive addresses of its block's place in the report area, its data words between
two generation words of one count; a burst takes them so at its start, and every step keeps it of the burst in progress, whose
words stay as they are until REPORT_BURST_END or a row of the reset pin. -/
def Obligations.StepKeepsBurst : Prop :=
  (∀ (k : BlockKind) (s : State),
    FramesBlock s.commandBase k s.report.generations[k.number] (burstWords k s) ∧
    (burstWords k s).map (·.2) = s.report.generations[k.number] :: blockData k s ++ [s.report.generations[k.number]]) ∧
  ∀ s t : State, step s = .next t →
    (BurstInv s → BurstInv t) ∧
    ∀ b, s.arbiter.burst = some b → (∀ i rest, s.pending = i :: rest → i ≠ .reportBurstEnd ∧ resetRow i = false) →
      t.arbiter.burst = some b

/-- The data words of the eleven blocks, by the layouts of section 11.4: what each field holds, and 0 in every bit that has no
field. -/
def Obligations.ReportBlocksHold : Prop :=
  ∀ s : State, CountInv s → DelayInv s → TableInv s → ProfileInv s → RateInv s →
    (∃ x ports y : Word,
      blockData .status s =
        [s.now.sec, BitVec.ofNat 32 s.now.ns.val, s.now.frac.setWidth 32, s.report.flags.setWidth 32,
          s.report.enables.setWidth 32, x, ports, y] ∧
      x.toNat =
        (match s.disc.state with | .freeRun => 0 | .acquire => 1 | .locked => 2 | .holdover => 3) * 16777216 +
        (if s.disc.state = .locked ∨ s.disc.state = .holdover then 1 else 0) * 65536 +
        (match s.profiles.active with | .a => 0 | .b => 1) * 256 +
        (match s.profiles.swap with | .none => 0 | .waiting => 1 | .pending _ => 2) ∧
      ports.toNat < 4096 ∧
      (∀ p : Port, (ports.getLsbD (2 * p.val) = true ↔ s.bank.ports[p].delayMode = .link) ∧
        ports.getLsbD (2 * p.val + 1) = s.delays[p].valid) ∧
      y.toNat = s.table.entries.length * 65536 + s.straps.base.toNat) ∧
    (∃ x counts rho high low rhoI last t2 t1 t0 : Word,
      blockData .discipline s = [x, counts, rho, high, low, rhoI, last, t2, t1, t0] ∧
      x.toNat =
        (match s.disc.state with | .freeRun => 0 | .acquire => 1 | .locked => 2 | .holdover => 3) * 16777216 +
        (match s.disc.source with | .none => 0 | .network => 1 | .input => 2) * 65536 +
        (if s.disc.hold then 1 else 0) * 256 + (if s.disc.latched = none then 0 else 1) ∧
      counts.toNat = s.disc.lockCount * 16777216 + s.disc.rejectCount * 65536 ∧
      rho.toInt = s.time.rho ∧ rhoI.toInt = s.disc.rhoI ∧ high ++ low = s.disc.latched.getD 0 ∧
      (s.disc.last = none → last = 0 ∧ t2 = 0 ∧ t1 = 0 ∧ t0 = 0) ∧
      ∀ l, s.disc.last = some l →
        last.toNat =
          (match l.cls with | .updated => 1 | .stepped => 2 | .above => 3 | .unordered => 4) * 16777216 +
          (match l.origin with | .network p => p.val * 256 | .input => 65536) ∧
        (t2 ++ t1 ++ t0 : BitVec 96) = BitVec.ofInt 96 l.theta) ∧
    (∀ p : Port, ∃ x high low : Word,
      blockData (.port p) s =
        [x, high, low, s.report.ports[p].tracked, s.report.ports[p].patched, s.report.ports[p].passed,
          s.report.ports[p].delayAccepted, s.report.ports[p].delayRejected] ∧
      x.toNat = (if s.delays[p].valid then 1 else 0) * 16777216 + s.delays[p].ring.length * 65536 ∧
      (high ++ low : BitVec 64) = BitVec.ofNat 64 s.delays[p].delay) ∧
    (∀ n : Fin 16, ∃ x : Word, (blockData .commands s)[n.val]? = some x ∧
      x.toNat =
        (match s.monitor.status[n].result with
          | .none => 0 | .done => 1 | .clamped => 2 | .pending => 3 | .cancelled => 4 | .busy => 5 | .unknownCommand => 6
          | .badItem => 7 | .wrongState => 8) * 16777216 +
        s.monitor.status[n].tag.toNat * 65536 + s.monitor.status[n].code.toNat * 256) ∧
    (blockData .commands s).length = 16 ∧
    blockData .captures s =
      [s.captures[0].time.sec, BitVec.ofNat 32 s.captures[0].time.ns.val, s.captures[0].count ++ s.captures[0].time.frac,
        if s.captures[0].pending then 0x01000000 else 0,
        s.captures[1].time.sec, BitVec.ofNat 32 s.captures[1].time.ns.val, s.captures[1].count ++ s.captures[1].time.frac,
        if s.captures[1].pending then 0x01000000 else 0] ∧
    blockData .counters s =
      [s.report.globals.untracked, s.report.globals.aged, s.report.globals.rewrites, s.report.globals.versionMismatch,
        s.report.globals.samplesAccepted, s.report.globals.samplesRejected, s.report.globals.duplicates]

/-! ## Words -/

/-- FABRIC_WORD_PASS: a write that reaches no block goes to memory with its data and enables, a read returns memory's data,
and nothing else changes. A write to word 0 of a slot with fewer than four enables takes no command, and a write word with
no enable set is no write event: each passes so (that FABRIC_WORD_PASS is the row of a partial word 0 is the model's choice,
log 16). SHADOW_WRITE: the enabled octets of the slot's shadow word take the written values, the others stay, and the word goes
to memory. -/
def Obligations.WordsPassAndShadowsMerge : Prop :=
  (∀ (s : State) (a : Access) (slot : Fin 16) (en : Enables) (data : Word),
    (AtMemoryOnly s a → a.direction = .write → exec (.fabricWordPass en data) s = .next (written a en data s)) ∧
    (AtMemoryOnly s a → a.direction = .read →
      exec (.fabricWordPass en data) s = .next
        { s with
          ports := { memory := some (.read a.next), fabric := some (s.memory.readWord a.next) }
          arbiter := advanced a s }) ∧
    (AtCommand s a slot → en ≠ 0b1111 → exec (.fabricWordPass en data) s = .next (written a en data s)) ∧
    (Decoding s a → a.direction = .write → exec (.fabricWordPass 0 data) s = .next (written a 0 data s))) ∧
  ∀ (s : State) (a : Access) (slot : Fin 16) (n : Fin 7) (en : Enables) (data : Word), AtShadow s a slot n → en ≠ 0 →
    ∃ x : Word, exec (.shadowWrite en data) s = .next
        { written a en data s with
          monitor := { s.monitor with shadows := s.monitor.shadows.set slot (s.monitor.shadows[slot].set n x) } } ∧
      ∀ i, i < 32 → x.getLsbD i = if en.getLsbD (i / 8) then data.getLsbD i else (s.monitor.shadows[slot][n]).getLsbD i

/-- A word-0 write carries a command code, a tag and an immediate in bits 31 to 24, 23 to 16 and 15 to 0, and spells one row of
the software commands, every row by the code of its own, code 0 and every other code UNKNOWN_COMMAND. Every word that a fabric
access writes is one row, told by its address, lane, enables and, for a command, its code; and that row goes on, with the word
written to memory and passed. That a row stands in the queue in place of its word, and that `decodeTableWord` reads words of 32
bits, is the model's form (logs 3, 18). -/
def Obligations.WrittenWordsAreRows : Prop :=
  (∀ (code tag : BitVec 8) (imm : BitVec 16),
    (commandWord code tag imm).toNat = code.toNat * 16777216 + tag.toNat * 65536 + imm.toNat) ∧
  (∀ w : Word, commandWordOf (commandOfWord w) = some w ∧ (commandOfWord w).wellFormed = true ∧
    decodeTableWord 32 w.toNat = some (commandOfWord w)) ∧
  (∀ (i : Instr) (w : Word), commandWordOf i = some w → commandOfWord w = i) ∧
  (∀ (s : State) (a : Access) (slot : Fin 16) (data : Word), AtCommand s a slot → writtenRow 0b1111 data s = commandOfWord data) ∧
  ∀ (s : State) (a : Access) (en : Enables) (data : Word), s.arbiter.current = some a → a.passed < a.length →
    a.direction = .write →
    ∃ t, exec (writtenRow en data s) s = .next t ∧ t.memory = s.memory.writeWord a.next en data ∧ t.arbiter = advanced a s

/-- CELL_WORD_WRITE at word 0 of a cell: the cell's live entry ends or detaches and is counted, a linked entry follows, and every
other entry stays; the other lanes' candidates on the cell drop, and a lane that the window tracks opens its candidate with this
reading and the enabled octets of word 0. -/
def Obligations.CellRewriteOpensCandidate : Prop :=
  ∀ (s : State) (a : Access) (w : Fin 4) (en : Enables) (data : Word) (k : CellKey),
    AtCellWrite s a w → en ≠ 0 → cellOf s a.next.toNat w = (k, 0) → CellInv s → TableInv s →
    ∃ t, exec (.cellWordWrite en data) s = .next t ∧
      t = { written a en data s with table := t.table, candidates := t.candidates, report := t.report } ∧
      (∀ e ∈ t.table.entries, e.live = true → e.key ≠ k) ∧ t.table.nextOrder = s.table.nextOrder ∧
      (∀ e ∈ s.table.entries, e.live = true → e.key = k →
        t.report = { s.report with globals := { s.report.globals with rewrites := s.report.globals.rewrites + 1 } } ∧
        Rewritten e s.table.entries t.table.entries ∧
        ∀ f ∈ s.table.entries, f.order ≠ e.order → e.link ≠ .entry f.order → f ∈ t.table.entries) ∧
      ((∀ e ∈ s.table.entries, e.live = true → e.key ≠ k) → t.report = s.report ∧ t.table = s.table) ∧
      ∀ n : Fin 7,
        (a.lane.toNat ≠ n.val → t.candidates[n] = s.candidates[n].filter fun c => c.key != k) ∧
        (a.lane.toNat = n.val →
          if (if n = 0 then s.decode.pool[w].processorTracking else s.decode.pool[w].ingressTracking) then
            ∃ c, t.candidates[n] = some c ∧ OpenedBy k en data s.time.raw c
          else t.candidates[n] = s.candidates[n])

/-- CELL_WORD_WRITE at another word of a cell, with no candidate open on the cell or at a word past 14: the cell's live entry
takes the enabled octets of its header words h+2 to h+9 into its copy. An OPEN entry whose words are then all present becomes
COMPLETE, and a DETAIL is linked with the youngest MARK that qualifies. Nothing else but memory changes: that a write past word 14
by the candidate's own lane takes no decision is the model's choice (log 27). -/
def Obligations.CellWriteMirrorsHeader : Prop :=
  ∀ (s : State) (a : Access) (w : Fin 4) (en : Enables) (data : Word) (k : CellKey) (n : Nat),
    AtCellWrite s a w → en ≠ 0 → cellOf s a.next.toNat w = (k, n) → n ≠ 0 → TableInv s →
    (14 < n ∨ ∀ m : Fin 7, ∀ c ∈ s.candidates[m], c.key ≠ k) →
    ∃ t, exec (.cellWordWrite en data) s = .next t ∧ MirroredFrom k n en data (written a en data s) t

/-- CELL_WORD_WRITE at words 1 to 14 of a cell on which a candidate is open that has not allocated: the candidate captures the
enabled octets, and waits for its type words or for h+0 and h+1, or ends: a cell that is no time frame, another version
(counted), another domain, a kind its lane does not track. No entry is touched. Kinds are those of R22. -/
def Obligations.CandidateIsJudged : Prop :=
  (∀ x : Word, wordKind x =
    if x.toNat / 268435456 = 0 then some .mark else if x.toNat / 268435456 = 1 then some .probe
    else if x.toNat / 268435456 = 2 then some .echo else if x.toNat / 268435456 = 8 then some .detail else none) ∧
  ∀ (s : State) (a : Access) (w : Fin 4) (en : Enables) (data : Word) (k : CellKey) (n : Nat) (m : Fin 7) (c d : Candidate),
    AtCellWrite s a w → en ≠ 0 → cellOf s a.next.toNat w = (k, n) → 1 ≤ n → n ≤ 14 → CellInv s →
    s.candidates[m] = some c → c.key = k → c.allocated = none → CandidateCaptures n en data c d →
    (c.header = none → TypeWaits d s.bank →
      exec (.cellWordWrite en data) s = .next { written a en data s with candidates := s.candidates.set m (some d) }) ∧
    (c.header = none → TypeFails d s.bank →
      exec (.cellWordWrite en data) s = .next { written a en data s with candidates := s.candidates.set m none }) ∧
    ∀ h : HeaderOffset, TypeKnown c d s.bank h →
      (¬ AllPresent d h.h 2 →
        exec (.cellWordWrite en data) s = .next
          { written a en data s with candidates := s.candidates.set m (some { d with header := some h }) }) ∧
      (AllPresent d h.h 2 → (d.word h.h).data.extractLsb' 24 4 ≠ s.bank.version →
        exec (.cellWordWrite en data) s = .next
          { written a en data s with
            candidates := s.candidates.set m none
            report :=
              { s.report with globals := { s.report.globals with versionMismatch := s.report.globals.versionMismatch + 1 } } }) ∧
      (AllPresent d h.h 2 → (d.word h.h).data.extractLsb' 24 4 = s.bank.version → ¬ PassesChecks d s.bank h →
        exec (.cellWordWrite en data) s = .next { written a en data s with candidates := s.candidates.set m none }) ∧
      (PassesChecks d s.bank h →
        (wordKind (d.word h.h).data = none ∨
          (m = 0 ∧ (wordKind (d.word h.h).data = some .mark ∨ wordKind (d.word h.h).data = some .detail))) →
        exec (.cellWordWrite en data) s = .next { written a en data s with candidates := s.candidates.set m none })

/-- CELL_WORD_WRITE that makes a candidate pass its allocation decision: an ingress MARK or DETAIL and a processor PROBE or
ECHO ask for an entry, an ingress PROBE or ECHO goes on without one. The new entry is the youngest, OPEN or at once COMPLETE,
with the snapshot of its port's items and link delay for an ingress MARK, and is counted for its port; with 64 in use the
frame is untracked, with its flag and count. The completion decision follows in the same step. -/
def Obligations.AllocationMakesEntry : Prop :=
  ∀ (s : State) (a : Access) (w : Fin 4) (en : Enables) (data : Word) (k : CellKey) (n : Nat) (m : Fin 7) (c d : Candidate)
    (h : HeaderOffset) (x : FrameKind),
    AtCellWrite s a w → en ≠ 0 → cellOf s a.next.toNat w = (k, n) → 1 ≤ n → n ≤ 14 → CellInv s → TableInv s →
    s.candidates[m] = some c → c.key = k → CandidateCaptures n en data c d → TypeKnown c d s.bank h →
    PassesChecks d s.bank h → wordKind (d.word h.h).data = some x → (m = 0 → x = .probe ∨ x = .echo) →
    ∃ v t : State, exec (.cellWordWrite en data) s = .next t ∧
      Completes m { d with header := some h, allocated := some x } h.h v t ∧
      v = { written a en data s with
        candidates := s.candidates.set m (some { d with header := some h, allocated := some x }), table := v.table, report := v.report } ∧
      (m ≠ 0 → x = .probe ∨ x = .echo → v.table = s.table ∧ v.report = s.report) ∧
      ((m = 0 ∧ (x = .probe ∨ x = .echo)) ∨ (m ≠ 0 ∧ (x = .mark ∨ x = .detail)) →
        (s.table.entries.length < 64 →
          v.table.nextOrder = s.table.nextOrder + 1 ∧
          CompletedInto (madeEntry m d h x s) (s.table.entries ++ [madeEntry m d h x s]) v.table.entries ∧
          v.report =
            match originOf m with
            | .processor => s.report
            | .ingress p =>
              { s.report with
                ports := s.report.ports.set p { s.report.ports[p] with tracked := s.report.ports[p].tracked + 1 } }) ∧
        (64 ≤ s.table.entries.length →
          v.table = s.table ∧
          v.report =
            { s.report with
              globals := { s.report.globals with untracked := s.report.globals.untracked + 1 }
              flags := s.report.flags ||| 0x0001
              queue := joinQueue s.report.queue .status }))

/-- CELL_WORD_WRITE at words 1 to 14 of a cell on which a candidate is open that has allocated: the candidate captures the
octets and the cell's entry mirrors them. When its words are all present the candidate ends and hands over: an upstream MARK or
DETAIL to the Discipline Unit, a PROBE of a LINK port to its Responder List, an ECHO to the local identifier on a LINK port to
the Delay Unit; the processor's frames hand nothing over. Which words are needed and what is handed over follow from the kind of
the allocation decision, and what is carried from the words of this moment (log 12); the port's delay mode is read at this moment
(log 25). -/
def Obligations.CompletionHandsOff : Prop :=
  ∀ (s : State) (a : Access) (w : Fin 4) (en : Enables) (data : Word) (k : CellKey) (n : Nat) (m : Fin 7) (c d : Candidate)
    (h : HeaderOffset) (x : FrameKind),
    AtCellWrite s a w → en ≠ 0 → cellOf s a.next.toNat w = (k, n) → 1 ≤ n → n ≤ 14 → CellInv s → TableInv s →
    s.candidates[m] = some c → c.key = k → c.allocated = some x → c.header = some h → CandidateCaptures n en data c d →
    ∃ u t : State, exec (.cellWordWrite en data) s = .next t ∧ MirroredFrom k n en data (written a en data s) u ∧
      Completes m d h.h { u with candidates := s.candidates.set m (some d) } t

/-- CELL_WORD_READ of a cell with no entry returns memory's data; of word 0 it times the port's slot, and a PROBE enters its
sequence and this reading in the Probe List of a LINK port (a full list loses its oldest, with PROBE_LOST); of a transit word on
a PATCHED slot it returns the half of the held value, and memory stays as it was. -/
def Obligations.CellReadTimesAndSubstitutes : Prop :=
  ∀ (s : State) (a : Access) (w : Fin 4) (q : Port) (k : CellKey) (n : Nat),
    AtCellRead s a w q → cellOf s a.next.toNat w = (k, n) →
    ∃ t, exec .cellWordRead s = .next t ∧
      t = { s with
            ports := { memory := some (.read a.next), fabric := t.ports.fabric }, arbiter := advanced a s,
            table := t.table, delays := t.delays, report := t.report } ∧
      (findLive k s.table.entries = none →
        t.ports.fabric = some (s.memory.readWord a.next) ∧ t.table = s.table ∧ t.delays = s.delays ∧ t.report = s.report) ∧
      ∀ e, findLive k s.table.entries = some e →
        (n = 0 →
          t.ports.fabric = some (s.memory.readWord a.next) ∧
          t.table =
            { s.table with entries := changeEntry e.order (fun x => x.setSlot q (.timed s.time.raw)) s.table.entries } ∧
          (e.kind ≠ .probe ∨ s.bank.ports[q].delayMode = .none → t.delays = s.delays ∧ t.report = s.report) ∧
          (e.kind = .probe → s.bank.ports[q].delayMode = .link →
            t.delays = s.delays.set q { s.delays[q] with probes := t.delays[q].probes } ∧
            ((∃ r ∈ s.delays[q].probes, r.sequence = e.sequence) → t.report = s.report ∧
              t.delays[q].probes =
                (s.delays[q].probes.filter fun r => r.sequence != e.sequence) ++ [{ sequence := e.sequence, t1 := s.time.raw }]) ∧
            ((∀ r ∈ s.delays[q].probes, r.sequence ≠ e.sequence) → s.delays[q].probes.length < 4 → t.report = s.report ∧
              t.delays[q].probes = s.delays[q].probes ++ [{ sequence := e.sequence, t1 := s.time.raw }]) ∧
            ((∀ r ∈ s.delays[q].probes, r.sequence ≠ e.sequence) → 4 ≤ s.delays[q].probes.length →
              t.delays[q].probes = s.delays[q].probes.drop 1 ++ [{ sequence := e.sequence, t1 := s.time.raw }] ∧
              t.report =
                { s.report with
                  flags := s.report.flags ||| 0x0040, queue := joinQueue s.report.queue .status }))) ∧
        (∀ raw held, e.slots[q] = .patched raw held →
          (n = e.header.h + 2 →
            t.ports.fabric = some (highWord held) ∧ t.table = s.table ∧ t.delays = s.delays ∧ t.report = s.report) ∧
          (n = e.header.h + 3 →
            t.ports.fabric = some (lowWord held) ∧ t.table = s.table ∧ t.delays = s.delays ∧ t.report = s.report)) ∧
        (n ≠ 0 → n ≠ e.header.h + 2 → n ≠ e.header.h + 3 →
          t.ports.fabric = some (s.memory.readWord a.next) ∧ t.table = s.table ∧ t.delays = s.delays ∧ t.report = s.report)

/-- The first transit-word read of a timed slot of a complete one-step MARK: the slot is PATCHED with the rounded and
limited sum of transit, residence, latencies, asymmetry and link delay, the read returns its half, and the port's patched
reads count one. The rounding is that of the active bank's mode, told for n the floor of a sum S / 256 and r the rest. -/
def Obligations.OneStepMarkIsPatched : Prop :=
  (∀ S n r : Int, S = 256 * n + r → 0 ≤ r → r ≤ 255 →
    roundSum .nearestEven S = (if r < 128 then n else if r = 128 then (if n % 2 = 0 then n else n + 1) else n + 1) ∧
    roundSum .towardZero S = (if r = 0 then n else if S < 0 then n + 1 else n) ∧
    roundSum .upward S = (if r = 0 then n else n + 1) ∧
    roundSum .downward S = n) ∧
  ∀ (s : State) (a : Access) (w : Fin 4) (q : Port) (k : CellKey) (n : Nat) (e : Entry) (raw : Raw) (c : BitVec 64) (sn : Snapshot),
    AtCellRead s a w q → cellOf s a.next.toNat w = (k, n) → findLive k s.table.entries = some e →
    (n = e.header.h + 2 ∨ n = e.header.h + 3) → e.kind = .mark → e.detailFollows = false → e.slots[q] = .timed raw →
    e.cIn = some c → e.snapshot = some sn → c ≠ 0x7FFFFFFFFFFFFFFF →
    ∃ (t : State) (x : Int) (held : BitVec 64),
      exec .cellWordRead s = .next t ∧
      x = roundSum s.bank.rounding
        (c.toInt * 256 + atRate (rawDiff raw e.rawIn) s.time.rho + (sn.latencyIn : Int) * 256 +
          (s.bank.ports[q].latencyOut : Int) * 256 + sn.asymmetry.toInt * 256 + sn.delay) ∧
      held.toInt = (if x < -9223372036854775808 then -9223372036854775808 else if 9223372036854775807 < x then 9223372036854775807 else x) ∧
      t.table.entries = changeEntry e.order (fun y => y.setSlot q (.patched raw held)) s.table.entries ∧
      t.ports.fabric = some (if n = e.header.h + 2 then highWord held else lowWord held) ∧
      t.report.ports[q].patched = s.report.ports[q].patched + 1 ∧ t.memory = s.memory ∧
      t.report.flags = (if x < -9223372036854775808 ∨ 9223372036854775807 < x then s.report.flags ||| 0x0004 else s.report.flags)

/-- The first transit-word read of a slot settles it: an IDLE slot, or one whose transit or requester is not captured yet, is
PASSED with ORDER; a two-step MARK's is SUMMED, with no C_in; a one-step MARK's, a DETAIL's with its MARK's held sum, and an
ECHO's with its responder record, which goes, are PATCHED; a DETAIL with no held sum and an ECHO with no record are PASSED with
their flags. Transit unknown stays unknown. A PROBE's slot and a settled one change nothing. -/
def Obligations.TransitReadSettlesSlot : Prop :=
  ∀ (s : State) (a : Access) (w : Fin 4) (q : Port) (k : CellKey) (n : Nat) (e : Entry),
    AtCellRead s a w q → cellOf s a.next.toNat w = (k, n) → findLive k s.table.entries = some e →
    (n = e.header.h + 2 ∨ n = e.header.h + 3) →
    ∃ t, exec .cellWordRead s = .next t ∧
      ((e.kind = .probe ∨ (∃ raw x, e.slots[q] = .summed raw x) ∨ ∃ raw, e.slots[q] = .passed raw) →
        (∀ raw held, e.slots[q] ≠ .patched raw held) →
        t = { s with
              ports := { memory := some (.read a.next), fabric := some (s.memory.readWord a.next) }, arbiter := advanced a s }) ∧
      (e.kind ≠ .probe → e.slots[q] = .idle → PassedRead a e q none 0x0002 s t) ∧
      ∀ raw, e.slots[q] = .timed raw →
        (e.kind ≠ .probe → (e.cIn = none ∨ (e.kind = .echo ∧ e.requester = none)) → PassedRead a e q (some raw) 0x0002 s t) ∧
        ∀ c, e.cIn = some c →
          (e.kind = .mark → ∀ sn, e.snapshot = some sn →
            ∃ x : Int, x = atRate (rawDiff raw e.rawIn) s.time.rho + (sn.latencyIn : Int) * 256 +
                (s.bank.ports[q].latencyOut : Int) * 256 + sn.asymmetry.toInt * 256 + sn.delay ∧
              (e.detailFollows = true →
                t = { s with
                      ports := { memory := some (.read a.next), fabric := some (s.memory.readWord a.next) }
                      arbiter := advanced a s
                      table :=
                        { s.table with
                          entries := changeEntry e.order (fun y => y.setSlot q (.summed raw x)) s.table.entries } }) ∧
              (e.detailFollows = false → PatchedRead a e q raw n c (c.toInt * 256 + x) s.delays s t)) ∧
          (e.kind = .detail →
            ((∀ o m r x, e.link = .entry o → findOrder o s.table.entries = some m → m.slots[q] ≠ .summed r x) →
              PassedRead a e q (some raw) 0x0010 s t) ∧
            ∀ o m r x, e.link = .entry o → findOrder o s.table.entries = some m → m.slots[q] = .summed r x →
              PatchedRead a e q raw n c (c.toInt * 256 + x) s.delays s t) ∧
          (e.kind = .echo → ∀ i, e.requester = some i →
            ((∀ r ∈ s.delays[q].responders, ¬ (r.sequence = e.sequence ∧ r.source = i)) →
              PassedRead a e q (some raw) 0x0020 s t) ∧
            (DelayInv s → ∀ r ∈ s.delays[q].responders, r.sequence = e.sequence → r.source = i →
              PatchedRead a e q raw n c
                (c.toInt * 256 + atRate (rawDiff raw r.t2) s.time.rho + (s.bank.ports[q].latencyIn : Int) * 256 +
                  (s.bank.ports[q].latencyOut : Int) * 256)
                (s.delays.set q
                  { s.delays[q] with
                    responders := s.delays[q].responders.filter fun x => !(x.sequence == e.sequence && x.source == i) })
                s t))

/-! ## Events of time -/

/-- ROLLOVER: the record is re-anchored at this tick with station time unchanged, and the blocks of a rollover are requested;
without a pending swap nothing else changes. A pending swap takes place, with the decode change unless an access is in progress
(log 14) and the acts of every owner with their requests, and its slot shows DONE if it still holds the swap (that is, if it
still shows PENDING: log 15). At a free port the grant follows. That the row happens when the second last seen is another is the
model's form, logs 8 and 21; that a burst shows the state after the event is log 24, and before a forced flag log 17. -/
def Obligations.RolloverReanchorsAndSwaps : Prop :=
  ∀ s : State, s.resetHeld = false → s.now.sec ≠ s.time.secondsSeen →
    ∃ (t : State) (r : ReportWriter), exec .rollover s = .next t ∧ t.now = s.now ∧ t.time.raw = s.time.raw ∧
      t.time.anchorRaw = s.time.raw ∧ t.time.anchorStation = s.now ∧ t.time.secondsSeen = s.now.sec ∧
      r = { s.report with queue := r.queue } ∧
      (portFree s = false → t.report = r ∧ t.arbiter = s.arbiter) ∧
      (portFree s = true → Granted s.arbiter r s.straps.bypass t) ∧
      (NoPendingSwap s →
        r.queue =
          (if s.straps.bypass then s.report.queue
          else joinAll s.report.queue
            [.status, .discipline, .port 0, .port 1, .port 2, .port 3, .port 4, .port 5, .counters]) ∧
        t = { s with
              time := { s.time with anchorRaw := s.time.raw, anchorStation := s.now, secondsSeen := s.now.sec }
              report := t.report, arbiter := t.arbiter }) ∧
      ∀ slot, s.profiles.swap = .pending slot →
        (∀ k, k ∈ r.queue ↔ k ∈ s.report.queue ∨ (s.straps.bypass = false ∧
          (k ∈ ([.status, .discipline, .port 0, .port 1, .port 2, .port 3, .port 4, .port 5, .counters] : List BlockKind) ∨
            (k = .commands ∧ s.monitor.status[slot].result = .pending)))) ∧
        PendingSwapTaken slot s t ∧ DecodeFollows s.staged s t ∧ OwnersSwap s t s.now s.disc t.disc s.pulses t.pulses ∧
        t = { s with
              decode := t.decode, table := t.table, candidates := t.candidates, delays := t.delays, time := t.time, disc := t.disc
              pulses := t.pulses, profiles := t.profiles, monitor := t.monitor, report := t.report, arbiter := t.arbiter }

/-- ENTRY_AGE_EXPIRY: an entry whose age has reached the limit is retired and counted; of the others only a linked partner is
touched: a DETAIL loses its link, a MARK's link is ended, and a DETACHED MARK is retired with its DETAIL. PROBE_RECORD_EXPIRY and
RESPONDER_RECORD_EXPIRY: at the timeout the record goes and the others keep their order; a probe's loss raises PROBE_LOST, a
responder's raises and counts nothing. At a free port the grant follows. Age and timeout are those of the tick and of the active
bank (log 6); that a burst shows the state after the event is log 24, and before a forced flag log 17. -/
def Obligations.RecordsExpire : Prop :=
  (∀ (s : State) (e : Entry), s.resetHeld = false → PortInv s → TableInv s → e ∈ s.table.entries →
    (s.tickLimits.age : Int) ≤ rawDiff s.time.raw e.rawIn → (s.bank.ageLimit : Int) * 65536000000 ≤ rawDiff s.time.raw e.rawIn →
    ∃ t, exec (.entryAgeExpiry e.order) s = .next t ∧
      t = { s with
            table := t.table
            report := { s.report with globals := { s.report.globals with aged := s.report.globals.aged + 1 } } } ∧
      t.table.nextOrder = s.table.nextOrder ∧ (∀ f ∈ t.table.entries, f.order ≠ e.order) ∧
      EntryEnds e s.table.entries t.table.entries ∧
      ∀ f ∈ s.table.entries, f.order ≠ e.order → e.link ≠ .entry f.order → f ∈ t.table.entries) ∧
  ∀ (s : State) (p : Port), s.resetHeld = false → DelayInv s →
    (∀ r ∈ s.delays[p].probes, (s.tickLimits.probe : Int) ≤ rawDiff s.time.raw r.t1 →
      (s.bank.probeTimeout : Int) * 655360000000 ≤ rawDiff s.time.raw r.t1 →
      ∃ t, exec (.probeRecordExpiry p r.sequence) s = .next t ∧
        GrantAfter s
          (raised 0x0040
            { s with
              delays := s.delays.set p
                { s.delays[p] with probes := s.delays[p].probes.filter fun x => x.sequence != r.sequence } }) t) ∧
    (PortInv s → ∀ r ∈ s.delays[p].responders, (s.tickLimits.probe : Int) ≤ rawDiff s.time.raw r.t2 →
      (s.bank.probeTimeout : Int) * 655360000000 ≤ rawDiff s.time.raw r.t2 →
      exec (.responderRecordExpiry p r.sequence r.source) s = .next
        { s with
          delays := s.delays.set p
            { s.delays[p] with
              responders := s.delays[p].responders.filter fun x => !(x.sequence == r.sequence && x.source == r.source) } })

/-- MISSING_TIMER_EXPIRY: the source may switch to INPUT and start the timer again, or the timer stops; LOCKED goes to
HOLDOVER with ρ set to ρ_i, ACQUIRE to FREE_RUN, each with its flag, and the other states stay. HOLDOVER_TIMER_EXPIRY:
HOLDOVER falls to FREE_RUN with its flag, the rates stay, and the time-valid line goes low; with a limit of 0 there is no
expiry. Nothing else changes, but that at a free port the grant follows. The timer lengths are those of the tick and of the active
bank (log 6); that a burst shows the state after the event is log 24, and before a forced flag log 17. -/
def Obligations.DisciplineTimersAct : Prop :=
  (∀ (s : State) (start : Raw), s.resetHeld = false → s.disc.missing = some start →
    (s.tickLimits.missing : Int) ≤ rawDiff s.time.raw start →
    (s.bank.discipline.missingTimeout : Int) * 6553600000000 ≤ rawDiff s.time.raw start →
    ∃ (d : Discipline) (u v t : State), exec .missingTimerExpiry s = .next t ∧ GrantAfter s v t ∧
      (s.bank.discipline.mode = .networkThenInput → s.disc.source = .network →
        d = { s.disc with source := .input, missing := some s.time.raw }) ∧
      ((s.bank.discipline.mode ≠ .networkThenInput ∨ s.disc.source ≠ .network) → d = { s.disc with missing := none }) ∧
      (s.disc.state = .acquire →
        DisciplineBecomes { d with state := .freeRun, holdover := none } s u ∧ v = raised 0x2000 u) ∧
      (s.disc.state = .locked →
        DisciplineBecomes { d with state := .holdover, holdover := some s.time.raw } s u ∧
        v = raised 0x1000
          { u with
            time :=
              { s.time with
                anchorRaw := s.time.raw, anchorStation := s.now, rho := max (-s.rateLimit) (min s.rateLimit s.disc.rhoI) } } ∧
        (RateInv s → v.time.rho = s.disc.rhoI)) ∧
      ((s.disc.state = .freeRun ∨ s.disc.state = .holdover) → v = { s with disc := d }) ∧ t.now = s.now) ∧
  (∀ (s : State) (start : Raw), s.resetHeld = false → s.disc.state = .holdover → s.disc.holdover = some start →
    (s.bank.discipline.holdoverLimit = 0 → exec .holdoverTimerExpiry s = .next s) ∧
    ∀ limit, s.tickLimits.holdover = some limit → (limit : Int) ≤ rawDiff s.time.raw start →
      s.bank.discipline.holdoverLimit ≠ 0 →
      (s.bank.discipline.holdoverLimit : Int) * 65536000000000 ≤ rawDiff s.time.raw start →
      ∃ u t : State, exec .holdoverTimerExpiry s = .next t ∧
        DisciplineBecomes { s.disc with state := .freeRun, holdover := none } s u ∧ GrantAfter s (raised 0x2000 u) t ∧
        t.timeValidPin = false)

/-- PULSE_LEADING_INSTANT and PULSE_TRAILING_INSTANT: at a leading instant the next one is P later, and a pulse starts when
its gating condition holds; at a trailing instant the pulse ends. The settings in use are R144's; the first leading instant
later than a station time has fraction 0, nanoseconds less the offset a whole multiple of P, and lies at most P later. -/
def Obligations.PulseInstantsAct : Prop :=
  (∀ i : PulseItems, i.settings = pulseSettings i ∧
    (i.InRange → i.period ≠ 0 → ∀ now x : StationTime, x = i.settings.firstAfter now →
      x.frac = 0 ∧ ((x.ns.val : Int) - i.settings.offset) % i.settings.period = 0 ∧ 0 < x.sub now ∧
      x.sub now ≤ (i.settings.period : Int) * 65536)) ∧
  ∀ (s : State) (n : Fin 4), s.resetHeld = false → PortInv s →
    (∀ c, s.pulses[n].schedule = some c → 0 ≤ s.now.sub c.next →
      exec (.pulseLeadingInstant n) s = .next
        { s with
          pulses := s.pulses.set n
            { schedule := some { c with next := c.next.add ((c.settings.period : Int) * 65536) }
              trailing :=
                if s.bank.outputs[n].gating.holds s.disc.state then some (c.next.add ((c.settings.width : Int) * 65536))
                else s.pulses[n].trailing } }) ∧
    ∀ x, s.pulses[n].trailing = some x → 0 ≤ s.now.sub x →
      exec (.pulseTrailingInstant n) s = .next { s with pulses := s.pulses.set n { s.pulses[n] with trailing := none } }

/-- ACTIVE_EDGE and INPUT_LEVEL_CHANGE: a sample that differs from that of the tick before is recorded, and the input brings no
other change in this tick; an edge of an enabled input is captured with station time less the input delay, counted, and made
pending, with the overrun raised when pending was set; a capture of I0 gives its sample to a discipline that follows the input.
At a free port the grant follows (logs 17, 24). CAPTURE_TEST makes the same capture on the input of bit 0, enabled or not, and
leaves the recorded level. Enable, polarity and delay are those of the active bank, after a swap in its own tick too (log 23);
that each change of level is a row is log 19; that the Captures block joins the queue before the blocks that the capture's sample
requests is log 11 (R138 gives the parts of one event no order). -/
def Obligations.InputEdgesAct : Prop :=
  (∀ (s : State) (n : Fin 2), s.resetHeld = false → PortInv s → s.captures[n].sampling = .ready →
    (s.captures[n].level ≠ s.bank.inputs[n].polarity.activeLevel →
      (s.bank.inputs[n].enable = false →
        exec (.activeEdge n) s = .next
          { s with
            captures := s.captures.set n
              { s.captures[n] with level := s.bank.inputs[n].polarity.activeLevel, sampling := .taken } }) ∧
      (s.bank.inputs[n].enable = true → ∃ t v : State, exec (.activeEdge n) s = .next t ∧
        CapturedFrom n
          { time := s.now.add (-(s.bank.inputs[n].inputDelay * 65536)), count := s.captures[n].count + 1, pending := true,
            level := s.bank.inputs[n].polarity.activeLevel, sampling := .taken } s v ∧
        GrantAfter s v t)) ∧
    (s.captures[n].level = s.bank.inputs[n].polarity.activeLevel →
      exec (.inputLevelChange n) s = .next
        { s with
          captures := s.captures.set n
            { s.captures[n] with level := !s.bank.inputs[n].polarity.activeLevel, sampling := .taken } })) ∧
  ∀ (s : State) (a : Access) (slot : Fin 16) (tag : BitVec 8) (imm : BitVec 16) (n : Fin 2), AtCommand s a slot →
    n = (if imm.getLsbD 0 then 1 else 0) →
    ∃ v : State,
      CapturedFrom n
        { s.captures[n] with
          time := s.now.add (-(s.bank.inputs[n].inputDelay * 65536)), count := s.captures[n].count + 1, pending := true }
        (written a 0b1111 (commandWord 0x41 tag imm) s) v ∧
      exec (.captureTest tag imm) s = .next (answered slot .done tag 0x41 v)

/-! ## Commands of the Time Base -/

/-- TIME_SET: station time becomes the given seconds and nanoseconds (999,999,999 when above it, then CLAMPED) with fraction 0,
as a step. TIME_STEP: station time moves by the signed nanoseconds and the unsigned fraction, as a step. Each step may bring a
rollover with its requests and its pending swap; the Discipline Unit is then told: it goes to ACQUIRE unless it is in
FREE_RUN. The step rests on the model's deductions of log 14 (when the decode changes), log 15 (which slot still holds the swap)
and log 21 (what a rollover is told from), and on its choice of log 26 (a step of amount 0 and the pulse schedules). -/
def Obligations.TimeCommandsStep : Prop :=
  ∀ (s : State) (a : Access) (slot : Fin 16) (tag : BitVec 8) (imm : BitVec 16), AtCommand s a slot →
    (∃ u v : State, exec (.timeSet tag imm) s = .next
        (answered slot (if 999999999 < (s.monitor.shadows[slot][1]).toNat then .clamped else .done) tag 0x01 v) ∧
      StepOf (v.now.sub s.now) (written a 0b1111 (commandWord 0x01 tag imm) s) u ∧ ToldOfStep u v ∧
      v.now.sec = s.monitor.shadows[slot][0] ∧ v.now.ns.val = min (s.monitor.shadows[slot][1]).toNat 999999999 ∧
      v.now.frac = 0) ∧
    ∃ u v : State, exec (.timeStep tag imm) s = .next (answered slot .done tag 0x02 v) ∧
      StepOf ((s.monitor.shadows[slot][0]).toInt * 65536 + (imm.toNat : Int)) (written a 0b1111 (commandWord 0x02 tag imm) s) u ∧
      ToldOfStep u v

/-- RATE_SET: refused while the discipline is enabled; otherwise ρ and ρ_i take the clamped rate and the record is
re-anchored, and nothing else changes. -/
def Obligations.RateSetGivesBothRates : Prop :=
  ∀ (s : State) (a : Access) (slot : Fin 16) (tag : BitVec 8) (imm : BitVec 16) (r : Int), AtCommand s a slot →
    r = (s.monitor.shadows[slot][0]).toInt →
    (s.bank.discipline.enable = true →
      exec (.rateSet tag imm) s = .next (answered slot .wrongState tag 0x03 (written a 0b1111 (commandWord 0x03 tag imm) s))) ∧
    (s.bank.discipline.enable = false → ∃ r' : Int,
      r' = (if r < -s.rateLimit then -s.rateLimit else if s.rateLimit < r then s.rateLimit else r) ∧
      exec (.rateSet tag imm) s = .next
        (answered slot (if r' = r then .done else .clamped) tag 0x03
          { written a 0b1111 (commandWord 0x03 tag imm) s with
            time := { s.time with anchorRaw := s.time.raw, anchorStation := s.now, rho := r' }
            disc := { s.disc with rhoI := r' } }))

/-! ## Commands of the tables and units -/

/-- TABLE_FLUSH: the table is emptied, entries in every state, and nothing else changes but the answer. DISCIPLINE_RELATCH: the
Seen-Mark list is emptied, the latch cleared when no source is expected, and nothing else changes but the answer. -/
def Obligations.FlushAndRelatchEmptyLists : Prop :=
  ∀ (s : State) (a : Access) (slot : Fin 16) (tag : BitVec 8) (imm : BitVec 16), AtCommand s a slot →
    exec (.tableFlush tag imm) s = .next
      (answered slot .done tag 0x10
        { written a 0b1111 (commandWord 0x10 tag imm) s with table := { s.table with entries := [] } }) ∧
    exec (.disciplineRelatch tag imm) s = .next
      (answered slot .done tag 0x30
        { written a 0b1111 (commandWord 0x30 tag imm) s with
          disc :=
            { s.disc with seen := [], latched := if s.bank.discipline.expected = 0 then none else s.disc.latched } })

/-- PATH_CLEAR: the masked ports lose their lists and ring, D(p) becomes the default delay and delay valid clears, with a
Port p request where either changed; the others stay. The Commands block is requested, no other block joins, and those queued
keep their places. -/
def Obligations.PathClearEmptiesPorts : Prop :=
  ∀ (s : State) (a : Access) (slot : Fin 16) (tag : BitVec 8) (imm : BitVec 16), AtCommand s a slot →
    ∃ t, exec (.pathClear tag imm) s = .next t ∧
      t = { answered slot .done tag 0x20 (written a 0b1111 (commandWord 0x20 tag imm) s) with
            delays := t.delays, report := { s.report with queue := t.report.queue } } ∧
      (∀ p : Port, t.delays[p] =
        if imm.getLsbD p.val then
          { probes := [], responders := [], ring := [], delay := s.bank.defaultDelay * 65536, valid := false }
        else s.delays[p]) ∧
      s.report.queue <+: t.report.queue ∧
      ∀ k : BlockKind, k ∈ t.report.queue ↔
        k ∈ s.report.queue ∨ k = .commands ∨
        ∃ p : Port, k = .port p ∧ (t.delays[p].delay ≠ s.delays[p].delay ∨ t.delays[p].valid ≠ s.delays[p].valid)

/-- DISCIPLINE_HOLD: hold takes bit 0; turned on in LOCKED it enters HOLDOVER, whose holdover timer starts: the outputs' gating is
tested and Status and Discipline are requested, ρ is set to ρ_i with the record re-anchored, and HOLDOVER is raised; otherwise no
state changes. Nothing else changes but the answer. -/
def Obligations.HoldSetsHold : Prop :=
  ∀ (s : State) (a : Access) (slot : Fin 16) (tag : BitVec 8) (imm : BitVec 16), AtCommand s a slot →
    ((imm.getLsbD 0 = false ∨ s.disc.hold = true ∨ s.disc.state ≠ .locked) →
      exec (.disciplineHold tag imm) s = .next
        (answered slot .done tag 0x31
          { written a 0b1111 (commandWord 0x31 tag imm) s with disc := { s.disc with hold := imm.getLsbD 0 } })) ∧
    (imm.getLsbD 0 = true → s.disc.hold = false → s.disc.state = .locked → RateInv s →
      ∃ u : State,
        DisciplineBecomes { s.disc with hold := true, state := .holdover, holdover := some s.time.raw }
          (written a 0b1111 (commandWord 0x31 tag imm) s) u ∧
        exec (.disciplineHold tag imm) s = .next
          (answered slot .done tag 0x31
            (raised 0x1000
              { u with
                time := { s.time with anchorRaw := s.time.raw, anchorStation := s.now, rho := s.disc.rhoI } })))

/-- CAPTURE_ACK: pending clears in the records named, with a Captures request when one changed. -/
def Obligations.CaptureAckClearsPending : Prop :=
  ∀ (s : State) (a : Access) (slot : Fin 16) (tag : BitVec 8) (imm : BitVec 16), AtCommand s a slot →
    ∃ t, exec (.captureAck tag imm) s = .next t ∧
      t = { answered slot .done tag 0x40 (written a 0b1111 (commandWord 0x40 tag imm) s) with
            captures := t.captures
            report :=
              { s.report with
                queue :=
                  if ∃ n : Fin 2, t.captures[n].pending ≠ s.captures[n].pending then
                    joinQueue (joinQueue s.report.queue .captures) .commands
                  else joinQueue s.report.queue .commands } } ∧
      ∀ n : Fin 2, t.captures[n] =
        { s.captures[n] with pending := if imm.getLsbD n.val then false else s.captures[n].pending }

/-! ## Commands of the Profile Store -/

/-- PROFILE_WRITE: refused while a swap is requested or when no item is named; otherwise it changes the staged bank alone. -/
def Obligations.ProfileWriteStagesOneItem : Prop :=
  ∀ (s : State) (a : Access) (slot : Fin 16) (tag : BitVec 8) (imm : BitVec 16) (item : Option (Stored Profile)), AtCommand s a slot →
    item = writeItem ((s.monitor.shadows[slot][0]).extractLsb' 16 16).toNat ((s.monitor.shadows[slot][0]).extractLsb' 0 16).toNat
      (s.monitor.shadows[slot][1] ++ s.monitor.shadows[slot][2]) s.staged →
    (s.profiles.swap ≠ .none →
      exec (.profileWrite tag imm) s = .next (answered slot .busy tag 0x50 (written a 0b1111 (commandWord 0x50 tag imm) s))) ∧
    (s.profiles.swap = .none → item = none →
      exec (.profileWrite tag imm) s = .next (answered slot .badItem tag 0x50 (written a 0b1111 (commandWord 0x50 tag imm) s))) ∧
    (s.profiles.swap = .none → ∀ x, item = some x →
      ∃ t, exec (.profileWrite tag imm) s = .next t ∧
        t = { answered slot (if x.adjusted then .clamped else .done) tag 0x50 (written a 0b1111 (commandWord 0x50 tag imm) s) with
              profiles := t.profiles } ∧
        t.staged = x.value ∧ t.bank = s.bank ∧ t.profiles.active = s.profiles.active ∧ t.profiles.swap = .none)

/-- What PROFILE_WRITE stores, item code by item code: the one item of the one index, its value brought into its range, with
every other item of the bank as it was, and whether the write was adjusted; a code that names no item, or an index outside its
range, stores nothing. A pool window base is a multiple of 16, at most 4,194,288; a cell size or a pulse period the largest
listed not above the value, the smallest for values below it. -/
def Obligations.ItemsAreStored : Prop :=
  (∀ (code index : Nat) (v : BitVec 64) (p : Profile), (writeItem code index v p).isSome = true ↔
    (1 ≤ code ∧ code ≤ 6 ∧ index < 4) ∨ (0x08 ≤ code ∧ code ≤ 0x0A ∧ index < 2) ∨ (0x13 ≤ code ∧ code ≤ 0x14 ∧ index < 4) ∨
    (0x20 ≤ code ∧ code ≤ 0x24 ∧ index < 6) ∨ (0x40 ≤ code ∧ code ≤ 0x42 ∧ index < 2) ∨
    (0x48 ≤ code ∧ code ≤ 0x4C ∧ index < 4) ∨
    (index = 0 ∧ (code = 0x0B ∨ (0x10 ≤ code ∧ code ≤ 0x12) ∨ code = 0x15 ∨ code = 0x16 ∨ (0x28 ≤ code ∧ code ≤ 0x2C) ∨
      (0x30 ≤ code ∧ code ≤ 0x3A)))) ∧
  (∀ (v : BitVec 64) (p : Profile) (n : Fin 4),
    Stores 0x01 n v p (p.setPool n { p.pool[n] with enable := v != 0 }) (1 < v.toNat) ∧
    Stores 0x02 n v p (p.setPool n { p.pool[n] with base := if 4194303 < v.toNat then 4194288 else v.toNat - v.toNat % 16 })
      (4194303 < v.toNat ∨ v.toNat % 16 ≠ 0) ∧
    (∃ c, Stores 0x03 n v p (p.setPool n { p.pool[n] with cellSize := c }) (c ≠ v.toNat) ∧
      FittedTo [16, 32, 64, 128, 256, 512, 1024, 2048] 16 v.toNat c) ∧
    StoresIn 0x04 n 1 65535 v p fun x => p.setPool n { p.pool[n] with cellCount := x } ) ∧
  (∀ (v : BitVec 64) (p : Profile) (n : Fin 4),
    Stores 0x05 n v p (p.setPool n { p.pool[n] with ingressTracking := v != 0 }) (1 < v.toNat) ∧
    Stores 0x06 n v p (p.setPool n { p.pool[n] with processorTracking := v != 0 }) (1 < v.toNat) ∧
    (StoresIn 0x13 n 0 255 v p fun x => p.setDomain n { p.domains[n] with value := BitVec.ofNat 8 x }) ∧
    Stores 0x14 n v p (p.setDomain n { p.domains[n] with enable := v != 0 }) (1 < v.toNat)) ∧
  (∀ (v : BitVec 64) (p : Profile) (n : Fin 2),
    Stores 0x08 n v p (p.setExclusion n { p.exclusion[n] with enable := v != 0 }) (1 < v.toNat) ∧
    (StoresIn 0x09 n 0 4194303 v p fun x => p.setExclusion n { p.exclusion[n] with base := x }) ∧
    (StoresIn 0x0A n 1 4194304 v p fun x => p.setExclusion n { p.exclusion[n] with size := x }) ∧
    Stores 0x40 n v p (p.setInput n { p.inputs[n] with enable := v != 0 }) (1 < v.toNat) ∧
    Stores 0x41 n v p (p.setInput n { p.inputs[n] with polarity := if v = 0 then .rising else .falling }) (1 < v.toNat) ∧
    Stores 0x42 n v p (p.setInput n { p.inputs[n] with inputDelay := max (-1000000) (min 1000000 v.toInt) })
      (v.toInt < -1000000 ∨ 1000000 < v.toInt)) ∧
  (∀ (v : BitVec 64) (p : Profile) (n : Port),
    (StoresIn 0x20 n 0 1048575 v p fun x => p.setPort n { p.ports[n] with latencyIn := x }) ∧
    (StoresIn 0x21 n 0 1048575 v p fun x => p.setPort n { p.ports[n] with latencyOut := x }) ∧
    Stores 0x22 n v p (p.setPort n { p.ports[n] with asymmetry := BitVec.ofInt 24 (max (-8388608) (min 8388607 v.toInt)) })
      (v.toInt < -8388608 ∨ 8388607 < v.toInt) ∧
    Stores 0x23 n v p (p.setPort n { p.ports[n] with delayMode := if v = 0 then .none else .link }) (1 < v.toNat) ∧
    Stores 0x24 n v p (p.setPort n { p.ports[n] with upstreamEligible := v != 0 }) (1 < v.toNat)) ∧
  (∀ (v : BitVec 64) (p : Profile) (n : Fin 4),
    (∃ x, Stores 0x48 n v p (p.setOutput n { p.outputs[n] with period := x }) (x ≠ v.toNat) ∧ (v = 0 → x = 0) ∧
      (v ≠ 0 → FittedTo [1, 2, 4, 5, 8, 10, 20, 25, 40, 50, 100, 125, 200, 250, 500, 1000] 1 v.toNat x)) ∧
    (StoresIn 0x49 n 0 999999999 v p fun x => p.setOutput n { p.outputs[n] with offset := x }) ∧
    (StoresIn 0x4A n 1 65535 v p fun x => p.setOutput n { p.outputs[n] with width := x }) ∧
    Stores 0x4B n v p (p.setOutput n { p.outputs[n] with polarity := if v = 0 then .activeHigh else .activeLow }) (1 < v.toNat) ∧
    Stores 0x4C n v p
      (p.setOutput n { p.outputs[n] with gating := if v = 0 then .always else if v = 1 then .validOnly else .lockedOnly })
      (2 < v.toNat)) ∧
  ∀ (v : BitVec 64) (p : Profile),
    (StoresIn 0x0B 0 1 255 v p fun x => { p with ageLimit := x }) ∧
    (StoresIn 0x10 0 0 65535 v p fun x => { p with frameType := BitVec.ofNat 16 x }) ∧
    (StoresIn 0x11 0 0 65535 v p fun x => { p with tagType := BitVec.ofNat 16 x }) ∧
    (StoresIn 0x12 0 0 15 v p fun x => { p with version := BitVec.ofNat 4 x }) ∧
    Stores 0x15 0 v p { p with localId := v } False ∧
    Stores 0x16 0 v p
      { p with
        rounding := if v = 0 then .nearestEven else if v = 1 then .towardZero else if v = 2 then .upward else .downward }
      (3 < v.toNat) ∧
    (StoresIn 0x28 0 0 65535 v p fun x => { p with defaultDelay := x }) ∧
    (StoresIn 0x29 0 1 1000000 v p fun x => { p with delayMax := x }) ∧
    (StoresIn 0x2A 0 1 8 v p fun x => { p with windowLength := x }) ∧
    (StoresIn 0x2B 0 1 255 v p fun x => { p with probeTimeout := x }) ∧
    Stores 0x2C 0 v p { p with unordered := if v = 0 then .quiet else .signal } (1 < v.toNat) ∧
    Stores 0x30 0 v p (p.setDiscipline { p.discipline with enable := v != 0 }) (1 < v.toNat) ∧
    Stores 0x31 0 v p
      (p.setDiscipline
        { p.discipline with mode := if v = 0 then .network else if v = 1 then .input else .networkThenInput })
      (2 < v.toNat) ∧
    Stores 0x32 0 v p (p.setDiscipline { p.discipline with expected := v }) False ∧
    (StoresIn 0x33 0 0 1000000000 v p fun x => p.setDiscipline { p.discipline with stepThreshold := x }) ∧
    (StoresIn 0x34 0 1 1000000 v p fun x => p.setDiscipline { p.discipline with lockThreshold := x }) ∧
    (StoresIn 0x35 0 1 100000000 v p fun x => p.setDiscipline { p.discipline with gateLimit := x }) ∧
    (StoresIn 0x36 0 1 255 v p fun x => p.setDiscipline { p.discipline with missingTimeout := x }) ∧
    (StoresIn 0x37 0 0 65535 v p fun x => p.setDiscipline { p.discipline with holdoverLimit := x }) ∧
    (StoresIn 0x38 0 0 31 v p fun x => p.setDiscipline { p.discipline with kp := x }) ∧
    (StoresIn 0x39 0 0 31 v p fun x => p.setDiscipline { p.discipline with ki := x }) ∧
    StoresIn 0x3A 0 1 500 v p fun x => p.setDiscipline { p.discipline with rateLimit := x }

/-- PROFILE_COPY: refused while a swap is requested; otherwise the staged bank equals the active one, which stays. PROFILE_SWAP
in its two modes: refused while a swap is requested; otherwise the request waits for the end of the access (DONE), or is pending
for the next rollover and records its slot (PENDING). PROFILE_CANCEL: a pending swap is dropped, and its slot, where it is
another and still holds the swap (it still shows PENDING: log 15), shows CANCELLED; a waiting swap or none ends with
WRONG_STATE. -/
def Obligations.ProfileRequestsAct : Prop :=
  ∀ (s : State) (a : Access) (slot : Fin 16) (tag : BitVec 8) (imm : BitVec 16) (high : BitVec 15), AtCommand s a slot →
    ((s.profiles.swap ≠ .none →
      exec (.profileCopy tag imm) s = .next (answered slot .busy tag 0x51 (written a 0b1111 (commandWord 0x51 tag imm) s))) ∧
    (s.profiles.swap = .none →
      ∃ t, exec (.profileCopy tag imm) s = .next t ∧
        t = { answered slot .done tag 0x51 (written a 0b1111 (commandWord 0x51 tag imm) s) with profiles := t.profiles } ∧
        t.staged = s.bank ∧ t.bank = s.bank ∧ t.profiles.active = s.profiles.active ∧ t.profiles.swap = .none)) ∧
    ((s.profiles.swap ≠ .none →
      exec (.profileSwapImmediate tag high) s = .next
        (answered slot .busy tag 0x52 (written a 0b1111 (commandWord 0x52 tag (high ++ 0#1)) s)) ∧
      exec (.profileSwapAtSecond tag high) s = .next
        (answered slot .busy tag 0x52 (written a 0b1111 (commandWord 0x52 tag (high ++ 1#1)) s))) ∧
    (s.profiles.swap = .none →
      exec (.profileSwapImmediate tag high) s = .next
        { answered slot .done tag 0x52 (written a 0b1111 (commandWord 0x52 tag (high ++ 0#1)) s) with
          profiles := { s.profiles with swap := .waiting }
          report := { s.report with queue := joinQueue (joinQueue s.report.queue .status) .commands } } ∧
      exec (.profileSwapAtSecond tag high) s = .next
        { answered slot .pending tag 0x52 (written a 0b1111 (commandWord 0x52 tag (high ++ 1#1)) s) with
          profiles := { s.profiles with swap := .pending slot }
          report := { s.report with queue := joinQueue (joinQueue s.report.queue .status) .commands } })) ∧
    (NoPendingSwap s →
      exec (.profileCancel tag imm) s = .next (answered slot .wrongState tag 0x53 (written a 0b1111 (commandWord 0x53 tag imm) s))) ∧
    ∀ given, s.profiles.swap = .pending given →
      exec (.profileCancel tag imm) s = .next
        { written a 0b1111 (commandWord 0x53 tag imm) s with
          profiles := { s.profiles with swap := .none }
          monitor :=
            { s.monitor with
              status :=
                (if s.monitor.status[given].result = .pending then
                  s.monitor.status.set given { s.monitor.status[given] with result := .cancelled }
                else s.monitor.status).set slot { result := .done, tag := tag, code := 0x53 } }
          report := { s.report with queue := joinQueue (joinQueue s.report.queue .status) .commands } }

/-! ## Commands of the Report Writer -/

/-- FLAG_CLEAR and FLAG_ENABLE: the masked flags clear; the enables become the mask; each requests the Status block.
REPORT_NOW: all eleven blocks are requested, and those queued keep their places. UNKNOWN_COMMAND: a code that names no command
is answered so. Nothing else changes. -/
def Obligations.ReportCommandsAct : Prop :=
  ∀ (s : State) (a : Access) (slot : Fin 16) (tag : BitVec 8) (imm : BitVec 16), AtCommand s a slot →
    (∀ code : BitVec 8, code ∉ commandCodes →
      exec (.unknownCommand code tag imm) s = .next
        (answered slot .unknownCommand tag code (written a 0b1111 (commandWord code tag imm) s))) ∧
    exec (.flagClear tag imm) s = .next
      { answered slot .done tag 0x60 (written a 0b1111 (commandWord 0x60 tag imm) s) with
        report :=
          { s.report with
            flags := s.report.flags &&& ~~~imm, queue := joinQueue (joinQueue s.report.queue .status) .commands } } ∧
    exec (.flagEnable tag imm) s = .next
      { answered slot .done tag 0x61 (written a 0b1111 (commandWord 0x61 tag imm) s) with
        report :=
          { s.report with enables := imm, queue := joinQueue (joinQueue s.report.queue .status) .commands } } ∧
    ∃ later : List BlockKind,
      exec (.reportNow tag imm) s = .next
        { answered slot .done tag 0x62 (written a 0b1111 (commandWord 0x62 tag imm) s) with
          report := { s.report with queue := s.report.queue ++ later } } ∧
      later = ([.status, .discipline, .port 0, .port 1, .port 2, .port 3, .port 4, .port 5, .commands, .captures,
        .counters] : List BlockKind).filter fun k => !s.report.queue.contains k

/-- RESTART: candidates, table, lists and rings emptied, discipline in FREE_RUN with its rates kept, a pending swap
cancelled, counters 0, all blocks requested, those queued keeping their places; time, banks, records, flags, enables and
generations kept, and every status word but its own and the cancelled swap's. The pulse schedules are kept; a pulse in progress is
kept under ALWAYS, and ends under VALID_ONLY and LOCKED_ONLY where the discipline leaves another state. That the slot still holds
the swap exactly when it still shows PENDING is the model's deduction, log 15. -/
def Obligations.RestartClearsMeasuring : Prop :=
  ∀ (s : State) (a : Access) (slot : Fin 16) (tag : BitVec 8) (imm : BitVec 16), AtCommand s a slot →
    ∃ t, exec (.restart tag imm) s = .next t ∧ TakenFrom a (commandWord 0x7F tag imm) s t ∧
      (∀ n : Fin 7, t.candidates[n] = none) ∧ t.table.entries = [] ∧
      (∀ p : Port, t.delays[p] =
        { probes := [], responders := [], ring := [], delay := s.bank.defaultDelay * 65536, valid := false }) ∧
      t.disc =
        { s.disc with
          state := .freeRun, seen := [], lockCount := 0, rejectCount := 0, hold := false, holdover := none, last := none
          latched := if s.bank.discipline.expected = 0 then none else some s.bank.discipline.expected
          source := if s.bank.discipline.enable then s.bank.discipline.mode.source else .none
          missing := if s.bank.discipline.enable then some s.time.raw else none } ∧
      t.time = s.time ∧ t.decode = s.decode ∧ t.captures = s.captures ∧
      (s.disc.state = .freeRun → t.pulses = s.pulses) ∧ (s.disc.state ≠ .freeRun → Gated .freeRun s t) ∧
      t.profiles.bankA = s.profiles.bankA ∧ t.profiles.bankB = s.profiles.bankB ∧ t.profiles.active = s.profiles.active ∧
      (NoPendingSwap s → t.profiles.swap = s.profiles.swap ∧
        t.monitor.status = s.monitor.status.set slot { result := .done, tag := tag, code := 0x7F }) ∧
      (∀ given, s.profiles.swap = .pending given → t.profiles.swap = .none ∧
        t.monitor.status =
          (if s.monitor.status[given].result = .pending then
            s.monitor.status.set given { s.monitor.status[given] with result := .cancelled }
          else s.monitor.status).set slot { result := .done, tag := tag, code := 0x7F }) ∧
      t.report.flags = s.report.flags ∧ t.report.enables = s.report.enables ∧ t.report.generations = s.report.generations ∧
      t.report.globals = .zero ∧ (∀ p : Port, t.report.ports[p] = .zero) ∧ s.report.queue <+: t.report.queue ∧
      ∀ k : BlockKind, k ∈ t.report.queue

/-! ## Samples -/

/-- An echo hand-off finds its PROBE by sequence, removes it, and forms the delay sample: within the gate it is counted and
joins the ring's tail, the oldest leaving a ring over the window length, D(p) is the ring's smallest, and Port p is requested
where D(p) or delay valid changed; below or above it is counted as rejected, with DELAY_REJECTED. With transit unknown no
arithmetic is made: the sample is UNORDERED and rejected, with the flag under the policy SIGNAL alone. Without a record
ECHO_STRAY is raised. Nothing else changes. -/
def Obligations.EchoGivesDelaySample : Prop :=
  ∀ (s : State) (p : Port) (seq : BitVec 16) (c : BitVec 64) (t4 : Raw),
    ((∀ r ∈ s.delays[p].probes, r.sequence ≠ seq) →
      echoHandoff p seq c t4 s =
        { s with
          report :=
            { s.report with
              flags := s.report.flags ||| 0x0080
              queue := if s.straps.bypass then s.report.queue else joinQueue s.report.queue .status } }) ∧
    ∀ r ∈ s.delays[p].probes, r.sequence = seq → DelayInv s →
      ∃ (d : PortDelay) (x : Int) (rejected : ReportWriter),
        d = { s.delays[p] with probes := s.delays[p].probes.filter fun y => y.sequence != seq } ∧
        x = (rawDiff t4 r.t1 + (rawDiff t4 r.t1 * s.time.rho + 549755813888) / 1099511627776 -
          (s.bank.ports[p].latencyIn : Int) * 256 - (s.bank.ports[p].latencyOut : Int) * 256 - c.toInt * 256) / 2 ∧
        rejected =
          { s.report with
            ports := s.report.ports.set p { s.report.ports[p] with delayRejected := s.report.ports[p].delayRejected + 1 } } ∧
        (c ≠ 0x7FFFFFFFFFFFFFFF → 0 ≤ x → x ≤ (s.bank.delayMax : Int) * 65536 → 1 ≤ s.bank.windowLength →
          ∃ (ring : List Nat) (smallest : Nat),
            ring = (if s.delays[p].ring.length < s.bank.windowLength then s.delays[p].ring else s.delays[p].ring.drop 1) ++ [x.toNat] ∧
            smallest ∈ ring ∧ (∀ y ∈ ring, smallest ≤ y) ∧
            echoHandoff p seq c t4 s =
              { s with
                delays := s.delays.set p { d with ring := ring, delay := smallest, valid := true }
                report :=
                  { s.report with
                    ports := s.report.ports.set p { s.report.ports[p] with delayAccepted := s.report.ports[p].delayAccepted + 1 }
                    queue :=
                      if s.straps.bypass = false ∧ (smallest ≠ s.delays[p].delay ∨ s.delays[p].valid = false) then
                        joinQueue s.report.queue (.port p)
                      else s.report.queue } }) ∧
        (((c ≠ 0x7FFFFFFFFFFFFFFF ∧ (x < 0 ∨ (s.bank.delayMax : Int) * 65536 < x)) ∨
            (c = 0x7FFFFFFFFFFFFFFF ∧ s.bank.unordered = .signal)) →
          echoHandoff p seq c t4 s =
            { s with
              delays := s.delays.set p d
              report :=
                { rejected with
                  flags := s.report.flags ||| 0x0100
                  queue := if s.straps.bypass then s.report.queue else joinQueue s.report.queue .status } }) ∧
        (c = 0x7FFFFFFFFFFFFFFF → s.bank.unordered = .quiet →
          echoHandoff p seq c t4 s = { s with delays := s.delays.set p d, report := rejected })

/-- A network hand-off is discarded while the discipline is off or in mode INPUT, and when entry 0 of the domain list is off or
holds another domain; then its source is tested: against the expected source if there is one, or else against the latched one,
which the first MARK gives. A foreign source raises FOREIGN_SOURCE; nothing else happens on a discard. -/
def Obligations.NetworkHandoffIsTested : Prop :=
  ∀ (m : NetworkHandoff) (s : State),
    ((s.bank.discipline.enable = false ∨ s.bank.discipline.mode = .input ∨ s.bank.domains[0].enable = false ∨
      s.bank.domains[0].value ≠ m.domain) → networkHandoff m s = s) ∧
    (s.bank.discipline.enable = true → s.bank.discipline.mode ≠ .input → s.bank.domains[0].enable = true →
      s.bank.domains[0].value = m.domain →
      (s.bank.discipline.expected ≠ 0 → m.source = s.bank.discipline.expected → networkHandoff m s = takeHandoff m s) ∧
      (s.bank.discipline.expected = 0 → s.disc.latched = some m.source → networkHandoff m s = takeHandoff m s) ∧
      (s.bank.discipline.expected = 0 → s.disc.latched = none →
        networkHandoff m s =
          if m.detail then s else takeHandoff m { s with disc := { s.disc with latched := some m.source } }) ∧
      (((s.bank.discipline.expected ≠ 0 ∧ m.source ≠ s.bank.discipline.expected) ∨
          (s.bank.discipline.expected = 0 ∧ ∃ l, s.disc.latched = some l ∧ l ≠ m.source)) →
        networkHandoff m s =
          { s with
            report :=
              { s.report with
                flags := s.report.flags ||| 0x0200
                queue := if s.straps.bypass then s.report.queue else joinQueue s.report.queue .status } }))

/-- A MARK that passes the tests: a pair of source and sequence already in the Seen-Mark list is a duplicate, counted and
discarded; otherwise its record joins the list, a full list losing its oldest, and a one-step MARK gives its sample at once. A
DETAIL gives the sample of the record it pairs with, whose awaiting mark is cleared, or is discarded. The offset is T_w less
the origin stamp, the transit, the asymmetry and the link delay; with transit unknown the sample is UNORDERED. -/
def Obligations.NetworkSampleIsFormed : Prop :=
  ∀ (m : NetworkHandoff) (s : State) (offset : SeenMark → Int → Int),
    (∀ r c, offset r c =
      (r.tw.sec - m.originSec).toInt * 65536000000000 + ((r.tw.ns.val : Int) - m.originNs.toNat) * 65536 + r.tw.frac.toNat -
        c * 256 - r.asymmetry.toInt * 256 - r.delay) →
    (m.detail = false →
      ((∃ r ∈ s.disc.seen, r.source = m.source ∧ r.sequence = m.sequence) →
        takeHandoff m s =
          { s with
            report := { s.report with globals := { s.report.globals with duplicates := s.report.globals.duplicates + 1 } } }) ∧
      ((∀ r ∈ s.disc.seen, ¬ (r.source = m.source ∧ r.sequence = m.sequence)) →
        ∃ (r : SeenMark) (u : State),
          r = { source := m.source, sequence := m.sequence, port := m.port
                tw := (s.time.convert m.rawIn).add (-((s.bank.ports[m.port].latencyIn : Int) * 256))
                cIn := m.transit, asymmetry := s.bank.ports[m.port].asymmetry
                delay := if s.bank.ports[m.port].delayMode = .link then s.delays[m.port].delay else 0
                awaiting := m.detailFollows } ∧
          u = { s with
            disc := { s.disc with seen := (if 8 ≤ s.disc.seen.length then s.disc.seen.drop 1 else s.disc.seen) ++ [r] } } ∧
          takeHandoff m s =
            if m.detailFollows then u
            else
              takeSample (if m.transit = 0x7FFFFFFFFFFFFFFF then none else some (offset r m.transit.toInt)) (.network m.port) u)) ∧
    (m.detail = true →
      ((∀ r ∈ s.disc.seen, ¬ (r.source = m.source ∧ r.sequence = m.sequence ∧ r.port = m.port ∧ r.awaiting = true)) →
        takeHandoff m s = s) ∧
      (CountInv s → ∀ r ∈ s.disc.seen, r.source = m.source → r.sequence = m.sequence → r.port = m.port → r.awaiting = true →
        takeHandoff m s =
          takeSample
            (if r.cIn = 0x7FFFFFFFFFFFFFFF ∨ m.transit = 0x7FFFFFFFFFFFFFFF then none
             else some (offset r (r.cIn.toInt + m.transit.toInt)))
            (.network m.port)
            { s with disc := { s.disc with seen := s.disc.seen.map fun x => if x = r then { x with awaiting := false } else x } }))

/-- A sample in LOCKED: the active source and the missing timer follow it, and it becomes the last sample. Within the gate limit
it makes the PI update, is counted as accepted and clears the reject count, the state staying LOCKED; above it, it is rejected with
its flag and counted, and the fourth in a row moves the state to ACQUIRE, which requests its blocks and tests the outputs' gating.
Nothing else changes; station time now stays. -/
def Obligations.LockedSampleUpdatesOrRejects : Prop :=
  ∀ (s : State) (theta : Int) (o : SampleOrigin) (t : State), s.disc.state = .locked → s.disc.hold = false →
    t = takeSample (some theta) o s → t.now = s.now ∧
    (-(s.bank.discipline.gateLimit : Int) * 65536 ≤ theta → theta ≤ (s.bank.discipline.gateLimit : Int) * 65536 →
      ∃ i r : Int, PiUpdates theta s i r ∧
        t = { s with
          time := { s.time with anchorRaw := s.time.raw, anchorStation := s.now, rho := r }
          disc :=
            { sampled o s.time.raw s.disc with
              rhoI := i, rejectCount := 0, last := some { cls := .updated, theta := theta, origin := o } }
          report := acceptedOne s.report }) ∧
    ((theta < -(s.bank.discipline.gateLimit : Int) * 65536 ∨ (s.bank.discipline.gateLimit : Int) * 65536 < theta) →
      ∃ (d : Discipline) (v : State),
        d = { sampled o s.time.raw s.disc with last := some { cls := .above, theta := theta, origin := o } } ∧
        v = raised 0x0400 { s with disc := d, report := rejectedOne s.report } ∧
        (s.disc.rejectCount < 3 → t = { v with disc := { d with rejectCount := s.disc.rejectCount + 1 } }) ∧
        (3 ≤ s.disc.rejectCount → DisciplineBecomes (acquired s.time.raw d) v t))

/-- A sample with a value that meets FREE_RUN or HOLDOVER enters ACQUIRE and is answered there; in ACQUIRE it is accepted: above
a step threshold that is not 0 station time steps by its negative, with lock count 0; otherwise it makes the PI update and counts
toward the lock when it is below the lock threshold, the eighth in a row entering LOCKED. Hold is off. The step rests on the
model's deductions of logs 14, 15 and 21 and its choice of log 26, as TIME_STEP's does. -/
def Obligations.AcquireSampleStepsOrUpdates : Prop :=
  ∀ (s : State) (theta : Int) (o : SampleOrigin), s.disc.hold = false → s.disc.state ≠ .locked →
    ∃ (d : Discipline) (u t : State), t = takeSample (some theta) o s ∧
      d = (if s.disc.state = .acquire then sampled o s.time.raw s.disc else acquired s.time.raw (sampled o s.time.raw s.disc)) ∧
      DisciplineBecomes d s u ∧
      (s.bank.discipline.stepThreshold ≠ 0 → (s.bank.discipline.stepThreshold : Int) * 65536 < max theta (-theta) →
        StepOf (-theta)
          { u with
            disc := { d with lockCount := 0, last := some { cls := .stepped, theta := theta, origin := o } }
            report := acceptedOne u.report } t) ∧
      ((s.bank.discipline.stepThreshold = 0 ∨ max theta (-theta) ≤ (s.bank.discipline.stepThreshold : Int) * 65536) →
        ∃ (i r : Int) (v : State), PiUpdates theta s i r ∧
          v = { u with
            time := { s.time with anchorRaw := s.time.raw, anchorStation := s.now, rho := r }
            disc := { d with rhoI := i, last := some { cls := .updated, theta := theta, origin := o } }
            report := acceptedOne u.report } ∧
          ((s.bank.discipline.lockThreshold : Int) * 65536 ≤ max theta (-theta) →
            t = { v with disc := { v.disc with lockCount := 0 } }) ∧
          (max theta (-theta) < (s.bank.discipline.lockThreshold : Int) * 65536 →
            (d.lockCount < 7 → t = { v with disc := { v.disc with lockCount := d.lockCount + 1 } }) ∧
            (7 ≤ d.lockCount → DisciplineBecomes { v.disc with state := .locked, lockCount := 0, rejectCount := 0 } v t)))

/-- Under hold every sample is discarded and counted as rejected, and nothing else changes. An UNORDERED sample is rejected: it
becomes the last sample, the active source and the missing timer follow it, SAMPLE_REJECTED is raised under the policy SIGNAL
alone; in ACQUIRE the lock count clears; in LOCKED the reject count goes up, and the fourth in a row enters ACQUIRE; FREE_RUN and
HOLDOVER stay. -/
def Obligations.UnorderedAndHeldSamples : Prop :=
  ∀ (s : State) (o : SampleOrigin),
    (s.disc.hold = true → ∀ theta, takeSample theta o s = { s with report := rejectedOne s.report }) ∧
    (s.disc.hold = false → ∃ (d : Discipline) (v : State),
      d = { sampled o s.time.raw s.disc with last := some { cls := .unordered, theta := 0, origin := o } } ∧
      v = { s with
        disc := d
        report :=
          if s.bank.unordered = .signal then
            { rejectedOne s.report with
              flags := s.report.flags ||| 0x0400
              queue := if s.straps.bypass then s.report.queue else joinQueue s.report.queue .status }
          else rejectedOne s.report } ∧
      (s.disc.state = .freeRun ∨ s.disc.state = .holdover → takeSample none o s = v) ∧
      (s.disc.state = .acquire → takeSample none o s = { v with disc := { d with lockCount := 0 } }) ∧
      (s.disc.state = .locked →
        (s.disc.rejectCount < 3 → takeSample none o s = { v with disc := { d with rejectCount := s.disc.rejectCount + 1 } }) ∧
        (3 ≤ s.disc.rejectCount → DisciplineBecomes (acquired s.time.raw d) v (takeSample none o s))))

/-! ## Invariants every step keeps -/

/-- Every step keeps the canonical form of memory. -/
def Obligations.StepKeepsMemory : Prop := ∀ s t : State, MemoryInv s → step s = .next t → MemoryInv t

/-- Every step keeps the laws of the memory port, the wait count and the report queue. -/
def Obligations.StepKeepsPort : Prop := ∀ s t : State, PortInv s → step s = .next t → PortInv t

/-- Every step keeps ρ and ρ_i inside the active rate limit, the raw count a whole number of ticks, and every item of both banks
inside its range. -/
def Obligations.StepKeepsRanges : Prop :=
  ∀ s t : State, step s = .next t → (RateInv s → RateInv t) ∧ (RawInv s → RawInv t) ∧ (ProfileInv s → ProfileInv t)

/-- Every step keeps the discipline's counts and the laws of the Seen-Mark list. -/
def Obligations.StepKeepsCounts : Prop := ∀ s t : State, CountInv s → step s = .next t → CountInv t

/-- Every step keeps the lists, the ring and D(p) of every port. -/
def Obligations.StepKeepsDelays : Prop := ∀ s t : State, DelayInv s → step s = .next t → DelayInv t

/-- Every step keeps the table within 64 entries in allocation order, one live entry and one candidate to a cell, and the entry
made from an open candidate OPEN, of its kind and with its words, so that the two complete at one write. -/
def Obligations.StepKeepsTable : Prop :=
  ∀ s t : State, TableInv s ∧ CellInv s → step s = .next t →
    TableInv t ∧ CellInv t ∧ (OriginInv s → OriginInv t)

/-- Every step keeps links in pairs. -/
def Obligations.StepKeepsLinks : Prop :=
  ∀ s t : State, TableInv s → LinkInv s → step s = .next t → LinkInv t

/-- Every step keeps every pulse inside its gating, and every schedule with the settings of the active bank. -/
def Obligations.StepKeepsPulses : Prop := ∀ s t : State, PulseInv s → step s = .next t → PulseInv t

/-- While reset is held, every step leaves every block as hardware reset left it; in bypass, every step leaves every block
but the Time Base and the sampling of the inputs as it was brought up. -/
def Obligations.StepKeepsHeldAndBypass : Prop :=
  ∀ s t : State, step s = .next t → HeldInv s ∧ BypassInv s → HeldInv t ∧ BypassInv t

/-! ## Laws of the device -/

/-- Station time moves only by the passage of time and by steps: a row that is no reset, no TIME_SET or TIME_STEP, and can
bring no sample, leaves station time now and the raw count as they were; a tick (log 1) moves it forward, by at least
524,025 fn and at most 524,551 fn, while the record was anchored less than 2^62 fn ago. -/
def Obligations.OnlyStepsMoveStationTime : Prop :=
  (∀ (i : Instr) (s t : State), resetRow i = false → exec i s = .next t →
    t.time.raw = s.time.raw ∧
    ((∀ x y, i ≠ .timeSet x y) → (∀ x y, i ≠ .timeStep x y) → (∀ x y, i ≠ .captureTest x y) → (∀ n, i ≠ .activeEdge n) →
      (∀ x y, i ≠ .cellWordWrite x y) → t.now = s.now)) ∧
  ∀ s t : State, s.pending = [] → s.resetHeld = false → dueEvent s = none → RateInv s → ProfileInv s →
    0 ≤ rawDiff s.time.raw s.time.anchorRaw → rawDiff s.time.raw s.time.anchorRaw < 4611686018427387904 → step s = .next t →
    ∃ d : Int, 524025 ≤ d ∧ d ≤ 524551 ∧ t.now = s.now.add d

/-- Memory changes only where a fabric word writes it, with the word's data and enables, or where a report burst does. That a
burst changes memory at REPORT_BURST_END, all its words together, or at the HARDWARE_RESET that abandons it, and at no other row,
is the model's choice, log 7. -/
def Obligations.MemoryHoldsOnlyItsWrites : Prop :=
  ∀ (i : Instr) (s t : State), MemoryInv s → exec i s = .next t →
    (i ≠ .hardwareReset → i ≠ .reportBurstEnd →
      ∀ x : Nat, t.memory.readOctet x =
        match storedWord i s with
        | some (w, en, data) => if x / 4 = w.toNat ∧ en.getLsbD (3 - x % 4) then wordOctet data (x % 4) else s.memory.readOctet x
        | none => s.memory.readOctet x) ∧
    (∀ x : Nat, (∀ b ∈ s.arbiter.burst, ∀ w ∈ b.words, x / 4 ≠ w.1.toNat) → (i = .hardwareReset ∨ i = .reportBurstEnd) →
      t.memory.readOctet x = s.memory.readOctet x) ∧
    (i = .reportBurstEnd → ∀ b ∈ s.arbiter.burst, (b.words.map (·.1)).Nodup → ∀ w ∈ b.words, t.memory.readWord w.1 = w.2)

/-- Read data returned to the fabric is memory's, but for the two transit words of a cell with a live entry whose slot for
the reading egress port is PATCHED. -/
def Obligations.ReadsDifferOnlyInTransit : Prop :=
  ∀ (i : Instr) (s t : State), exec i s = .next t →
    t.ports.fabric = s.ports.fabric ∨
    ∃ a, s.arbiter.current = some a ∧ a.direction = .read ∧
      (t.ports.fabric = some (s.memory.readWord a.next) ∨
        ∃ (k : CellKey) (n : Nat) (q : Port) (e : Entry) (raw : Raw) (held : BitVec 64),
          s.readRoute a = .cellRead k n q ∧ findLive k t.table.entries = some e ∧ e.slots[q] = .patched raw held ∧
          ((n = e.header.h + 2 ∧ t.ports.fabric = some (highWord held)) ∨
            (n = e.header.h + 3 ∧ t.ports.fabric = some (lowWord held))))

/-- A raised flag stays raised until FLAG_CLEAR or a reset. -/
def Obligations.FlagsAreSticky : Prop :=
  ∀ (i : Instr) (s t : State), resetRow i = false → (∀ x y, i ≠ .flagClear x y) → exec i s = .next t →
    s.report.flags &&& t.report.flags = s.report.flags

/-- Only a processor-lane write of an access that is decoded reaches the Command Monitor, and only at its address: with another
lane, in bypass, in reset, in an access that began in reset, with a read, or at an address that is not word 0 of a slot (for a
command) or one of words 1 to 7 (for a shadow write), no command row and no shadow write does anything. That a row which cannot
happen changes nothing is the model's form (log 8): the word itself passes by its own row. -/
def Obligations.OnlyProcessorGivesCommands : Prop :=
  ∀ (i : Instr) (s : State) (a : Access), s.arbiter.current = some a →
    (i.commandCode.isSome = true ∨ ∃ en data, i = .shadowWrite en data) →
    (a.lane ≠ 0 ∨ s.straps.bypass = true ∨ s.resetHeld = true ∨ a.passThrough = true ∨ a.direction = .read ∨
      (i.commandCode.isSome = true ∧ ∀ slot : Fin 16, a.next.toNat ≠ s.commandBase + 8 * slot.val) ∨
      (i.commandCode.isSome = false ∧
        ∀ (slot : Fin 16) (n : Fin 7), a.next.toNat ≠ s.commandBase + 8 * slot.val + 1 + n.val)) →
    exec i s = .next s

/-- A pulse output shows its pulse by the polarity of the active bank, and is at its inactive level while its gating condition is
false or its period is 0: low for active high, high for active low. The time-valid line is high exactly while the discipline is
LOCKED or HOLDOVER, and the attention line exactly while some raised flag has its enable set. Held in reset and in bypass all
are low. The wait signal of the fabric port is held exactly while an access waits for a report burst to end, and never in reset
or bypass. -/
def Obligations.PinsFollowState : Prop :=
  (∀ s : State, PulseInv s →
    (s.resetHeld = false → s.straps.bypass = false →
      (∀ n : Fin 4,
        (s.bank.outputs[n].polarity = .activeHigh → (s.pulsePin n = true ↔ s.pulses[n].trailing.isSome = true)) ∧
        (s.bank.outputs[n].polarity = .activeLow → (s.pulsePin n = false ↔ s.pulses[n].trailing.isSome = true)) ∧
        (s.bank.outputs[n].gating.holds s.disc.state = false ∨ s.bank.outputs[n].period = 0 →
          (s.pulsePin n = true ↔ s.bank.outputs[n].polarity = .activeLow))) ∧
      (s.timeValidPin = true ↔ s.disc.state = .locked ∨ s.disc.state = .holdover) ∧
      (s.attentionPin = true ↔ ∃ i, i < 16 ∧ s.report.flags.getLsbD i = true ∧ s.report.enables.getLsbD i = true)) ∧
    (s.resetHeld = true ∨ s.straps.bypass = true →
      s.timeValidPin = false ∧ s.attentionPin = false ∧ ∀ n : Fin 4, s.pulsePin n = false)) ∧
  ∀ s : State, PortInv s →
    (s.waitPin = true ↔ s.arbiter.waiting ≠ [] ∧ ∃ b, s.arbiter.burst = some b) ∧
    (s.resetHeld = true ∨ (s.straps.bypass = true ∧ BypassInv s) → s.waitPin = false) ∧
    ∀ a ∈ s.arbiter.waiting, a.passed = 0
end

