-- ==== Sys2Proof/Laws/State.lean ====
section
/-! SUPPORT. One lemma for each field and each update of the state, all true by rfl. -/

namespace Sys2Proof.Machine

variable (s : State)

@[simp] theorem State.withMemory_resetHeld (x : Memory) : (s.withMemory x).resetHeld = s.resetHeld := rfl
@[simp] theorem State.withMemory_straps (x : Memory) : (s.withMemory x).straps = s.straps := rfl
@[simp] theorem State.withMemory_memory (x : Memory) : (s.withMemory x).memory = x := rfl
@[simp] theorem State.withMemory_ports (x : Memory) : (s.withMemory x).ports = s.ports := rfl
@[simp] theorem State.withMemory_arbiter (x : Memory) : (s.withMemory x).arbiter = s.arbiter := rfl
@[simp] theorem State.withMemory_decode (x : Memory) : (s.withMemory x).decode = s.decode := rfl
@[simp] theorem State.withMemory_candidates (x : Memory) : (s.withMemory x).candidates = s.candidates := rfl
@[simp] theorem State.withMemory_table (x : Memory) : (s.withMemory x).table = s.table := rfl
@[simp] theorem State.withMemory_delays (x : Memory) : (s.withMemory x).delays = s.delays := rfl
@[simp] theorem State.withMemory_time (x : Memory) : (s.withMemory x).time = s.time := rfl
@[simp] theorem State.withMemory_disc (x : Memory) : (s.withMemory x).disc = s.disc := rfl
@[simp] theorem State.withMemory_captures (x : Memory) : (s.withMemory x).captures = s.captures := rfl
@[simp] theorem State.withMemory_pulses (x : Memory) : (s.withMemory x).pulses = s.pulses := rfl
@[simp] theorem State.withMemory_profiles (x : Memory) : (s.withMemory x).profiles = s.profiles := rfl
@[simp] theorem State.withMemory_monitor (x : Memory) : (s.withMemory x).monitor = s.monitor := rfl
@[simp] theorem State.withMemory_report (x : Memory) : (s.withMemory x).report = s.report := rfl
@[simp] theorem State.withMemory_tickLimits (x : Memory) : (s.withMemory x).tickLimits = s.tickLimits := rfl
@[simp] theorem State.withMemory_freeIndex (x : Memory) : (s.withMemory x).freeIndex = s.freeIndex := rfl
@[simp] theorem State.withMemory_pending (x : Memory) : (s.withMemory x).pending = s.pending := rfl

@[simp] theorem State.withPorts_resetHeld (x : PortOutputs) : (s.withPorts x).resetHeld = s.resetHeld := rfl
@[simp] theorem State.withPorts_straps (x : PortOutputs) : (s.withPorts x).straps = s.straps := rfl
@[simp] theorem State.withPorts_memory (x : PortOutputs) : (s.withPorts x).memory = s.memory := rfl
@[simp] theorem State.withPorts_ports (x : PortOutputs) : (s.withPorts x).ports = x := rfl
@[simp] theorem State.withPorts_arbiter (x : PortOutputs) : (s.withPorts x).arbiter = s.arbiter := rfl
@[simp] theorem State.withPorts_decode (x : PortOutputs) : (s.withPorts x).decode = s.decode := rfl
@[simp] theorem State.withPorts_candidates (x : PortOutputs) : (s.withPorts x).candidates = s.candidates := rfl
@[simp] theorem State.withPorts_table (x : PortOutputs) : (s.withPorts x).table = s.table := rfl
@[simp] theorem State.withPorts_delays (x : PortOutputs) : (s.withPorts x).delays = s.delays := rfl
@[simp] theorem State.withPorts_time (x : PortOutputs) : (s.withPorts x).time = s.time := rfl
@[simp] theorem State.withPorts_disc (x : PortOutputs) : (s.withPorts x).disc = s.disc := rfl
@[simp] theorem State.withPorts_captures (x : PortOutputs) : (s.withPorts x).captures = s.captures := rfl
@[simp] theorem State.withPorts_pulses (x : PortOutputs) : (s.withPorts x).pulses = s.pulses := rfl
@[simp] theorem State.withPorts_profiles (x : PortOutputs) : (s.withPorts x).profiles = s.profiles := rfl
@[simp] theorem State.withPorts_monitor (x : PortOutputs) : (s.withPorts x).monitor = s.monitor := rfl
@[simp] theorem State.withPorts_report (x : PortOutputs) : (s.withPorts x).report = s.report := rfl
@[simp] theorem State.withPorts_tickLimits (x : PortOutputs) : (s.withPorts x).tickLimits = s.tickLimits := rfl
@[simp] theorem State.withPorts_freeIndex (x : PortOutputs) : (s.withPorts x).freeIndex = s.freeIndex := rfl
@[simp] theorem State.withPorts_pending (x : PortOutputs) : (s.withPorts x).pending = s.pending := rfl

@[simp] theorem State.withArbiter_resetHeld (x : Arbiter) : (s.withArbiter x).resetHeld = s.resetHeld := rfl
@[simp] theorem State.withArbiter_straps (x : Arbiter) : (s.withArbiter x).straps = s.straps := rfl
@[simp] theorem State.withArbiter_memory (x : Arbiter) : (s.withArbiter x).memory = s.memory := rfl
@[simp] theorem State.withArbiter_ports (x : Arbiter) : (s.withArbiter x).ports = s.ports := rfl
@[simp] theorem State.withArbiter_arbiter (x : Arbiter) : (s.withArbiter x).arbiter = x := rfl
@[simp] theorem State.withArbiter_decode (x : Arbiter) : (s.withArbiter x).decode = s.decode := rfl
@[simp] theorem State.withArbiter_candidates (x : Arbiter) : (s.withArbiter x).candidates = s.candidates := rfl
@[simp] theorem State.withArbiter_table (x : Arbiter) : (s.withArbiter x).table = s.table := rfl
@[simp] theorem State.withArbiter_delays (x : Arbiter) : (s.withArbiter x).delays = s.delays := rfl
@[simp] theorem State.withArbiter_time (x : Arbiter) : (s.withArbiter x).time = s.time := rfl
@[simp] theorem State.withArbiter_disc (x : Arbiter) : (s.withArbiter x).disc = s.disc := rfl
@[simp] theorem State.withArbiter_captures (x : Arbiter) : (s.withArbiter x).captures = s.captures := rfl
@[simp] theorem State.withArbiter_pulses (x : Arbiter) : (s.withArbiter x).pulses = s.pulses := rfl
@[simp] theorem State.withArbiter_profiles (x : Arbiter) : (s.withArbiter x).profiles = s.profiles := rfl
@[simp] theorem State.withArbiter_monitor (x : Arbiter) : (s.withArbiter x).monitor = s.monitor := rfl
@[simp] theorem State.withArbiter_report (x : Arbiter) : (s.withArbiter x).report = s.report := rfl
@[simp] theorem State.withArbiter_tickLimits (x : Arbiter) : (s.withArbiter x).tickLimits = s.tickLimits := rfl
@[simp] theorem State.withArbiter_freeIndex (x : Arbiter) : (s.withArbiter x).freeIndex = s.freeIndex := rfl
@[simp] theorem State.withArbiter_pending (x : Arbiter) : (s.withArbiter x).pending = s.pending := rfl

@[simp] theorem State.withDecode_resetHeld (x : WindowSet) : (s.withDecode x).resetHeld = s.resetHeld := rfl
@[simp] theorem State.withDecode_straps (x : WindowSet) : (s.withDecode x).straps = s.straps := rfl
@[simp] theorem State.withDecode_memory (x : WindowSet) : (s.withDecode x).memory = s.memory := rfl
@[simp] theorem State.withDecode_ports (x : WindowSet) : (s.withDecode x).ports = s.ports := rfl
@[simp] theorem State.withDecode_arbiter (x : WindowSet) : (s.withDecode x).arbiter = s.arbiter := rfl
@[simp] theorem State.withDecode_decode (x : WindowSet) : (s.withDecode x).decode = x := rfl
@[simp] theorem State.withDecode_candidates (x : WindowSet) : (s.withDecode x).candidates = s.candidates := rfl
@[simp] theorem State.withDecode_table (x : WindowSet) : (s.withDecode x).table = s.table := rfl
@[simp] theorem State.withDecode_delays (x : WindowSet) : (s.withDecode x).delays = s.delays := rfl
@[simp] theorem State.withDecode_time (x : WindowSet) : (s.withDecode x).time = s.time := rfl
@[simp] theorem State.withDecode_disc (x : WindowSet) : (s.withDecode x).disc = s.disc := rfl
@[simp] theorem State.withDecode_captures (x : WindowSet) : (s.withDecode x).captures = s.captures := rfl
@[simp] theorem State.withDecode_pulses (x : WindowSet) : (s.withDecode x).pulses = s.pulses := rfl
@[simp] theorem State.withDecode_profiles (x : WindowSet) : (s.withDecode x).profiles = s.profiles := rfl
@[simp] theorem State.withDecode_monitor (x : WindowSet) : (s.withDecode x).monitor = s.monitor := rfl
@[simp] theorem State.withDecode_report (x : WindowSet) : (s.withDecode x).report = s.report := rfl
@[simp] theorem State.withDecode_tickLimits (x : WindowSet) : (s.withDecode x).tickLimits = s.tickLimits := rfl
@[simp] theorem State.withDecode_freeIndex (x : WindowSet) : (s.withDecode x).freeIndex = s.freeIndex := rfl
@[simp] theorem State.withDecode_pending (x : WindowSet) : (s.withDecode x).pending = s.pending := rfl

@[simp] theorem State.withCandidates_resetHeld (x : Vector (Option Candidate) 7) : (s.withCandidates x).resetHeld = s.resetHeld := rfl
@[simp] theorem State.withCandidates_straps (x : Vector (Option Candidate) 7) : (s.withCandidates x).straps = s.straps := rfl
@[simp] theorem State.withCandidates_memory (x : Vector (Option Candidate) 7) : (s.withCandidates x).memory = s.memory := rfl
@[simp] theorem State.withCandidates_ports (x : Vector (Option Candidate) 7) : (s.withCandidates x).ports = s.ports := rfl
@[simp] theorem State.withCandidates_arbiter (x : Vector (Option Candidate) 7) : (s.withCandidates x).arbiter = s.arbiter := rfl
@[simp] theorem State.withCandidates_decode (x : Vector (Option Candidate) 7) : (s.withCandidates x).decode = s.decode := rfl
@[simp] theorem State.withCandidates_candidates (x : Vector (Option Candidate) 7) : (s.withCandidates x).candidates = x := rfl
@[simp] theorem State.withCandidates_table (x : Vector (Option Candidate) 7) : (s.withCandidates x).table = s.table := rfl
@[simp] theorem State.withCandidates_delays (x : Vector (Option Candidate) 7) : (s.withCandidates x).delays = s.delays := rfl
@[simp] theorem State.withCandidates_time (x : Vector (Option Candidate) 7) : (s.withCandidates x).time = s.time := rfl
@[simp] theorem State.withCandidates_disc (x : Vector (Option Candidate) 7) : (s.withCandidates x).disc = s.disc := rfl
@[simp] theorem State.withCandidates_captures (x : Vector (Option Candidate) 7) : (s.withCandidates x).captures = s.captures := rfl
@[simp] theorem State.withCandidates_pulses (x : Vector (Option Candidate) 7) : (s.withCandidates x).pulses = s.pulses := rfl
@[simp] theorem State.withCandidates_profiles (x : Vector (Option Candidate) 7) : (s.withCandidates x).profiles = s.profiles := rfl
@[simp] theorem State.withCandidates_monitor (x : Vector (Option Candidate) 7) : (s.withCandidates x).monitor = s.monitor := rfl
@[simp] theorem State.withCandidates_report (x : Vector (Option Candidate) 7) : (s.withCandidates x).report = s.report := rfl
@[simp] theorem State.withCandidates_tickLimits (x : Vector (Option Candidate) 7) : (s.withCandidates x).tickLimits = s.tickLimits := rfl
@[simp] theorem State.withCandidates_freeIndex (x : Vector (Option Candidate) 7) : (s.withCandidates x).freeIndex = s.freeIndex := rfl
@[simp] theorem State.withCandidates_pending (x : Vector (Option Candidate) 7) : (s.withCandidates x).pending = s.pending := rfl

@[simp] theorem State.withTable_resetHeld (x : ResidenceTable) : (s.withTable x).resetHeld = s.resetHeld := rfl
@[simp] theorem State.withTable_straps (x : ResidenceTable) : (s.withTable x).straps = s.straps := rfl
@[simp] theorem State.withTable_memory (x : ResidenceTable) : (s.withTable x).memory = s.memory := rfl
@[simp] theorem State.withTable_ports (x : ResidenceTable) : (s.withTable x).ports = s.ports := rfl
@[simp] theorem State.withTable_arbiter (x : ResidenceTable) : (s.withTable x).arbiter = s.arbiter := rfl
@[simp] theorem State.withTable_decode (x : ResidenceTable) : (s.withTable x).decode = s.decode := rfl
@[simp] theorem State.withTable_candidates (x : ResidenceTable) : (s.withTable x).candidates = s.candidates := rfl
@[simp] theorem State.withTable_table (x : ResidenceTable) : (s.withTable x).table = x := rfl
@[simp] theorem State.withTable_delays (x : ResidenceTable) : (s.withTable x).delays = s.delays := rfl
@[simp] theorem State.withTable_time (x : ResidenceTable) : (s.withTable x).time = s.time := rfl
@[simp] theorem State.withTable_disc (x : ResidenceTable) : (s.withTable x).disc = s.disc := rfl
@[simp] theorem State.withTable_captures (x : ResidenceTable) : (s.withTable x).captures = s.captures := rfl
@[simp] theorem State.withTable_pulses (x : ResidenceTable) : (s.withTable x).pulses = s.pulses := rfl
@[simp] theorem State.withTable_profiles (x : ResidenceTable) : (s.withTable x).profiles = s.profiles := rfl
@[simp] theorem State.withTable_monitor (x : ResidenceTable) : (s.withTable x).monitor = s.monitor := rfl
@[simp] theorem State.withTable_report (x : ResidenceTable) : (s.withTable x).report = s.report := rfl
@[simp] theorem State.withTable_tickLimits (x : ResidenceTable) : (s.withTable x).tickLimits = s.tickLimits := rfl
@[simp] theorem State.withTable_freeIndex (x : ResidenceTable) : (s.withTable x).freeIndex = s.freeIndex := rfl
@[simp] theorem State.withTable_pending (x : ResidenceTable) : (s.withTable x).pending = s.pending := rfl

@[simp] theorem State.withDelays_resetHeld (x : Vector PortDelay 6) : (s.withDelays x).resetHeld = s.resetHeld := rfl
@[simp] theorem State.withDelays_straps (x : Vector PortDelay 6) : (s.withDelays x).straps = s.straps := rfl
@[simp] theorem State.withDelays_memory (x : Vector PortDelay 6) : (s.withDelays x).memory = s.memory := rfl
@[simp] theorem State.withDelays_ports (x : Vector PortDelay 6) : (s.withDelays x).ports = s.ports := rfl
@[simp] theorem State.withDelays_arbiter (x : Vector PortDelay 6) : (s.withDelays x).arbiter = s.arbiter := rfl
@[simp] theorem State.withDelays_decode (x : Vector PortDelay 6) : (s.withDelays x).decode = s.decode := rfl
@[simp] theorem State.withDelays_candidates (x : Vector PortDelay 6) : (s.withDelays x).candidates = s.candidates := rfl
@[simp] theorem State.withDelays_table (x : Vector PortDelay 6) : (s.withDelays x).table = s.table := rfl
@[simp] theorem State.withDelays_delays (x : Vector PortDelay 6) : (s.withDelays x).delays = x := rfl
@[simp] theorem State.withDelays_time (x : Vector PortDelay 6) : (s.withDelays x).time = s.time := rfl
@[simp] theorem State.withDelays_disc (x : Vector PortDelay 6) : (s.withDelays x).disc = s.disc := rfl
@[simp] theorem State.withDelays_captures (x : Vector PortDelay 6) : (s.withDelays x).captures = s.captures := rfl
@[simp] theorem State.withDelays_pulses (x : Vector PortDelay 6) : (s.withDelays x).pulses = s.pulses := rfl
@[simp] theorem State.withDelays_profiles (x : Vector PortDelay 6) : (s.withDelays x).profiles = s.profiles := rfl
@[simp] theorem State.withDelays_monitor (x : Vector PortDelay 6) : (s.withDelays x).monitor = s.monitor := rfl
@[simp] theorem State.withDelays_report (x : Vector PortDelay 6) : (s.withDelays x).report = s.report := rfl
@[simp] theorem State.withDelays_tickLimits (x : Vector PortDelay 6) : (s.withDelays x).tickLimits = s.tickLimits := rfl
@[simp] theorem State.withDelays_freeIndex (x : Vector PortDelay 6) : (s.withDelays x).freeIndex = s.freeIndex := rfl
@[simp] theorem State.withDelays_pending (x : Vector PortDelay 6) : (s.withDelays x).pending = s.pending := rfl

@[simp] theorem State.withTime_resetHeld (x : TimeBase) : (s.withTime x).resetHeld = s.resetHeld := rfl
@[simp] theorem State.withTime_straps (x : TimeBase) : (s.withTime x).straps = s.straps := rfl
@[simp] theorem State.withTime_memory (x : TimeBase) : (s.withTime x).memory = s.memory := rfl
@[simp] theorem State.withTime_ports (x : TimeBase) : (s.withTime x).ports = s.ports := rfl
@[simp] theorem State.withTime_arbiter (x : TimeBase) : (s.withTime x).arbiter = s.arbiter := rfl
@[simp] theorem State.withTime_decode (x : TimeBase) : (s.withTime x).decode = s.decode := rfl
@[simp] theorem State.withTime_candidates (x : TimeBase) : (s.withTime x).candidates = s.candidates := rfl
@[simp] theorem State.withTime_table (x : TimeBase) : (s.withTime x).table = s.table := rfl
@[simp] theorem State.withTime_delays (x : TimeBase) : (s.withTime x).delays = s.delays := rfl
@[simp] theorem State.withTime_time (x : TimeBase) : (s.withTime x).time = x := rfl
@[simp] theorem State.withTime_disc (x : TimeBase) : (s.withTime x).disc = s.disc := rfl
@[simp] theorem State.withTime_captures (x : TimeBase) : (s.withTime x).captures = s.captures := rfl
@[simp] theorem State.withTime_pulses (x : TimeBase) : (s.withTime x).pulses = s.pulses := rfl
@[simp] theorem State.withTime_profiles (x : TimeBase) : (s.withTime x).profiles = s.profiles := rfl
@[simp] theorem State.withTime_monitor (x : TimeBase) : (s.withTime x).monitor = s.monitor := rfl
@[simp] theorem State.withTime_report (x : TimeBase) : (s.withTime x).report = s.report := rfl
@[simp] theorem State.withTime_tickLimits (x : TimeBase) : (s.withTime x).tickLimits = s.tickLimits := rfl
@[simp] theorem State.withTime_freeIndex (x : TimeBase) : (s.withTime x).freeIndex = s.freeIndex := rfl
@[simp] theorem State.withTime_pending (x : TimeBase) : (s.withTime x).pending = s.pending := rfl

@[simp] theorem State.withDisc_resetHeld (x : Discipline) : (s.withDisc x).resetHeld = s.resetHeld := rfl
@[simp] theorem State.withDisc_straps (x : Discipline) : (s.withDisc x).straps = s.straps := rfl
@[simp] theorem State.withDisc_memory (x : Discipline) : (s.withDisc x).memory = s.memory := rfl
@[simp] theorem State.withDisc_ports (x : Discipline) : (s.withDisc x).ports = s.ports := rfl
@[simp] theorem State.withDisc_arbiter (x : Discipline) : (s.withDisc x).arbiter = s.arbiter := rfl
@[simp] theorem State.withDisc_decode (x : Discipline) : (s.withDisc x).decode = s.decode := rfl
@[simp] theorem State.withDisc_candidates (x : Discipline) : (s.withDisc x).candidates = s.candidates := rfl
@[simp] theorem State.withDisc_table (x : Discipline) : (s.withDisc x).table = s.table := rfl
@[simp] theorem State.withDisc_delays (x : Discipline) : (s.withDisc x).delays = s.delays := rfl
@[simp] theorem State.withDisc_time (x : Discipline) : (s.withDisc x).time = s.time := rfl
@[simp] theorem State.withDisc_disc (x : Discipline) : (s.withDisc x).disc = x := rfl
@[simp] theorem State.withDisc_captures (x : Discipline) : (s.withDisc x).captures = s.captures := rfl
@[simp] theorem State.withDisc_pulses (x : Discipline) : (s.withDisc x).pulses = s.pulses := rfl
@[simp] theorem State.withDisc_profiles (x : Discipline) : (s.withDisc x).profiles = s.profiles := rfl
@[simp] theorem State.withDisc_monitor (x : Discipline) : (s.withDisc x).monitor = s.monitor := rfl
@[simp] theorem State.withDisc_report (x : Discipline) : (s.withDisc x).report = s.report := rfl
@[simp] theorem State.withDisc_tickLimits (x : Discipline) : (s.withDisc x).tickLimits = s.tickLimits := rfl
@[simp] theorem State.withDisc_freeIndex (x : Discipline) : (s.withDisc x).freeIndex = s.freeIndex := rfl
@[simp] theorem State.withDisc_pending (x : Discipline) : (s.withDisc x).pending = s.pending := rfl

@[simp] theorem State.withCaptures_resetHeld (x : Vector CaptureInput 2) : (s.withCaptures x).resetHeld = s.resetHeld := rfl
@[simp] theorem State.withCaptures_straps (x : Vector CaptureInput 2) : (s.withCaptures x).straps = s.straps := rfl
@[simp] theorem State.withCaptures_memory (x : Vector CaptureInput 2) : (s.withCaptures x).memory = s.memory := rfl
@[simp] theorem State.withCaptures_ports (x : Vector CaptureInput 2) : (s.withCaptures x).ports = s.ports := rfl
@[simp] theorem State.withCaptures_arbiter (x : Vector CaptureInput 2) : (s.withCaptures x).arbiter = s.arbiter := rfl
@[simp] theorem State.withCaptures_decode (x : Vector CaptureInput 2) : (s.withCaptures x).decode = s.decode := rfl
@[simp] theorem State.withCaptures_candidates (x : Vector CaptureInput 2) : (s.withCaptures x).candidates = s.candidates := rfl
@[simp] theorem State.withCaptures_table (x : Vector CaptureInput 2) : (s.withCaptures x).table = s.table := rfl
@[simp] theorem State.withCaptures_delays (x : Vector CaptureInput 2) : (s.withCaptures x).delays = s.delays := rfl
@[simp] theorem State.withCaptures_time (x : Vector CaptureInput 2) : (s.withCaptures x).time = s.time := rfl
@[simp] theorem State.withCaptures_disc (x : Vector CaptureInput 2) : (s.withCaptures x).disc = s.disc := rfl
@[simp] theorem State.withCaptures_captures (x : Vector CaptureInput 2) : (s.withCaptures x).captures = x := rfl
@[simp] theorem State.withCaptures_pulses (x : Vector CaptureInput 2) : (s.withCaptures x).pulses = s.pulses := rfl
@[simp] theorem State.withCaptures_profiles (x : Vector CaptureInput 2) : (s.withCaptures x).profiles = s.profiles := rfl
@[simp] theorem State.withCaptures_monitor (x : Vector CaptureInput 2) : (s.withCaptures x).monitor = s.monitor := rfl
@[simp] theorem State.withCaptures_report (x : Vector CaptureInput 2) : (s.withCaptures x).report = s.report := rfl
@[simp] theorem State.withCaptures_tickLimits (x : Vector CaptureInput 2) : (s.withCaptures x).tickLimits = s.tickLimits := rfl
@[simp] theorem State.withCaptures_freeIndex (x : Vector CaptureInput 2) : (s.withCaptures x).freeIndex = s.freeIndex := rfl
@[simp] theorem State.withCaptures_pending (x : Vector CaptureInput 2) : (s.withCaptures x).pending = s.pending := rfl

@[simp] theorem State.withPulses_resetHeld (x : Vector PulseOutput 4) : (s.withPulses x).resetHeld = s.resetHeld := rfl
@[simp] theorem State.withPulses_straps (x : Vector PulseOutput 4) : (s.withPulses x).straps = s.straps := rfl
@[simp] theorem State.withPulses_memory (x : Vector PulseOutput 4) : (s.withPulses x).memory = s.memory := rfl
@[simp] theorem State.withPulses_ports (x : Vector PulseOutput 4) : (s.withPulses x).ports = s.ports := rfl
@[simp] theorem State.withPulses_arbiter (x : Vector PulseOutput 4) : (s.withPulses x).arbiter = s.arbiter := rfl
@[simp] theorem State.withPulses_decode (x : Vector PulseOutput 4) : (s.withPulses x).decode = s.decode := rfl
@[simp] theorem State.withPulses_candidates (x : Vector PulseOutput 4) : (s.withPulses x).candidates = s.candidates := rfl
@[simp] theorem State.withPulses_table (x : Vector PulseOutput 4) : (s.withPulses x).table = s.table := rfl
@[simp] theorem State.withPulses_delays (x : Vector PulseOutput 4) : (s.withPulses x).delays = s.delays := rfl
@[simp] theorem State.withPulses_time (x : Vector PulseOutput 4) : (s.withPulses x).time = s.time := rfl
@[simp] theorem State.withPulses_disc (x : Vector PulseOutput 4) : (s.withPulses x).disc = s.disc := rfl
@[simp] theorem State.withPulses_captures (x : Vector PulseOutput 4) : (s.withPulses x).captures = s.captures := rfl
@[simp] theorem State.withPulses_pulses (x : Vector PulseOutput 4) : (s.withPulses x).pulses = x := rfl
@[simp] theorem State.withPulses_profiles (x : Vector PulseOutput 4) : (s.withPulses x).profiles = s.profiles := rfl
@[simp] theorem State.withPulses_monitor (x : Vector PulseOutput 4) : (s.withPulses x).monitor = s.monitor := rfl
@[simp] theorem State.withPulses_report (x : Vector PulseOutput 4) : (s.withPulses x).report = s.report := rfl
@[simp] theorem State.withPulses_tickLimits (x : Vector PulseOutput 4) : (s.withPulses x).tickLimits = s.tickLimits := rfl
@[simp] theorem State.withPulses_freeIndex (x : Vector PulseOutput 4) : (s.withPulses x).freeIndex = s.freeIndex := rfl
@[simp] theorem State.withPulses_pending (x : Vector PulseOutput 4) : (s.withPulses x).pending = s.pending := rfl

@[simp] theorem State.withProfiles_resetHeld (x : ProfileStore) : (s.withProfiles x).resetHeld = s.resetHeld := rfl
@[simp] theorem State.withProfiles_straps (x : ProfileStore) : (s.withProfiles x).straps = s.straps := rfl
@[simp] theorem State.withProfiles_memory (x : ProfileStore) : (s.withProfiles x).memory = s.memory := rfl
@[simp] theorem State.withProfiles_ports (x : ProfileStore) : (s.withProfiles x).ports = s.ports := rfl
@[simp] theorem State.withProfiles_arbiter (x : ProfileStore) : (s.withProfiles x).arbiter = s.arbiter := rfl
@[simp] theorem State.withProfiles_decode (x : ProfileStore) : (s.withProfiles x).decode = s.decode := rfl
@[simp] theorem State.withProfiles_candidates (x : ProfileStore) : (s.withProfiles x).candidates = s.candidates := rfl
@[simp] theorem State.withProfiles_table (x : ProfileStore) : (s.withProfiles x).table = s.table := rfl
@[simp] theorem State.withProfiles_delays (x : ProfileStore) : (s.withProfiles x).delays = s.delays := rfl
@[simp] theorem State.withProfiles_time (x : ProfileStore) : (s.withProfiles x).time = s.time := rfl
@[simp] theorem State.withProfiles_disc (x : ProfileStore) : (s.withProfiles x).disc = s.disc := rfl
@[simp] theorem State.withProfiles_captures (x : ProfileStore) : (s.withProfiles x).captures = s.captures := rfl
@[simp] theorem State.withProfiles_pulses (x : ProfileStore) : (s.withProfiles x).pulses = s.pulses := rfl
@[simp] theorem State.withProfiles_profiles (x : ProfileStore) : (s.withProfiles x).profiles = x := rfl
@[simp] theorem State.withProfiles_monitor (x : ProfileStore) : (s.withProfiles x).monitor = s.monitor := rfl
@[simp] theorem State.withProfiles_report (x : ProfileStore) : (s.withProfiles x).report = s.report := rfl
@[simp] theorem State.withProfiles_tickLimits (x : ProfileStore) : (s.withProfiles x).tickLimits = s.tickLimits := rfl
@[simp] theorem State.withProfiles_freeIndex (x : ProfileStore) : (s.withProfiles x).freeIndex = s.freeIndex := rfl
@[simp] theorem State.withProfiles_pending (x : ProfileStore) : (s.withProfiles x).pending = s.pending := rfl

@[simp] theorem State.withMonitor_resetHeld (x : CommandMonitor) : (s.withMonitor x).resetHeld = s.resetHeld := rfl
@[simp] theorem State.withMonitor_straps (x : CommandMonitor) : (s.withMonitor x).straps = s.straps := rfl
@[simp] theorem State.withMonitor_memory (x : CommandMonitor) : (s.withMonitor x).memory = s.memory := rfl
@[simp] theorem State.withMonitor_ports (x : CommandMonitor) : (s.withMonitor x).ports = s.ports := rfl
@[simp] theorem State.withMonitor_arbiter (x : CommandMonitor) : (s.withMonitor x).arbiter = s.arbiter := rfl
@[simp] theorem State.withMonitor_decode (x : CommandMonitor) : (s.withMonitor x).decode = s.decode := rfl
@[simp] theorem State.withMonitor_candidates (x : CommandMonitor) : (s.withMonitor x).candidates = s.candidates := rfl
@[simp] theorem State.withMonitor_table (x : CommandMonitor) : (s.withMonitor x).table = s.table := rfl
@[simp] theorem State.withMonitor_delays (x : CommandMonitor) : (s.withMonitor x).delays = s.delays := rfl
@[simp] theorem State.withMonitor_time (x : CommandMonitor) : (s.withMonitor x).time = s.time := rfl
@[simp] theorem State.withMonitor_disc (x : CommandMonitor) : (s.withMonitor x).disc = s.disc := rfl
@[simp] theorem State.withMonitor_captures (x : CommandMonitor) : (s.withMonitor x).captures = s.captures := rfl
@[simp] theorem State.withMonitor_pulses (x : CommandMonitor) : (s.withMonitor x).pulses = s.pulses := rfl
@[simp] theorem State.withMonitor_profiles (x : CommandMonitor) : (s.withMonitor x).profiles = s.profiles := rfl
@[simp] theorem State.withMonitor_monitor (x : CommandMonitor) : (s.withMonitor x).monitor = x := rfl
@[simp] theorem State.withMonitor_report (x : CommandMonitor) : (s.withMonitor x).report = s.report := rfl
@[simp] theorem State.withMonitor_tickLimits (x : CommandMonitor) : (s.withMonitor x).tickLimits = s.tickLimits := rfl
@[simp] theorem State.withMonitor_freeIndex (x : CommandMonitor) : (s.withMonitor x).freeIndex = s.freeIndex := rfl
@[simp] theorem State.withMonitor_pending (x : CommandMonitor) : (s.withMonitor x).pending = s.pending := rfl

@[simp] theorem State.withReport_resetHeld (x : ReportWriter) : (s.withReport x).resetHeld = s.resetHeld := rfl
@[simp] theorem State.withReport_straps (x : ReportWriter) : (s.withReport x).straps = s.straps := rfl
@[simp] theorem State.withReport_memory (x : ReportWriter) : (s.withReport x).memory = s.memory := rfl
@[simp] theorem State.withReport_ports (x : ReportWriter) : (s.withReport x).ports = s.ports := rfl
@[simp] theorem State.withReport_arbiter (x : ReportWriter) : (s.withReport x).arbiter = s.arbiter := rfl
@[simp] theorem State.withReport_decode (x : ReportWriter) : (s.withReport x).decode = s.decode := rfl
@[simp] theorem State.withReport_candidates (x : ReportWriter) : (s.withReport x).candidates = s.candidates := rfl
@[simp] theorem State.withReport_table (x : ReportWriter) : (s.withReport x).table = s.table := rfl
@[simp] theorem State.withReport_delays (x : ReportWriter) : (s.withReport x).delays = s.delays := rfl
@[simp] theorem State.withReport_time (x : ReportWriter) : (s.withReport x).time = s.time := rfl
@[simp] theorem State.withReport_disc (x : ReportWriter) : (s.withReport x).disc = s.disc := rfl
@[simp] theorem State.withReport_captures (x : ReportWriter) : (s.withReport x).captures = s.captures := rfl
@[simp] theorem State.withReport_pulses (x : ReportWriter) : (s.withReport x).pulses = s.pulses := rfl
@[simp] theorem State.withReport_profiles (x : ReportWriter) : (s.withReport x).profiles = s.profiles := rfl
@[simp] theorem State.withReport_monitor (x : ReportWriter) : (s.withReport x).monitor = s.monitor := rfl
@[simp] theorem State.withReport_report (x : ReportWriter) : (s.withReport x).report = x := rfl
@[simp] theorem State.withReport_tickLimits (x : ReportWriter) : (s.withReport x).tickLimits = s.tickLimits := rfl
@[simp] theorem State.withReport_freeIndex (x : ReportWriter) : (s.withReport x).freeIndex = s.freeIndex := rfl
@[simp] theorem State.withReport_pending (x : ReportWriter) : (s.withReport x).pending = s.pending := rfl

@[simp] theorem State.withTickLimits_resetHeld (x : TimerLimits) : (s.withTickLimits x).resetHeld = s.resetHeld := rfl
@[simp] theorem State.withTickLimits_straps (x : TimerLimits) : (s.withTickLimits x).straps = s.straps := rfl
@[simp] theorem State.withTickLimits_memory (x : TimerLimits) : (s.withTickLimits x).memory = s.memory := rfl
@[simp] theorem State.withTickLimits_ports (x : TimerLimits) : (s.withTickLimits x).ports = s.ports := rfl
@[simp] theorem State.withTickLimits_arbiter (x : TimerLimits) : (s.withTickLimits x).arbiter = s.arbiter := rfl
@[simp] theorem State.withTickLimits_decode (x : TimerLimits) : (s.withTickLimits x).decode = s.decode := rfl
@[simp] theorem State.withTickLimits_candidates (x : TimerLimits) : (s.withTickLimits x).candidates = s.candidates := rfl
@[simp] theorem State.withTickLimits_table (x : TimerLimits) : (s.withTickLimits x).table = s.table := rfl
@[simp] theorem State.withTickLimits_delays (x : TimerLimits) : (s.withTickLimits x).delays = s.delays := rfl
@[simp] theorem State.withTickLimits_time (x : TimerLimits) : (s.withTickLimits x).time = s.time := rfl
@[simp] theorem State.withTickLimits_disc (x : TimerLimits) : (s.withTickLimits x).disc = s.disc := rfl
@[simp] theorem State.withTickLimits_captures (x : TimerLimits) : (s.withTickLimits x).captures = s.captures := rfl
@[simp] theorem State.withTickLimits_pulses (x : TimerLimits) : (s.withTickLimits x).pulses = s.pulses := rfl
@[simp] theorem State.withTickLimits_profiles (x : TimerLimits) : (s.withTickLimits x).profiles = s.profiles := rfl
@[simp] theorem State.withTickLimits_monitor (x : TimerLimits) : (s.withTickLimits x).monitor = s.monitor := rfl
@[simp] theorem State.withTickLimits_report (x : TimerLimits) : (s.withTickLimits x).report = s.report := rfl
@[simp] theorem State.withTickLimits_tickLimits (x : TimerLimits) : (s.withTickLimits x).tickLimits = x := rfl
@[simp] theorem State.withTickLimits_freeIndex (x : TimerLimits) : (s.withTickLimits x).freeIndex = s.freeIndex := rfl
@[simp] theorem State.withTickLimits_pending (x : TimerLimits) : (s.withTickLimits x).pending = s.pending := rfl

@[simp] theorem State.withPending_resetHeld (x : List Instr) : (s.withPending x).resetHeld = s.resetHeld := rfl
@[simp] theorem State.withPending_straps (x : List Instr) : (s.withPending x).straps = s.straps := rfl
@[simp] theorem State.withPending_memory (x : List Instr) : (s.withPending x).memory = s.memory := rfl
@[simp] theorem State.withPending_ports (x : List Instr) : (s.withPending x).ports = s.ports := rfl
@[simp] theorem State.withPending_arbiter (x : List Instr) : (s.withPending x).arbiter = s.arbiter := rfl
@[simp] theorem State.withPending_decode (x : List Instr) : (s.withPending x).decode = s.decode := rfl
@[simp] theorem State.withPending_candidates (x : List Instr) : (s.withPending x).candidates = s.candidates := rfl
@[simp] theorem State.withPending_table (x : List Instr) : (s.withPending x).table = s.table := rfl
@[simp] theorem State.withPending_delays (x : List Instr) : (s.withPending x).delays = s.delays := rfl
@[simp] theorem State.withPending_time (x : List Instr) : (s.withPending x).time = s.time := rfl
@[simp] theorem State.withPending_disc (x : List Instr) : (s.withPending x).disc = s.disc := rfl
@[simp] theorem State.withPending_captures (x : List Instr) : (s.withPending x).captures = s.captures := rfl
@[simp] theorem State.withPending_pulses (x : List Instr) : (s.withPending x).pulses = s.pulses := rfl
@[simp] theorem State.withPending_profiles (x : List Instr) : (s.withPending x).profiles = s.profiles := rfl
@[simp] theorem State.withPending_monitor (x : List Instr) : (s.withPending x).monitor = s.monitor := rfl
@[simp] theorem State.withPending_report (x : List Instr) : (s.withPending x).report = s.report := rfl
@[simp] theorem State.withPending_tickLimits (x : List Instr) : (s.withPending x).tickLimits = s.tickLimits := rfl
@[simp] theorem State.withPending_freeIndex (x : List Instr) : (s.withPending x).freeIndex = s.freeIndex := rfl
@[simp] theorem State.withPending_pending (x : List Instr) : (s.withPending x).pending = x := rfl

end Sys2Proof.Machine
end

