-- ==== Sys2Proof/Laws/Frames.lean ====
section
/-! SUPPORT. What no block's own work touches: the reset pin, the straps, memory, the ports, the arbiter, the tick's timer
lengths, the free-value counter and the queue. One lemma for each shared operation of a block. -/

namespace Sys2Proof.Machine

/-- The part of the state outside the blocks. -/
def State.outside (s : State) : Bool × Straps × Memory × PortOutputs × Arbiter × TimerLimits × Nat × List Instr :=
  (s.resetHeld, s.straps, s.memory, s.ports, s.arbiter, s.tickLimits, s.freeIndex, s.pending)

/-- Equal outside means equal in each of the eight fields. -/
theorem outside_fields {s t : State} (h : t.outside = s.outside) :
    t.resetHeld = s.resetHeld ∧ t.straps = s.straps ∧ t.memory = s.memory ∧ t.ports = s.ports ∧ t.arbiter = s.arbiter ∧
    t.tickLimits = s.tickLimits ∧ t.freeIndex = s.freeIndex ∧ t.pending = s.pending := by
  simpa only [State.outside, Prod.mk.injEq] using h

/-- A fold of operations that keep the outside keeps the outside. -/
theorem foldl_outside {α : Type} (f : State → α → State) (h : ∀ s x, (f s x).outside = s.outside) (l : List α) :
    ∀ s, (l.foldl f s).outside = s.outside := by
  induction l with
  | nil => exact fun _ => rfl
  | cons x l ih => exact fun s => (ih (f s x)).trans (h s x)

@[simp] theorem withDecode_outside (s : State) (x : WindowSet) : (s.withDecode x).outside = s.outside := rfl

@[simp] theorem withCandidates_outside (s : State) (x : Vector (Option Candidate) 7) : (s.withCandidates x).outside = s.outside := rfl

@[simp] theorem withTable_outside (s : State) (x : ResidenceTable) : (s.withTable x).outside = s.outside := rfl

@[simp] theorem withDelays_outside (s : State) (x : Vector PortDelay 6) : (s.withDelays x).outside = s.outside := rfl

@[simp] theorem withTime_outside (s : State) (x : TimeBase) : (s.withTime x).outside = s.outside := rfl

@[simp] theorem withDisc_outside (s : State) (x : Discipline) : (s.withDisc x).outside = s.outside := rfl

@[simp] theorem withCaptures_outside (s : State) (x : Vector CaptureInput 2) : (s.withCaptures x).outside = s.outside := rfl

@[simp] theorem withPulses_outside (s : State) (x : Vector PulseOutput 4) : (s.withPulses x).outside = s.outside := rfl

@[simp] theorem withProfiles_outside (s : State) (x : ProfileStore) : (s.withProfiles x).outside = s.outside := rfl

@[simp] theorem withMonitor_outside (s : State) (x : CommandMonitor) : (s.withMonitor x).outside = s.outside := rfl

@[simp] theorem withReport_outside (s : State) (x : ReportWriter) : (s.withReport x).outside = s.outside := rfl

@[simp] theorem request_outside (ks : List BlockKind) (s : State) : (request ks s).outside = s.outside := by
  simp only [request, apply_ite State.outside, withReport_outside, ite_self]

@[simp] theorem raise_outside (f : Flag) (s : State) : (raise f s).outside = s.outside := by
  simp only [raise, request_outside, withReport_outside]

@[simp] theorem raiseIf_outside (c : Bool) (f : Flag) (s : State) : (raiseIf c f s).outside = s.outside := by
  simp only [raiseIf, apply_ite State.outside, raise_outside, ite_self]

@[simp] theorem count_outside (c : GlobalCounter) (s : State) : (count c s).outside = s.outside := by
  simp only [count, withReport_outside]

@[simp] theorem countPort_outside (p : Port) (c : PortCounter) (s : State) : (countPort p c s).outside = s.outside := by
  simp only [countPort, withReport_outside]

@[simp] theorem giveRho_outside (r : Int) (s : State) : (giveRho r s).outside = s.outside := by
  simp only [giveRho, withTime_outside]

@[simp] theorem giveRhoI_outside (r : Int) (s : State) : (giveRhoI r s).outside = s.outside := withDisc_outside _ _

@[simp] theorem clampRates_outside (s : State) : (clampRates s).outside = s.outside := by
  unfold clampRates
  simp only [giveRhoI_outside, apply_ite State.outside, giveRho_outside, ite_self]

@[simp] theorem gatePulses_outside (s : State) : (gatePulses s).outside = s.outside := by
  simp only [gatePulses, withPulses_outside]

@[simp] theorem stepPulses_outside (s : State) : (stepPulses s).outside = s.outside := by
  simp only [stepPulses, withPulses_outside]

@[simp] theorem swapPulses_outside (old : Profile) (s : State) : (swapPulses old s).outside = s.outside := by
  simp only [swapPulses, withPulses_outside]

@[simp] theorem leadPulse_outside (n : Fin 4) (s : State) : (leadPulse n s).outside = s.outside := by
  simp only [leadPulse, withPulses_outside]

@[simp] theorem trailPulse_outside (n : Fin 4) (s : State) : (trailPulse n s).outside = s.outside := by
  simp only [trailPulse, withPulses_outside]

@[simp] theorem setDelay_outside (p : Port) (d : PortDelay) (s : State) : (setDelay p d s).outside = s.outside := by
  simp only [setDelay, withDelays_outside]

@[simp] theorem settleDelay_outside (p : Port) (d : PortDelay) (s : State) : (settleDelay p d s).outside = s.outside := by
  unfold settleDelay
  simp only [apply_ite State.outside, request_outside, setDelay_outside, ite_self]

@[simp] theorem transmitHandoff_outside (q : Port) (n : BitVec 16) (t : Raw) (s : State) : (transmitHandoff q n t s).outside = s.outside := by
  unfold transmitHandoff
  (repeat' split) <;> simp only [raiseIf_outside, setDelay_outside]

@[simp] theorem responderHandoff_outside (p : Port) (r : ResponderRecord) (s : State) : (responderHandoff p r s).outside = s.outside := by
  simp only [responderHandoff, setDelay_outside]

@[simp] theorem removeResponder_outside (q : Port) (n : BitVec 16) (i : Ident) (s : State) : (removeResponder q n i s).outside = s.outside := by
  simp only [removeResponder, setDelay_outside]

@[simp] theorem removeProbe_outside (p : Port) (n : BitVec 16) (s : State) : (removeProbe p n s).outside = s.outside := by
  simp only [removeProbe, setDelay_outside]

@[simp] theorem rejectDelay_outside (p : Port) (c : DelayClass) (s : State) : (rejectDelay p c s).outside = s.outside := by
  simp only [rejectDelay, raiseIf_outside, countPort_outside]

@[simp] theorem acceptDelay_outside (p : Port) (x : Nat) (s : State) : (acceptDelay p x s).outside = s.outside := by
  simp only [acceptDelay, countPort_outside, settleDelay_outside]

@[simp] theorem takeDelaySample_outside (p : Port) (t1 t4 : Raw) (c : BitVec 64) (s : State) : (takeDelaySample p t1 t4 c s).outside = s.outside := by
  unfold takeDelaySample
  split
  · exact rejectDelay_outside _ _ _
  · dsimp only
    split
    · exact acceptDelay_outside _ _ _
    · exact rejectDelay_outside _ _ _

@[simp] theorem echoHandoff_outside (p : Port) (n : BitVec 16) (c : BitVec 64) (t : Raw) (s : State) : (echoHandoff p n c t s).outside = s.outside := by
  unfold echoHandoff
  (repeat' split) <;> simp only [raise_outside, removeProbe_outside, takeDelaySample_outside]

@[simp] theorem clearPort_outside (p : Port) (s : State) : (clearPort p s).outside = s.outside := by
  simp only [clearPort, settleDelay_outside]

@[simp] theorem clearPorts_outside (ps : List Port) (s : State) : (clearPorts ps s).outside = s.outside := foldl_outside _ (fun s p => clearPort_outside p s) ps s

@[simp] theorem swapDelay_outside (old : Profile) (s : State) (p : Port) : (swapDelay old s p).outside = s.outside := by
  simp only [swapDelay, apply_ite State.outside, settleDelay_outside, clearPort_outside, ite_self]

@[simp] theorem swapDelays_outside (old : Profile) (s : State) : (swapDelays old s).outside = s.outside := foldl_outside _ (fun s p => swapDelay_outside old s p) allPorts s

@[simp] theorem raiseComputed_outside (o : Computed) (s : State) : (raiseComputed o s).outside = s.outside := by
  simp only [raiseComputed, raiseIf_outside]

@[simp] theorem setEntries_outside (es : List Entry) (s : State) : (setEntries es s).outside = s.outside := by
  simp only [setEntries, withTable_outside]

@[simp] theorem mirrorWrite_outside (k : CellKey) (n : Nat) (en : Enables) (w : Word) (s : State) : (mirrorWrite k n en w s).outside = s.outside := by
  unfold mirrorWrite
  (repeat' split) <;> simp only [setEntries_outside]

@[simp] theorem rewriteCell_outside (k : CellKey) (s : State) : (rewriteCell k s).outside = s.outside := by
  unfold rewriteCell
  (repeat' split) <;> simp only [count_outside, setEntries_outside]

@[simp] theorem countArrival_outside (o : Origin) (s : State) : (countArrival o s).outside = s.outside := by
  unfold countArrival
  (repeat' split) <;> simp only [countPort_outside]

@[simp] theorem allocate_outside (r : AllocationRequest) (s : State) : (allocate r s).outside = s.outside := by
  simp only [allocate, apply_ite State.outside, raise_outside, count_outside, countArrival_outside, withTable_outside, ite_self]

@[simp] theorem setSlot_outside (o : Nat) (q : Port) (x : Slot) (s : State) : (setSlot o q x s).outside = s.outside := by
  simp only [setSlot, setEntries_outside]

@[simp] theorem passSlot_outside (e : Entry) (q : Port) (r : Option Raw) (f : Flag) (s : State) : (passSlot e q r f s).outside = s.outside := by
  simp only [passSlot, raise_outside, countPort_outside, setSlot_outside]

@[simp] theorem patchSlot_outside (e : Entry) (q : Port) (r : Raw) (c : Computed) (s : State) : (patchSlot e q r c s).outside = s.outside := by
  simp only [patchSlot, countPort_outside, raiseComputed_outside, setSlot_outside]

@[simp] theorem computeSlot_outside (e : Entry) (q : Port) (r : Raw) (c : BitVec 64) (s : State) : (computeSlot e q r c s).outside = s.outside := by
  unfold computeSlot
  dsimp only
  split
  · rfl
  · split <;> simp only [setSlot_outside, patchSlot_outside]
  · split <;> simp only [passSlot_outside, patchSlot_outside]
  · split <;> simp only [passSlot_outside, patchSlot_outside, removeResponder_outside]

@[simp] theorem settleSlot_outside (e : Entry) (q : Port) (s : State) : (settleSlot e q s).outside = s.outside := by
  unfold settleSlot
  (repeat' split) <;> simp only [passSlot_outside, computeSlot_outside]

@[simp] theorem timeSlot_outside (e : Entry) (q : Port) (s : State) : (timeSlot e q s).outside = s.outside := by
  unfold timeSlot
  (repeat' split) <;> simp only [transmitHandoff_outside, setSlot_outside]

@[simp] theorem egressRead_outside (k : CellKey) (n : Nat) (q : Port) (s : State) : (egressRead k n q s).outside = s.outside := by
  unfold egressRead
  (repeat' split) <;> simp only [settleSlot_outside, timeSlot_outside]

@[simp] theorem emptyTable_outside (s : State) : (emptyTable s).outside = s.outside := by
  simp only [emptyTable, setEntries_outside]

@[simp] theorem setDiscState_outside (d : DisciplineState) (s : State) : (setDiscState d s).outside = s.outside := by
  simp only [setDiscState, apply_ite State.outside, request_outside, gatePulses_outside, withDisc_outside, ite_self]

@[simp] theorem startMissing_outside (s : State) : (startMissing s).outside = s.outside := by
  simp only [startMissing, withDisc_outside]

@[simp] theorem enterAcquire_outside (s : State) : (enterAcquire s).outside = s.outside := by
  simp only [enterAcquire, setDiscState_outside, withDisc_outside]

@[simp] theorem enterHoldover_outside (s : State) : (enterHoldover s).outside = s.outside := by
  simp only [enterHoldover, raise_outside, giveRho_outside, setDiscState_outside, withDisc_outside]

@[simp] theorem fallFreeRun_outside (s : State) : (fallFreeRun s).outside = s.outside := by
  simp only [fallFreeRun, raise_outside, setDiscState_outside, withDisc_outside]

@[simp] theorem toldOfStep_outside (s : State) : (toldOfStep s).outside = s.outside := by
  simp only [toldOfStep, apply_ite State.outside, enterAcquire_outside, ite_self]

@[simp] theorem disciplineOff_outside (s : State) : (disciplineOff s).outside = s.outside := by
  simp only [disciplineOff, setDiscState_outside, withDisc_outside]

@[simp] theorem disciplineOn_outside (s : State) : (disciplineOn s).outside = s.outside := by
  simp only [disciplineOn, setDiscState_outside, withDisc_outside]

@[simp] theorem disciplineMode_outside (s : State) : (disciplineMode s).outside = s.outside := by
  simp only [disciplineMode, apply_ite State.outside, startMissing_outside, withDisc_outside, ite_self]

@[simp] theorem disciplineExpected_outside (s : State) : (disciplineExpected s).outside = s.outside := by
  simp only [disciplineExpected, withDisc_outside]

@[simp] theorem swapDiscipline_outside (old : Profile) (s : State) : (swapDiscipline old s).outside = s.outside := by
  simp only [swapDiscipline, apply_ite State.outside, disciplineOff_outside, disciplineOn_outside, disciplineMode_outside, disciplineExpected_outside, ite_self]

@[simp] theorem restartDiscipline_outside (s : State) : (restartDiscipline s).outside = s.outside := by
  simp only [restartDiscipline, setDiscState_outside, withDisc_outside]

@[simp] theorem expireMissing_outside (s : State) : (expireMissing s).outside = s.outside := by
  unfold expireMissing
  dsimp only
  split <;> simp only [fallFreeRun_outside, enterHoldover_outside, withDisc_outside]

@[simp] theorem setStatus_outside (slot : Fin 16) (x : SlotStatus) (s : State) : (setStatus slot x s).outside = s.outside := by
  simp only [setStatus, withMonitor_outside]

@[simp] theorem rewriteSwapStatus_outside (slot : Fin 16) (r : CommandResult) (s : State) : (rewriteSwapStatus slot r s).outside = s.outside := by
  simp only [rewriteSwapStatus, apply_ite State.outside, request_outside, setStatus_outside, ite_self]

@[simp] theorem retireChanged_outside (s : State) : (retireChanged s).outside = s.outside := by
  simp only [retireChanged, setEntries_outside]

@[simp] theorem dropChanged_outside (s : State) : (dropChanged s).outside = s.outside := by
  simp only [dropChanged, withCandidates_outside]

@[simp] theorem decodeChange_outside (s : State) : (decodeChange s).outside = s.outside := by
  simp only [decodeChange, apply_ite State.outside, retireChanged_outside, dropChanged_outside, withDecode_outside, ite_self]

@[simp] theorem exchangeBanks_outside (s : State) : (exchangeBanks s).outside = s.outside := by
  simp only [exchangeBanks, request_outside, withProfiles_outside]

@[simp] theorem performSwap_outside (s : State) : (performSwap s).outside = s.outside := by
  simp only [performSwap, clampRates_outside, swapPulses_outside, swapDelays_outside, swapDiscipline_outside, decodeChange_outside, exchangeBanks_outside]

@[simp] theorem swapAtRollover_outside (s : State) : (swapAtRollover s).outside = s.outside := by
  unfold swapAtRollover
  (repeat' split) <;> simp only [rewriteSwapStatus_outside, performSwap_outside]

@[simp] theorem cancelSwap_outside (s : State) : (cancelSwap s).outside = s.outside := by
  unfold cancelSwap
  (repeat' split) <;> simp only [request_outside, rewriteSwapStatus_outside, withProfiles_outside]

@[simp] theorem giveRollover_outside (s : State) : (giveRollover s).outside = s.outside := by
  simp only [giveRollover, request_outside, swapAtRollover_outside, withTime_outside]

@[simp] theorem shiftWaiting_outside (a : Int) (s : State) : (shiftWaiting a s).outside = s.outside := by
  simp only [shiftWaiting, withDisc_outside]

@[simp] theorem stepTime_outside (a : Int) (s : State) : (stepTime a s).outside = s.outside := by
  have h1 : (shiftWaiting a (raise .stepped (s.withTime (s.time.step a)))).outside = s.outside := by
    rw [shiftWaiting_outside, raise_outside, withTime_outside]
  unfold stepTime
  rw [stepPulses_outside, apply_ite State.outside, giveRollover_outside, h1, ite_self]

@[simp] theorem piUpdate_outside (x : Int) (s : State) : (piUpdate x s).outside = s.outside := by
  simp only [piUpdate, giveRho_outside, giveRhoI_outside]

@[simp] theorem recordSample_outside (c : SampleClass) (x : Int) (o : SampleOrigin) (s : State) : (recordSample c x o s).outside = s.outside := by
  simp only [recordSample, withDisc_outside]

@[simp] theorem rejectUnordered_outside (o : SampleOrigin) (s : State) : (rejectUnordered o s).outside = s.outside := by
  simp only [rejectUnordered, raiseIf_outside, count_outside, recordSample_outside]

@[simp] theorem setLockCount_outside (n : Nat) (s : State) : (setLockCount n s).outside = s.outside := by
  simp only [setLockCount, apply_ite State.outside, setDiscState_outside, withDisc_outside, ite_self]

@[simp] theorem addReject_outside (s : State) : (addReject s).outside = s.outside := by
  simp only [addReject, apply_ite State.outside, enterAcquire_outside, withDisc_outside, ite_self]

@[simp] theorem answerAcquire_outside (x : Int) (o : SampleOrigin) (s : State) : (answerAcquire x o s).outside = s.outside := by
  simp only [answerAcquire, apply_ite State.outside, count_outside, stepTime_outside, piUpdate_outside, recordSample_outside, setLockCount_outside, withDisc_outside, ite_self]

@[simp] theorem answerLocked_outside (x : Int) (o : SampleOrigin) (s : State) : (answerLocked x o s).outside = s.outside := by
  unfold answerLocked
  rw [apply_ite State.outside, addReject_outside, raise_outside, count_outside, recordSample_outside, withDisc_outside,
    count_outside, recordSample_outside, piUpdate_outside, ite_self]

@[simp] theorem answerValue_outside (x : Int) (o : SampleOrigin) (s : State) : (answerValue x o s).outside = s.outside := by
  unfold answerValue
  (repeat' split) <;> simp only [enterAcquire_outside, answerAcquire_outside, answerLocked_outside]

@[simp] theorem answerUnordered_outside (o : SampleOrigin) (s : State) : (answerUnordered o s).outside = s.outside := by
  unfold answerUnordered
  (repeat' split) <;> simp only [rejectUnordered_outside, addReject_outside, withDisc_outside]

@[simp] theorem takeSample_outside (x : Option Int) (o : SampleOrigin) (s : State) : (takeSample x o s).outside = s.outside := by
  unfold takeSample
  (repeat' split) <;> simp only [count_outside, startMissing_outside, answerValue_outside, answerUnordered_outside, withDisc_outside]

@[simp] theorem takeMark_outside (m : NetworkHandoff) (s : State) : (takeMark m s).outside = s.outside := by
  unfold takeMark
  (repeat' split) <;> simp only [count_outside, takeSample_outside, withDisc_outside]

@[simp] theorem takeDetail_outside (m : NetworkHandoff) (s : State) : (takeDetail m s).outside = s.outside := by
  unfold takeDetail
  (repeat' split) <;> simp only [takeSample_outside, withDisc_outside]

@[simp] theorem takeHandoff_outside (m : NetworkHandoff) (s : State) : (takeHandoff m s).outside = s.outside := by
  simp only [takeHandoff, apply_ite State.outside, takeMark_outside, takeDetail_outside, ite_self]

@[simp] theorem testSource_outside (m : NetworkHandoff) (s : State) : (testSource m s).outside = s.outside := by
  unfold testSource
  dsimp only
  split
  · split
    · exact takeHandoff_outside _ _
    · exact raise_outside _ _
  · split
    · split
      · rfl
      · rw [takeHandoff_outside, withDisc_outside]
    · split
      · exact takeHandoff_outside _ _
      · exact raise_outside _ _

@[simp] theorem networkHandoff_outside (m : NetworkHandoff) (s : State) : (networkHandoff m s).outside = s.outside := by
  simp only [networkHandoff, apply_ite State.outside, testSource_outside, ite_self]

@[simp] theorem inputHandoff_outside (t : StationTime) (s : State) : (inputHandoff t s).outside = s.outside := by
  simp only [inputHandoff, apply_ite State.outside, takeSample_outside, ite_self]

@[simp] theorem capture_outside (n : Fin 2) (s : State) : (capture n s).outside = s.outside := by
  simp only [capture, apply_ite State.outside, request_outside, raiseIf_outside, inputHandoff_outside, withCaptures_outside, ite_self]

@[simp] theorem recordLevel_outside (n : Fin 2) (l : Bool) (s : State) : (recordLevel n l s).outside = s.outside := by
  simp only [recordLevel, withCaptures_outside]

@[simp] theorem setCandidate_outside (n : Fin 7) (c : Option Candidate) (s : State) : (setCandidate n c s).outside = s.outside := by
  simp only [setCandidate, withCandidates_outside]

@[simp] theorem completionHandoffs_outside (o : Origin) (k : FrameKind) (c : Candidate) (h : Nat) (s : State) : (completionHandoffs o k c h s).outside = s.outside := by
  unfold completionHandoffs
  dsimp only
  split
  · rfl
  · split
    · split
      · exact networkHandoff_outside _ _
      · rfl
    · split
      · exact networkHandoff_outside _ _
      · rfl
    · split
      · exact responderHandoff_outside _ _ _
      · rfl
    · split
      · exact echoHandoff_outside _ _ _ _ _
      · rfl

@[simp] theorem decideType_outside (n : Fin 7) (c : Candidate) (s : State) : (decideType n c s).1.outside = s.outside := by
  unfold decideType
  (repeat' split) <;> simp only [setCandidate_outside]

@[simp] theorem decideAllocation_outside (n : Fin 7) (c : Candidate) (s : State) : (decideAllocation n c s).1.outside = s.outside := by
  unfold decideAllocation
  repeat' (first | (dsimp only; split) | split)
  all_goals simp only [count_outside, allocate_outside, setCandidate_outside]

@[simp] theorem decideCompletion_outside (n : Fin 7) (c : Candidate) (s : State) : (decideCompletion n c s).outside = s.outside := by
  unfold decideCompletion
  repeat' (first | (dsimp only; split) | split)
  all_goals simp only [setCandidate_outside, completionHandoffs_outside]

@[simp] theorem takeDecisions_outside (n : Fin 7) (c : Candidate) (s : State) : (takeDecisions n c s).outside = s.outside := by
  unfold takeDecisions
  have h1 := decideType_outside n c s
  split <;> rename_i e1 <;> rw [e1] at h1
  · exact h1
  · rename_i s1 c1
    have h2 := decideAllocation_outside n c1 s1
    split <;> rename_i e2 <;> rw [e2] at h2
    · exact h2.trans h1
    · rw [decideCompletion_outside]
      exact h2.trans h1

@[simp] theorem captureWrite_outside (k : CellKey) (w : Nat) (en : Enables) (d : Word) (s : State) (n : Fin 7) : (captureWrite k w en d s n).outside = s.outside := by
  unfold captureWrite
  (repeat' split) <;> simp only [setCandidate_outside, takeDecisions_outside]

@[simp] theorem dropOthers_outside (k : CellKey) (own : Option (Fin 7)) (s : State) : (dropOthers k own s).outside = s.outside := by
  simp only [dropOthers, withCandidates_outside]

@[simp] theorem openWrite_outside (k : CellKey) (l : LaneClass) (en : Enables) (d : Word) (s : State) : (openWrite k l en d s).outside = s.outside := by
  unfold openWrite
  repeat' (first | (dsimp only; split) | split)
  all_goals simp only [setCandidate_outside, dropOthers_outside]

@[simp] theorem cellWrite_outside (k : CellKey) (n : Nat) (l : LaneClass) (en : Enables) (d : Word) (s : State) : (cellWrite k n l en d s).outside = s.outside := by
  unfold cellWrite
  split
  · simp only [openWrite_outside, rewriteCell_outside]
  · rw [foldl_outside _ (fun s n => captureWrite_outside k _ en d s n)]
    exact mirrorWrite_outside k n en d s

@[simp] theorem dropCandidates_outside (s : State) : (dropCandidates s).outside = s.outside := by
  simp only [dropCandidates, withCandidates_outside]

@[simp] theorem writeShadow_outside (slot : Fin 16) (n : Fin 7) (en : Enables) (d : Word) (s : State) : (writeShadow slot n en d s).outside = s.outside := by
  simp only [writeShadow, withMonitor_outside]

end Sys2Proof.Machine
end

