-- ==== Sys2Proof/Laws/Fields.lean ====
section
/-! SUPPORT. Which operation leaves which block alone: one lemma for each shared operation and each block it does not touch
(the Report Writer apart, which most of them reach). -/

namespace Sys2Proof.Machine

/-- A fold of operations that keep a part of the state keeps it. -/
theorem foldl_keeps {α β : Type} (g : State → β) (f : State → α → State) (h : ∀ s x, g (f s x) = g s) (l : List α) :
    ∀ s, g (l.foldl f s) = g s := by
  induction l with
  | nil => exact fun _ => rfl
  | cons x l ih => exact fun s => (ih (f s x)).trans (h s x)

@[simp] theorem request_decode (ks : List BlockKind) (s : State) : (request ks s).decode = s.decode := by
  simp only [request, apply_ite State.decode, State.withReport_decode, ite_self]

@[simp] theorem raise_decode (f : Flag) (s : State) : (raise f s).decode = s.decode := by
  simp only [raise, request_decode, State.withReport_decode]

@[simp] theorem raiseIf_decode (c : Bool) (f : Flag) (s : State) : (raiseIf c f s).decode = s.decode := by
  simp only [raiseIf, apply_ite State.decode, raise_decode, ite_self]

@[simp] theorem count_decode (c : GlobalCounter) (s : State) : (count c s).decode = s.decode := by
  simp only [count, State.withReport_decode]

@[simp] theorem countPort_decode (p : Port) (c : PortCounter) (s : State) : (countPort p c s).decode = s.decode := by
  simp only [countPort, State.withReport_decode]

@[simp] theorem giveRho_decode (r : Int) (s : State) : (giveRho r s).decode = s.decode := by
  simp only [giveRho, State.withTime_decode]

@[simp] theorem giveRhoI_decode (r : Int) (s : State) : (giveRhoI r s).decode = s.decode := State.withDisc_decode _ _

@[simp] theorem clampRates_decode (s : State) : (clampRates s).decode = s.decode := by
  unfold clampRates
  simp only [giveRhoI_decode, apply_ite State.decode, giveRho_decode, ite_self]

@[simp] theorem gatePulses_decode (s : State) : (gatePulses s).decode = s.decode := by
  simp only [gatePulses, State.withPulses_decode]

@[simp] theorem stepPulses_decode (s : State) : (stepPulses s).decode = s.decode := by
  simp only [stepPulses, State.withPulses_decode]

@[simp] theorem swapPulses_decode (old : Profile) (s : State) : (swapPulses old s).decode = s.decode := by
  simp only [swapPulses, State.withPulses_decode]

@[simp] theorem leadPulse_decode (n : Fin 4) (s : State) : (leadPulse n s).decode = s.decode := by
  simp only [leadPulse, State.withPulses_decode]

@[simp] theorem trailPulse_decode (n : Fin 4) (s : State) : (trailPulse n s).decode = s.decode := by
  simp only [trailPulse, State.withPulses_decode]

@[simp] theorem setDelay_decode (p : Port) (d : PortDelay) (s : State) : (setDelay p d s).decode = s.decode := by
  simp only [setDelay, State.withDelays_decode]

@[simp] theorem settleDelay_decode (p : Port) (d : PortDelay) (s : State) : (settleDelay p d s).decode = s.decode := by
  unfold settleDelay
  simp only [apply_ite State.decode, request_decode, setDelay_decode, ite_self]

@[simp] theorem transmitHandoff_decode (q : Port) (n : BitVec 16) (t : Raw) (s : State) : (transmitHandoff q n t s).decode = s.decode := by
  unfold transmitHandoff
  (repeat' split) <;> simp only [raiseIf_decode, setDelay_decode]

@[simp] theorem responderHandoff_decode (p : Port) (r : ResponderRecord) (s : State) : (responderHandoff p r s).decode = s.decode := by
  simp only [responderHandoff, setDelay_decode]

@[simp] theorem removeResponder_decode (q : Port) (n : BitVec 16) (i : Ident) (s : State) : (removeResponder q n i s).decode = s.decode := by
  simp only [removeResponder, setDelay_decode]

@[simp] theorem removeProbe_decode (p : Port) (n : BitVec 16) (s : State) : (removeProbe p n s).decode = s.decode := by
  simp only [removeProbe, setDelay_decode]

@[simp] theorem rejectDelay_decode (p : Port) (c : DelayClass) (s : State) : (rejectDelay p c s).decode = s.decode := by
  simp only [rejectDelay, raiseIf_decode, countPort_decode]

@[simp] theorem acceptDelay_decode (p : Port) (x : Nat) (s : State) : (acceptDelay p x s).decode = s.decode := by
  simp only [acceptDelay, countPort_decode, settleDelay_decode]

@[simp] theorem takeDelaySample_decode (p : Port) (t1 t4 : Raw) (c : BitVec 64) (s : State) : (takeDelaySample p t1 t4 c s).decode = s.decode := by
  unfold takeDelaySample
  split
  · exact rejectDelay_decode _ _ _
  · dsimp only
    split
    · exact acceptDelay_decode _ _ _
    · exact rejectDelay_decode _ _ _

@[simp] theorem echoHandoff_decode (p : Port) (n : BitVec 16) (c : BitVec 64) (t : Raw) (s : State) : (echoHandoff p n c t s).decode = s.decode := by
  unfold echoHandoff
  (repeat' split) <;> simp only [raise_decode, removeProbe_decode, takeDelaySample_decode]

@[simp] theorem clearPort_decode (p : Port) (s : State) : (clearPort p s).decode = s.decode := by
  simp only [clearPort, settleDelay_decode]

@[simp] theorem clearPorts_decode (ps : List Port) (s : State) : (clearPorts ps s).decode = s.decode := foldl_keeps State.decode _ (fun s p => clearPort_decode p s) ps s

@[simp] theorem swapDelay_decode (old : Profile) (s : State) (p : Port) : (swapDelay old s p).decode = s.decode := by
  simp only [swapDelay, apply_ite State.decode, settleDelay_decode, clearPort_decode, ite_self]

@[simp] theorem swapDelays_decode (old : Profile) (s : State) : (swapDelays old s).decode = s.decode := foldl_keeps State.decode _ (fun s p => swapDelay_decode old s p) allPorts s

@[simp] theorem raiseComputed_decode (o : Computed) (s : State) : (raiseComputed o s).decode = s.decode := by
  simp only [raiseComputed, raiseIf_decode]

@[simp] theorem setEntries_decode (es : List Entry) (s : State) : (setEntries es s).decode = s.decode := by
  simp only [setEntries, State.withTable_decode]

@[simp] theorem mirrorWrite_decode (k : CellKey) (n : Nat) (en : Enables) (w : Word) (s : State) : (mirrorWrite k n en w s).decode = s.decode := by
  unfold mirrorWrite
  (repeat' split) <;> simp only [setEntries_decode]

@[simp] theorem rewriteCell_decode (k : CellKey) (s : State) : (rewriteCell k s).decode = s.decode := by
  unfold rewriteCell
  (repeat' split) <;> simp only [count_decode, setEntries_decode]

@[simp] theorem countArrival_decode (o : Origin) (s : State) : (countArrival o s).decode = s.decode := by
  unfold countArrival
  (repeat' split) <;> simp only [countPort_decode]

@[simp] theorem allocate_decode (r : AllocationRequest) (s : State) : (allocate r s).decode = s.decode := by
  simp only [allocate, apply_ite State.decode, raise_decode, count_decode, countArrival_decode, State.withTable_decode, ite_self]

@[simp] theorem setSlot_decode (o : Nat) (q : Port) (x : Slot) (s : State) : (setSlot o q x s).decode = s.decode := by
  simp only [setSlot, setEntries_decode]

@[simp] theorem passSlot_decode (e : Entry) (q : Port) (r : Option Raw) (f : Flag) (s : State) : (passSlot e q r f s).decode = s.decode := by
  simp only [passSlot, raise_decode, countPort_decode, setSlot_decode]

@[simp] theorem patchSlot_decode (e : Entry) (q : Port) (r : Raw) (c : Computed) (s : State) : (patchSlot e q r c s).decode = s.decode := by
  simp only [patchSlot, countPort_decode, raiseComputed_decode, setSlot_decode]

@[simp] theorem computeSlot_decode (e : Entry) (q : Port) (r : Raw) (c : BitVec 64) (s : State) : (computeSlot e q r c s).decode = s.decode := by
  unfold computeSlot
  dsimp only
  split
  · rfl
  · split <;> simp only [setSlot_decode, patchSlot_decode]
  · split <;> simp only [passSlot_decode, patchSlot_decode]
  · split <;> simp only [passSlot_decode, patchSlot_decode, removeResponder_decode]

@[simp] theorem settleSlot_decode (e : Entry) (q : Port) (s : State) : (settleSlot e q s).decode = s.decode := by
  unfold settleSlot
  (repeat' split) <;> simp only [passSlot_decode, computeSlot_decode]

@[simp] theorem timeSlot_decode (e : Entry) (q : Port) (s : State) : (timeSlot e q s).decode = s.decode := by
  unfold timeSlot
  (repeat' split) <;> simp only [transmitHandoff_decode, setSlot_decode]

@[simp] theorem egressRead_decode (k : CellKey) (n : Nat) (q : Port) (s : State) : (egressRead k n q s).decode = s.decode := by
  unfold egressRead
  (repeat' split) <;> simp only [settleSlot_decode, timeSlot_decode]

@[simp] theorem emptyTable_decode (s : State) : (emptyTable s).decode = s.decode := by
  simp only [emptyTable, setEntries_decode]

@[simp] theorem setDiscState_decode (d : DisciplineState) (s : State) : (setDiscState d s).decode = s.decode := by
  simp only [setDiscState, apply_ite State.decode, request_decode, gatePulses_decode, State.withDisc_decode, ite_self]

@[simp] theorem startMissing_decode (s : State) : (startMissing s).decode = s.decode := by
  simp only [startMissing, State.withDisc_decode]

@[simp] theorem enterAcquire_decode (s : State) : (enterAcquire s).decode = s.decode := by
  simp only [enterAcquire, setDiscState_decode, State.withDisc_decode]

@[simp] theorem enterHoldover_decode (s : State) : (enterHoldover s).decode = s.decode := by
  simp only [enterHoldover, raise_decode, giveRho_decode, setDiscState_decode, State.withDisc_decode]

@[simp] theorem fallFreeRun_decode (s : State) : (fallFreeRun s).decode = s.decode := by
  simp only [fallFreeRun, raise_decode, setDiscState_decode, State.withDisc_decode]

@[simp] theorem toldOfStep_decode (s : State) : (toldOfStep s).decode = s.decode := by
  simp only [toldOfStep, apply_ite State.decode, enterAcquire_decode, ite_self]

@[simp] theorem disciplineOff_decode (s : State) : (disciplineOff s).decode = s.decode := by
  simp only [disciplineOff, setDiscState_decode, State.withDisc_decode]

@[simp] theorem disciplineOn_decode (s : State) : (disciplineOn s).decode = s.decode := by
  simp only [disciplineOn, setDiscState_decode, State.withDisc_decode]

@[simp] theorem disciplineMode_decode (s : State) : (disciplineMode s).decode = s.decode := by
  simp only [disciplineMode, apply_ite State.decode, startMissing_decode, State.withDisc_decode, ite_self]

@[simp] theorem disciplineExpected_decode (s : State) : (disciplineExpected s).decode = s.decode := by
  simp only [disciplineExpected, State.withDisc_decode]

@[simp] theorem swapDiscipline_decode (old : Profile) (s : State) : (swapDiscipline old s).decode = s.decode := by
  simp only [swapDiscipline, apply_ite State.decode, disciplineOff_decode, disciplineOn_decode, disciplineMode_decode, disciplineExpected_decode, ite_self]

@[simp] theorem restartDiscipline_decode (s : State) : (restartDiscipline s).decode = s.decode := by
  simp only [restartDiscipline, setDiscState_decode, State.withDisc_decode]

@[simp] theorem expireMissing_decode (s : State) : (expireMissing s).decode = s.decode := by
  unfold expireMissing
  dsimp only
  split <;> simp only [fallFreeRun_decode, enterHoldover_decode, State.withDisc_decode]

@[simp] theorem setStatus_decode (slot : Fin 16) (x : SlotStatus) (s : State) : (setStatus slot x s).decode = s.decode := by
  simp only [setStatus, State.withMonitor_decode]

@[simp] theorem rewriteSwapStatus_decode (slot : Fin 16) (r : CommandResult) (s : State) : (rewriteSwapStatus slot r s).decode = s.decode := by
  simp only [rewriteSwapStatus, apply_ite State.decode, request_decode, setStatus_decode, ite_self]

@[simp] theorem retireChanged_decode (s : State) : (retireChanged s).decode = s.decode := by
  simp only [retireChanged, setEntries_decode]

@[simp] theorem dropChanged_decode (s : State) : (dropChanged s).decode = s.decode := by
  simp only [dropChanged, State.withCandidates_decode]

@[simp] theorem exchangeBanks_decode (s : State) : (exchangeBanks s).decode = s.decode := by
  simp only [exchangeBanks, request_decode, State.withProfiles_decode]

@[simp] theorem cancelSwap_decode (s : State) : (cancelSwap s).decode = s.decode := by
  unfold cancelSwap
  (repeat' split) <;> simp only [request_decode, rewriteSwapStatus_decode, State.withProfiles_decode]

@[simp] theorem shiftWaiting_decode (a : Int) (s : State) : (shiftWaiting a s).decode = s.decode := by
  simp only [shiftWaiting, State.withDisc_decode]

@[simp] theorem piUpdate_decode (x : Int) (s : State) : (piUpdate x s).decode = s.decode := by
  simp only [piUpdate, giveRho_decode, giveRhoI_decode]

@[simp] theorem recordSample_decode (c : SampleClass) (x : Int) (o : SampleOrigin) (s : State) : (recordSample c x o s).decode = s.decode := by
  simp only [recordSample, State.withDisc_decode]

@[simp] theorem rejectUnordered_decode (o : SampleOrigin) (s : State) : (rejectUnordered o s).decode = s.decode := by
  simp only [rejectUnordered, raiseIf_decode, count_decode, recordSample_decode]

@[simp] theorem setLockCount_decode (n : Nat) (s : State) : (setLockCount n s).decode = s.decode := by
  simp only [setLockCount, apply_ite State.decode, setDiscState_decode, State.withDisc_decode, ite_self]

@[simp] theorem addReject_decode (s : State) : (addReject s).decode = s.decode := by
  simp only [addReject, apply_ite State.decode, enterAcquire_decode, State.withDisc_decode, ite_self]

@[simp] theorem answerLocked_decode (x : Int) (o : SampleOrigin) (s : State) : (answerLocked x o s).decode = s.decode := by
  unfold answerLocked
  rw [apply_ite State.decode, addReject_decode, raise_decode, count_decode, recordSample_decode, State.withDisc_decode,
    count_decode, recordSample_decode, piUpdate_decode, ite_self]

@[simp] theorem answerUnordered_decode (o : SampleOrigin) (s : State) : (answerUnordered o s).decode = s.decode := by
  unfold answerUnordered
  (repeat' split) <;> simp only [rejectUnordered_decode, addReject_decode, State.withDisc_decode]

@[simp] theorem recordLevel_decode (n : Fin 2) (l : Bool) (s : State) : (recordLevel n l s).decode = s.decode := by
  simp only [recordLevel, State.withCaptures_decode]

@[simp] theorem setCandidate_decode (n : Fin 7) (c : Option Candidate) (s : State) : (setCandidate n c s).decode = s.decode := by
  simp only [setCandidate, State.withCandidates_decode]

@[simp] theorem decideType_decode (n : Fin 7) (c : Candidate) (s : State) : (decideType n c s).1.decode = s.decode := by
  unfold decideType
  (repeat' split) <;> simp only [setCandidate_decode]

@[simp] theorem decideAllocation_decode (n : Fin 7) (c : Candidate) (s : State) : (decideAllocation n c s).1.decode = s.decode := by
  unfold decideAllocation
  repeat' (first | (dsimp only; split) | split)
  all_goals simp only [count_decode, allocate_decode, setCandidate_decode]

@[simp] theorem dropOthers_decode (k : CellKey) (own : Option (Fin 7)) (s : State) : (dropOthers k own s).decode = s.decode := by
  simp only [dropOthers, State.withCandidates_decode]

@[simp] theorem openWrite_decode (k : CellKey) (l : LaneClass) (en : Enables) (d : Word) (s : State) : (openWrite k l en d s).decode = s.decode := by
  unfold openWrite
  repeat' (first | (dsimp only; split) | split)
  all_goals simp only [setCandidate_decode, dropOthers_decode]

@[simp] theorem dropCandidates_decode (s : State) : (dropCandidates s).decode = s.decode := by
  simp only [dropCandidates, State.withCandidates_decode]

@[simp] theorem writeShadow_decode (slot : Fin 16) (n : Fin 7) (en : Enables) (d : Word) (s : State) : (writeShadow slot n en d s).decode = s.decode := by
  simp only [writeShadow, State.withMonitor_decode]

@[simp] theorem request_candidates (ks : List BlockKind) (s : State) : (request ks s).candidates = s.candidates := by
  simp only [request, apply_ite State.candidates, State.withReport_candidates, ite_self]

@[simp] theorem raise_candidates (f : Flag) (s : State) : (raise f s).candidates = s.candidates := by
  simp only [raise, request_candidates, State.withReport_candidates]

@[simp] theorem raiseIf_candidates (c : Bool) (f : Flag) (s : State) : (raiseIf c f s).candidates = s.candidates := by
  simp only [raiseIf, apply_ite State.candidates, raise_candidates, ite_self]

@[simp] theorem count_candidates (c : GlobalCounter) (s : State) : (count c s).candidates = s.candidates := by
  simp only [count, State.withReport_candidates]

@[simp] theorem countPort_candidates (p : Port) (c : PortCounter) (s : State) : (countPort p c s).candidates = s.candidates := by
  simp only [countPort, State.withReport_candidates]

@[simp] theorem giveRho_candidates (r : Int) (s : State) : (giveRho r s).candidates = s.candidates := by
  simp only [giveRho, State.withTime_candidates]

@[simp] theorem giveRhoI_candidates (r : Int) (s : State) : (giveRhoI r s).candidates = s.candidates := State.withDisc_candidates _ _

@[simp] theorem clampRates_candidates (s : State) : (clampRates s).candidates = s.candidates := by
  unfold clampRates
  simp only [giveRhoI_candidates, apply_ite State.candidates, giveRho_candidates, ite_self]

@[simp] theorem gatePulses_candidates (s : State) : (gatePulses s).candidates = s.candidates := by
  simp only [gatePulses, State.withPulses_candidates]

@[simp] theorem stepPulses_candidates (s : State) : (stepPulses s).candidates = s.candidates := by
  simp only [stepPulses, State.withPulses_candidates]

@[simp] theorem swapPulses_candidates (old : Profile) (s : State) : (swapPulses old s).candidates = s.candidates := by
  simp only [swapPulses, State.withPulses_candidates]

@[simp] theorem leadPulse_candidates (n : Fin 4) (s : State) : (leadPulse n s).candidates = s.candidates := by
  simp only [leadPulse, State.withPulses_candidates]

@[simp] theorem trailPulse_candidates (n : Fin 4) (s : State) : (trailPulse n s).candidates = s.candidates := by
  simp only [trailPulse, State.withPulses_candidates]

@[simp] theorem setDelay_candidates (p : Port) (d : PortDelay) (s : State) : (setDelay p d s).candidates = s.candidates := by
  simp only [setDelay, State.withDelays_candidates]

@[simp] theorem settleDelay_candidates (p : Port) (d : PortDelay) (s : State) : (settleDelay p d s).candidates = s.candidates := by
  unfold settleDelay
  simp only [apply_ite State.candidates, request_candidates, setDelay_candidates, ite_self]

@[simp] theorem transmitHandoff_candidates (q : Port) (n : BitVec 16) (t : Raw) (s : State) : (transmitHandoff q n t s).candidates = s.candidates := by
  unfold transmitHandoff
  (repeat' split) <;> simp only [raiseIf_candidates, setDelay_candidates]

@[simp] theorem responderHandoff_candidates (p : Port) (r : ResponderRecord) (s : State) : (responderHandoff p r s).candidates = s.candidates := by
  simp only [responderHandoff, setDelay_candidates]

@[simp] theorem removeResponder_candidates (q : Port) (n : BitVec 16) (i : Ident) (s : State) : (removeResponder q n i s).candidates = s.candidates := by
  simp only [removeResponder, setDelay_candidates]

@[simp] theorem removeProbe_candidates (p : Port) (n : BitVec 16) (s : State) : (removeProbe p n s).candidates = s.candidates := by
  simp only [removeProbe, setDelay_candidates]

@[simp] theorem rejectDelay_candidates (p : Port) (c : DelayClass) (s : State) : (rejectDelay p c s).candidates = s.candidates := by
  simp only [rejectDelay, raiseIf_candidates, countPort_candidates]

@[simp] theorem acceptDelay_candidates (p : Port) (x : Nat) (s : State) : (acceptDelay p x s).candidates = s.candidates := by
  simp only [acceptDelay, countPort_candidates, settleDelay_candidates]

@[simp] theorem takeDelaySample_candidates (p : Port) (t1 t4 : Raw) (c : BitVec 64) (s : State) : (takeDelaySample p t1 t4 c s).candidates = s.candidates := by
  unfold takeDelaySample
  split
  · exact rejectDelay_candidates _ _ _
  · dsimp only
    split
    · exact acceptDelay_candidates _ _ _
    · exact rejectDelay_candidates _ _ _

@[simp] theorem echoHandoff_candidates (p : Port) (n : BitVec 16) (c : BitVec 64) (t : Raw) (s : State) : (echoHandoff p n c t s).candidates = s.candidates := by
  unfold echoHandoff
  (repeat' split) <;> simp only [raise_candidates, removeProbe_candidates, takeDelaySample_candidates]

@[simp] theorem clearPort_candidates (p : Port) (s : State) : (clearPort p s).candidates = s.candidates := by
  simp only [clearPort, settleDelay_candidates]

@[simp] theorem clearPorts_candidates (ps : List Port) (s : State) : (clearPorts ps s).candidates = s.candidates := foldl_keeps State.candidates _ (fun s p => clearPort_candidates p s) ps s

@[simp] theorem swapDelay_candidates (old : Profile) (s : State) (p : Port) : (swapDelay old s p).candidates = s.candidates := by
  simp only [swapDelay, apply_ite State.candidates, settleDelay_candidates, clearPort_candidates, ite_self]

@[simp] theorem swapDelays_candidates (old : Profile) (s : State) : (swapDelays old s).candidates = s.candidates := foldl_keeps State.candidates _ (fun s p => swapDelay_candidates old s p) allPorts s

@[simp] theorem raiseComputed_candidates (o : Computed) (s : State) : (raiseComputed o s).candidates = s.candidates := by
  simp only [raiseComputed, raiseIf_candidates]

@[simp] theorem setEntries_candidates (es : List Entry) (s : State) : (setEntries es s).candidates = s.candidates := by
  simp only [setEntries, State.withTable_candidates]

@[simp] theorem mirrorWrite_candidates (k : CellKey) (n : Nat) (en : Enables) (w : Word) (s : State) : (mirrorWrite k n en w s).candidates = s.candidates := by
  unfold mirrorWrite
  (repeat' split) <;> simp only [setEntries_candidates]

@[simp] theorem rewriteCell_candidates (k : CellKey) (s : State) : (rewriteCell k s).candidates = s.candidates := by
  unfold rewriteCell
  (repeat' split) <;> simp only [count_candidates, setEntries_candidates]

@[simp] theorem countArrival_candidates (o : Origin) (s : State) : (countArrival o s).candidates = s.candidates := by
  unfold countArrival
  (repeat' split) <;> simp only [countPort_candidates]

@[simp] theorem allocate_candidates (r : AllocationRequest) (s : State) : (allocate r s).candidates = s.candidates := by
  simp only [allocate, apply_ite State.candidates, raise_candidates, count_candidates, countArrival_candidates, State.withTable_candidates, ite_self]

@[simp] theorem setSlot_candidates (o : Nat) (q : Port) (x : Slot) (s : State) : (setSlot o q x s).candidates = s.candidates := by
  simp only [setSlot, setEntries_candidates]

@[simp] theorem passSlot_candidates (e : Entry) (q : Port) (r : Option Raw) (f : Flag) (s : State) : (passSlot e q r f s).candidates = s.candidates := by
  simp only [passSlot, raise_candidates, countPort_candidates, setSlot_candidates]

@[simp] theorem patchSlot_candidates (e : Entry) (q : Port) (r : Raw) (c : Computed) (s : State) : (patchSlot e q r c s).candidates = s.candidates := by
  simp only [patchSlot, countPort_candidates, raiseComputed_candidates, setSlot_candidates]

@[simp] theorem computeSlot_candidates (e : Entry) (q : Port) (r : Raw) (c : BitVec 64) (s : State) : (computeSlot e q r c s).candidates = s.candidates := by
  unfold computeSlot
  dsimp only
  split
  · rfl
  · split <;> simp only [setSlot_candidates, patchSlot_candidates]
  · split <;> simp only [passSlot_candidates, patchSlot_candidates]
  · split <;> simp only [passSlot_candidates, patchSlot_candidates, removeResponder_candidates]

@[simp] theorem settleSlot_candidates (e : Entry) (q : Port) (s : State) : (settleSlot e q s).candidates = s.candidates := by
  unfold settleSlot
  (repeat' split) <;> simp only [passSlot_candidates, computeSlot_candidates]

@[simp] theorem timeSlot_candidates (e : Entry) (q : Port) (s : State) : (timeSlot e q s).candidates = s.candidates := by
  unfold timeSlot
  (repeat' split) <;> simp only [transmitHandoff_candidates, setSlot_candidates]

@[simp] theorem egressRead_candidates (k : CellKey) (n : Nat) (q : Port) (s : State) : (egressRead k n q s).candidates = s.candidates := by
  unfold egressRead
  (repeat' split) <;> simp only [settleSlot_candidates, timeSlot_candidates]

@[simp] theorem emptyTable_candidates (s : State) : (emptyTable s).candidates = s.candidates := by
  simp only [emptyTable, setEntries_candidates]

@[simp] theorem setDiscState_candidates (d : DisciplineState) (s : State) : (setDiscState d s).candidates = s.candidates := by
  simp only [setDiscState, apply_ite State.candidates, request_candidates, gatePulses_candidates, State.withDisc_candidates, ite_self]

@[simp] theorem startMissing_candidates (s : State) : (startMissing s).candidates = s.candidates := by
  simp only [startMissing, State.withDisc_candidates]

@[simp] theorem enterAcquire_candidates (s : State) : (enterAcquire s).candidates = s.candidates := by
  simp only [enterAcquire, setDiscState_candidates, State.withDisc_candidates]

@[simp] theorem enterHoldover_candidates (s : State) : (enterHoldover s).candidates = s.candidates := by
  simp only [enterHoldover, raise_candidates, giveRho_candidates, setDiscState_candidates, State.withDisc_candidates]

@[simp] theorem fallFreeRun_candidates (s : State) : (fallFreeRun s).candidates = s.candidates := by
  simp only [fallFreeRun, raise_candidates, setDiscState_candidates, State.withDisc_candidates]

@[simp] theorem toldOfStep_candidates (s : State) : (toldOfStep s).candidates = s.candidates := by
  simp only [toldOfStep, apply_ite State.candidates, enterAcquire_candidates, ite_self]

@[simp] theorem disciplineOff_candidates (s : State) : (disciplineOff s).candidates = s.candidates := by
  simp only [disciplineOff, setDiscState_candidates, State.withDisc_candidates]

@[simp] theorem disciplineOn_candidates (s : State) : (disciplineOn s).candidates = s.candidates := by
  simp only [disciplineOn, setDiscState_candidates, State.withDisc_candidates]

@[simp] theorem disciplineMode_candidates (s : State) : (disciplineMode s).candidates = s.candidates := by
  simp only [disciplineMode, apply_ite State.candidates, startMissing_candidates, State.withDisc_candidates, ite_self]

@[simp] theorem disciplineExpected_candidates (s : State) : (disciplineExpected s).candidates = s.candidates := by
  simp only [disciplineExpected, State.withDisc_candidates]

@[simp] theorem swapDiscipline_candidates (old : Profile) (s : State) : (swapDiscipline old s).candidates = s.candidates := by
  simp only [swapDiscipline, apply_ite State.candidates, disciplineOff_candidates, disciplineOn_candidates, disciplineMode_candidates, disciplineExpected_candidates, ite_self]

@[simp] theorem restartDiscipline_candidates (s : State) : (restartDiscipline s).candidates = s.candidates := by
  simp only [restartDiscipline, setDiscState_candidates, State.withDisc_candidates]

@[simp] theorem expireMissing_candidates (s : State) : (expireMissing s).candidates = s.candidates := by
  unfold expireMissing
  dsimp only
  split <;> simp only [fallFreeRun_candidates, enterHoldover_candidates, State.withDisc_candidates]

@[simp] theorem setStatus_candidates (slot : Fin 16) (x : SlotStatus) (s : State) : (setStatus slot x s).candidates = s.candidates := by
  simp only [setStatus, State.withMonitor_candidates]

@[simp] theorem rewriteSwapStatus_candidates (slot : Fin 16) (r : CommandResult) (s : State) : (rewriteSwapStatus slot r s).candidates = s.candidates := by
  simp only [rewriteSwapStatus, apply_ite State.candidates, request_candidates, setStatus_candidates, ite_self]

@[simp] theorem retireChanged_candidates (s : State) : (retireChanged s).candidates = s.candidates := by
  simp only [retireChanged, setEntries_candidates]

@[simp] theorem exchangeBanks_candidates (s : State) : (exchangeBanks s).candidates = s.candidates := by
  simp only [exchangeBanks, request_candidates, State.withProfiles_candidates]

@[simp] theorem cancelSwap_candidates (s : State) : (cancelSwap s).candidates = s.candidates := by
  unfold cancelSwap
  (repeat' split) <;> simp only [request_candidates, rewriteSwapStatus_candidates, State.withProfiles_candidates]

@[simp] theorem shiftWaiting_candidates (a : Int) (s : State) : (shiftWaiting a s).candidates = s.candidates := by
  simp only [shiftWaiting, State.withDisc_candidates]

@[simp] theorem piUpdate_candidates (x : Int) (s : State) : (piUpdate x s).candidates = s.candidates := by
  simp only [piUpdate, giveRho_candidates, giveRhoI_candidates]

@[simp] theorem recordSample_candidates (c : SampleClass) (x : Int) (o : SampleOrigin) (s : State) : (recordSample c x o s).candidates = s.candidates := by
  simp only [recordSample, State.withDisc_candidates]

@[simp] theorem rejectUnordered_candidates (o : SampleOrigin) (s : State) : (rejectUnordered o s).candidates = s.candidates := by
  simp only [rejectUnordered, raiseIf_candidates, count_candidates, recordSample_candidates]

@[simp] theorem setLockCount_candidates (n : Nat) (s : State) : (setLockCount n s).candidates = s.candidates := by
  simp only [setLockCount, apply_ite State.candidates, setDiscState_candidates, State.withDisc_candidates, ite_self]

@[simp] theorem addReject_candidates (s : State) : (addReject s).candidates = s.candidates := by
  simp only [addReject, apply_ite State.candidates, enterAcquire_candidates, State.withDisc_candidates, ite_self]

@[simp] theorem answerLocked_candidates (x : Int) (o : SampleOrigin) (s : State) : (answerLocked x o s).candidates = s.candidates := by
  unfold answerLocked
  rw [apply_ite State.candidates, addReject_candidates, raise_candidates, count_candidates, recordSample_candidates, State.withDisc_candidates,
    count_candidates, recordSample_candidates, piUpdate_candidates, ite_self]

@[simp] theorem answerUnordered_candidates (o : SampleOrigin) (s : State) : (answerUnordered o s).candidates = s.candidates := by
  unfold answerUnordered
  (repeat' split) <;> simp only [rejectUnordered_candidates, addReject_candidates, State.withDisc_candidates]

@[simp] theorem recordLevel_candidates (n : Fin 2) (l : Bool) (s : State) : (recordLevel n l s).candidates = s.candidates := by
  simp only [recordLevel, State.withCaptures_candidates]

@[simp] theorem writeShadow_candidates (slot : Fin 16) (n : Fin 7) (en : Enables) (d : Word) (s : State) : (writeShadow slot n en d s).candidates = s.candidates := by
  simp only [writeShadow, State.withMonitor_candidates]

@[simp] theorem request_table (ks : List BlockKind) (s : State) : (request ks s).table = s.table := by
  simp only [request, apply_ite State.table, State.withReport_table, ite_self]

@[simp] theorem raise_table (f : Flag) (s : State) : (raise f s).table = s.table := by
  simp only [raise, request_table, State.withReport_table]

@[simp] theorem raiseIf_table (c : Bool) (f : Flag) (s : State) : (raiseIf c f s).table = s.table := by
  simp only [raiseIf, apply_ite State.table, raise_table, ite_self]

@[simp] theorem count_table (c : GlobalCounter) (s : State) : (count c s).table = s.table := by
  simp only [count, State.withReport_table]

@[simp] theorem countPort_table (p : Port) (c : PortCounter) (s : State) : (countPort p c s).table = s.table := by
  simp only [countPort, State.withReport_table]

@[simp] theorem giveRho_table (r : Int) (s : State) : (giveRho r s).table = s.table := by
  simp only [giveRho, State.withTime_table]

@[simp] theorem giveRhoI_table (r : Int) (s : State) : (giveRhoI r s).table = s.table := State.withDisc_table _ _

@[simp] theorem clampRates_table (s : State) : (clampRates s).table = s.table := by
  unfold clampRates
  simp only [giveRhoI_table, apply_ite State.table, giveRho_table, ite_self]

@[simp] theorem gatePulses_table (s : State) : (gatePulses s).table = s.table := by
  simp only [gatePulses, State.withPulses_table]

@[simp] theorem stepPulses_table (s : State) : (stepPulses s).table = s.table := by
  simp only [stepPulses, State.withPulses_table]

@[simp] theorem swapPulses_table (old : Profile) (s : State) : (swapPulses old s).table = s.table := by
  simp only [swapPulses, State.withPulses_table]

@[simp] theorem leadPulse_table (n : Fin 4) (s : State) : (leadPulse n s).table = s.table := by
  simp only [leadPulse, State.withPulses_table]

@[simp] theorem trailPulse_table (n : Fin 4) (s : State) : (trailPulse n s).table = s.table := by
  simp only [trailPulse, State.withPulses_table]

@[simp] theorem setDelay_table (p : Port) (d : PortDelay) (s : State) : (setDelay p d s).table = s.table := by
  simp only [setDelay, State.withDelays_table]

@[simp] theorem settleDelay_table (p : Port) (d : PortDelay) (s : State) : (settleDelay p d s).table = s.table := by
  unfold settleDelay
  simp only [apply_ite State.table, request_table, setDelay_table, ite_self]

@[simp] theorem transmitHandoff_table (q : Port) (n : BitVec 16) (t : Raw) (s : State) : (transmitHandoff q n t s).table = s.table := by
  unfold transmitHandoff
  (repeat' split) <;> simp only [raiseIf_table, setDelay_table]

@[simp] theorem responderHandoff_table (p : Port) (r : ResponderRecord) (s : State) : (responderHandoff p r s).table = s.table := by
  simp only [responderHandoff, setDelay_table]

@[simp] theorem removeResponder_table (q : Port) (n : BitVec 16) (i : Ident) (s : State) : (removeResponder q n i s).table = s.table := by
  simp only [removeResponder, setDelay_table]

@[simp] theorem removeProbe_table (p : Port) (n : BitVec 16) (s : State) : (removeProbe p n s).table = s.table := by
  simp only [removeProbe, setDelay_table]

@[simp] theorem rejectDelay_table (p : Port) (c : DelayClass) (s : State) : (rejectDelay p c s).table = s.table := by
  simp only [rejectDelay, raiseIf_table, countPort_table]

@[simp] theorem acceptDelay_table (p : Port) (x : Nat) (s : State) : (acceptDelay p x s).table = s.table := by
  simp only [acceptDelay, countPort_table, settleDelay_table]

@[simp] theorem takeDelaySample_table (p : Port) (t1 t4 : Raw) (c : BitVec 64) (s : State) : (takeDelaySample p t1 t4 c s).table = s.table := by
  unfold takeDelaySample
  split
  · exact rejectDelay_table _ _ _
  · dsimp only
    split
    · exact acceptDelay_table _ _ _
    · exact rejectDelay_table _ _ _

@[simp] theorem echoHandoff_table (p : Port) (n : BitVec 16) (c : BitVec 64) (t : Raw) (s : State) : (echoHandoff p n c t s).table = s.table := by
  unfold echoHandoff
  (repeat' split) <;> simp only [raise_table, removeProbe_table, takeDelaySample_table]

@[simp] theorem clearPort_table (p : Port) (s : State) : (clearPort p s).table = s.table := by
  simp only [clearPort, settleDelay_table]

@[simp] theorem clearPorts_table (ps : List Port) (s : State) : (clearPorts ps s).table = s.table := foldl_keeps State.table _ (fun s p => clearPort_table p s) ps s

@[simp] theorem swapDelay_table (old : Profile) (s : State) (p : Port) : (swapDelay old s p).table = s.table := by
  simp only [swapDelay, apply_ite State.table, settleDelay_table, clearPort_table, ite_self]

@[simp] theorem swapDelays_table (old : Profile) (s : State) : (swapDelays old s).table = s.table := foldl_keeps State.table _ (fun s p => swapDelay_table old s p) allPorts s

@[simp] theorem raiseComputed_table (o : Computed) (s : State) : (raiseComputed o s).table = s.table := by
  simp only [raiseComputed, raiseIf_table]

@[simp] theorem countArrival_table (o : Origin) (s : State) : (countArrival o s).table = s.table := by
  unfold countArrival
  (repeat' split) <;> simp only [countPort_table]

@[simp] theorem setDiscState_table (d : DisciplineState) (s : State) : (setDiscState d s).table = s.table := by
  simp only [setDiscState, apply_ite State.table, request_table, gatePulses_table, State.withDisc_table, ite_self]

@[simp] theorem startMissing_table (s : State) : (startMissing s).table = s.table := by
  simp only [startMissing, State.withDisc_table]

@[simp] theorem enterAcquire_table (s : State) : (enterAcquire s).table = s.table := by
  simp only [enterAcquire, setDiscState_table, State.withDisc_table]

@[simp] theorem enterHoldover_table (s : State) : (enterHoldover s).table = s.table := by
  simp only [enterHoldover, raise_table, giveRho_table, setDiscState_table, State.withDisc_table]

@[simp] theorem fallFreeRun_table (s : State) : (fallFreeRun s).table = s.table := by
  simp only [fallFreeRun, raise_table, setDiscState_table, State.withDisc_table]

@[simp] theorem toldOfStep_table (s : State) : (toldOfStep s).table = s.table := by
  simp only [toldOfStep, apply_ite State.table, enterAcquire_table, ite_self]

@[simp] theorem disciplineOff_table (s : State) : (disciplineOff s).table = s.table := by
  simp only [disciplineOff, setDiscState_table, State.withDisc_table]

@[simp] theorem disciplineOn_table (s : State) : (disciplineOn s).table = s.table := by
  simp only [disciplineOn, setDiscState_table, State.withDisc_table]

@[simp] theorem disciplineMode_table (s : State) : (disciplineMode s).table = s.table := by
  simp only [disciplineMode, apply_ite State.table, startMissing_table, State.withDisc_table, ite_self]

@[simp] theorem disciplineExpected_table (s : State) : (disciplineExpected s).table = s.table := by
  simp only [disciplineExpected, State.withDisc_table]

@[simp] theorem swapDiscipline_table (old : Profile) (s : State) : (swapDiscipline old s).table = s.table := by
  simp only [swapDiscipline, apply_ite State.table, disciplineOff_table, disciplineOn_table, disciplineMode_table, disciplineExpected_table, ite_self]

@[simp] theorem restartDiscipline_table (s : State) : (restartDiscipline s).table = s.table := by
  simp only [restartDiscipline, setDiscState_table, State.withDisc_table]

@[simp] theorem expireMissing_table (s : State) : (expireMissing s).table = s.table := by
  unfold expireMissing
  dsimp only
  split <;> simp only [fallFreeRun_table, enterHoldover_table, State.withDisc_table]

@[simp] theorem setStatus_table (slot : Fin 16) (x : SlotStatus) (s : State) : (setStatus slot x s).table = s.table := by
  simp only [setStatus, State.withMonitor_table]

@[simp] theorem rewriteSwapStatus_table (slot : Fin 16) (r : CommandResult) (s : State) : (rewriteSwapStatus slot r s).table = s.table := by
  simp only [rewriteSwapStatus, apply_ite State.table, request_table, setStatus_table, ite_self]

@[simp] theorem dropChanged_table (s : State) : (dropChanged s).table = s.table := by
  simp only [dropChanged, State.withCandidates_table]

@[simp] theorem exchangeBanks_table (s : State) : (exchangeBanks s).table = s.table := by
  simp only [exchangeBanks, request_table, State.withProfiles_table]

@[simp] theorem cancelSwap_table (s : State) : (cancelSwap s).table = s.table := by
  unfold cancelSwap
  (repeat' split) <;> simp only [request_table, rewriteSwapStatus_table, State.withProfiles_table]

@[simp] theorem shiftWaiting_table (a : Int) (s : State) : (shiftWaiting a s).table = s.table := by
  simp only [shiftWaiting, State.withDisc_table]

@[simp] theorem piUpdate_table (x : Int) (s : State) : (piUpdate x s).table = s.table := by
  simp only [piUpdate, giveRho_table, giveRhoI_table]

@[simp] theorem recordSample_table (c : SampleClass) (x : Int) (o : SampleOrigin) (s : State) : (recordSample c x o s).table = s.table := by
  simp only [recordSample, State.withDisc_table]

@[simp] theorem rejectUnordered_table (o : SampleOrigin) (s : State) : (rejectUnordered o s).table = s.table := by
  simp only [rejectUnordered, raiseIf_table, count_table, recordSample_table]

@[simp] theorem setLockCount_table (n : Nat) (s : State) : (setLockCount n s).table = s.table := by
  simp only [setLockCount, apply_ite State.table, setDiscState_table, State.withDisc_table, ite_self]

@[simp] theorem addReject_table (s : State) : (addReject s).table = s.table := by
  simp only [addReject, apply_ite State.table, enterAcquire_table, State.withDisc_table, ite_self]

@[simp] theorem answerLocked_table (x : Int) (o : SampleOrigin) (s : State) : (answerLocked x o s).table = s.table := by
  unfold answerLocked
  rw [apply_ite State.table, addReject_table, raise_table, count_table, recordSample_table, State.withDisc_table,
    count_table, recordSample_table, piUpdate_table, ite_self]

@[simp] theorem answerUnordered_table (o : SampleOrigin) (s : State) : (answerUnordered o s).table = s.table := by
  unfold answerUnordered
  (repeat' split) <;> simp only [rejectUnordered_table, addReject_table, State.withDisc_table]

@[simp] theorem recordLevel_table (n : Fin 2) (l : Bool) (s : State) : (recordLevel n l s).table = s.table := by
  simp only [recordLevel, State.withCaptures_table]

@[simp] theorem setCandidate_table (n : Fin 7) (c : Option Candidate) (s : State) : (setCandidate n c s).table = s.table := by
  simp only [setCandidate, State.withCandidates_table]

@[simp] theorem decideType_table (n : Fin 7) (c : Candidate) (s : State) : (decideType n c s).1.table = s.table := by
  unfold decideType
  (repeat' split) <;> simp only [setCandidate_table]

@[simp] theorem dropOthers_table (k : CellKey) (own : Option (Fin 7)) (s : State) : (dropOthers k own s).table = s.table := by
  simp only [dropOthers, State.withCandidates_table]

@[simp] theorem openWrite_table (k : CellKey) (l : LaneClass) (en : Enables) (d : Word) (s : State) : (openWrite k l en d s).table = s.table := by
  unfold openWrite
  repeat' (first | (dsimp only; split) | split)
  all_goals simp only [setCandidate_table, dropOthers_table]

@[simp] theorem dropCandidates_table (s : State) : (dropCandidates s).table = s.table := by
  simp only [dropCandidates, State.withCandidates_table]

@[simp] theorem writeShadow_table (slot : Fin 16) (n : Fin 7) (en : Enables) (d : Word) (s : State) : (writeShadow slot n en d s).table = s.table := by
  simp only [writeShadow, State.withMonitor_table]

@[simp] theorem request_delays (ks : List BlockKind) (s : State) : (request ks s).delays = s.delays := by
  simp only [request, apply_ite State.delays, State.withReport_delays, ite_self]

@[simp] theorem raise_delays (f : Flag) (s : State) : (raise f s).delays = s.delays := by
  simp only [raise, request_delays, State.withReport_delays]

@[simp] theorem raiseIf_delays (c : Bool) (f : Flag) (s : State) : (raiseIf c f s).delays = s.delays := by
  simp only [raiseIf, apply_ite State.delays, raise_delays, ite_self]

@[simp] theorem count_delays (c : GlobalCounter) (s : State) : (count c s).delays = s.delays := by
  simp only [count, State.withReport_delays]

@[simp] theorem countPort_delays (p : Port) (c : PortCounter) (s : State) : (countPort p c s).delays = s.delays := by
  simp only [countPort, State.withReport_delays]

@[simp] theorem giveRho_delays (r : Int) (s : State) : (giveRho r s).delays = s.delays := by
  simp only [giveRho, State.withTime_delays]

@[simp] theorem giveRhoI_delays (r : Int) (s : State) : (giveRhoI r s).delays = s.delays := State.withDisc_delays _ _

@[simp] theorem clampRates_delays (s : State) : (clampRates s).delays = s.delays := by
  unfold clampRates
  simp only [giveRhoI_delays, apply_ite State.delays, giveRho_delays, ite_self]

@[simp] theorem gatePulses_delays (s : State) : (gatePulses s).delays = s.delays := by
  simp only [gatePulses, State.withPulses_delays]

@[simp] theorem stepPulses_delays (s : State) : (stepPulses s).delays = s.delays := by
  simp only [stepPulses, State.withPulses_delays]

@[simp] theorem swapPulses_delays (old : Profile) (s : State) : (swapPulses old s).delays = s.delays := by
  simp only [swapPulses, State.withPulses_delays]

@[simp] theorem leadPulse_delays (n : Fin 4) (s : State) : (leadPulse n s).delays = s.delays := by
  simp only [leadPulse, State.withPulses_delays]

@[simp] theorem trailPulse_delays (n : Fin 4) (s : State) : (trailPulse n s).delays = s.delays := by
  simp only [trailPulse, State.withPulses_delays]

@[simp] theorem rejectDelay_delays (p : Port) (c : DelayClass) (s : State) : (rejectDelay p c s).delays = s.delays := by
  simp only [rejectDelay, raiseIf_delays, countPort_delays]

@[simp] theorem raiseComputed_delays (o : Computed) (s : State) : (raiseComputed o s).delays = s.delays := by
  simp only [raiseComputed, raiseIf_delays]

@[simp] theorem setEntries_delays (es : List Entry) (s : State) : (setEntries es s).delays = s.delays := by
  simp only [setEntries, State.withTable_delays]

@[simp] theorem mirrorWrite_delays (k : CellKey) (n : Nat) (en : Enables) (w : Word) (s : State) : (mirrorWrite k n en w s).delays = s.delays := by
  unfold mirrorWrite
  (repeat' split) <;> simp only [setEntries_delays]

@[simp] theorem rewriteCell_delays (k : CellKey) (s : State) : (rewriteCell k s).delays = s.delays := by
  unfold rewriteCell
  (repeat' split) <;> simp only [count_delays, setEntries_delays]

@[simp] theorem countArrival_delays (o : Origin) (s : State) : (countArrival o s).delays = s.delays := by
  unfold countArrival
  (repeat' split) <;> simp only [countPort_delays]

@[simp] theorem allocate_delays (r : AllocationRequest) (s : State) : (allocate r s).delays = s.delays := by
  simp only [allocate, apply_ite State.delays, raise_delays, count_delays, countArrival_delays, State.withTable_delays, ite_self]

@[simp] theorem setSlot_delays (o : Nat) (q : Port) (x : Slot) (s : State) : (setSlot o q x s).delays = s.delays := by
  simp only [setSlot, setEntries_delays]

@[simp] theorem passSlot_delays (e : Entry) (q : Port) (r : Option Raw) (f : Flag) (s : State) : (passSlot e q r f s).delays = s.delays := by
  simp only [passSlot, raise_delays, countPort_delays, setSlot_delays]

@[simp] theorem patchSlot_delays (e : Entry) (q : Port) (r : Raw) (c : Computed) (s : State) : (patchSlot e q r c s).delays = s.delays := by
  simp only [patchSlot, countPort_delays, raiseComputed_delays, setSlot_delays]

@[simp] theorem emptyTable_delays (s : State) : (emptyTable s).delays = s.delays := by
  simp only [emptyTable, setEntries_delays]

@[simp] theorem setDiscState_delays (d : DisciplineState) (s : State) : (setDiscState d s).delays = s.delays := by
  simp only [setDiscState, apply_ite State.delays, request_delays, gatePulses_delays, State.withDisc_delays, ite_self]

@[simp] theorem startMissing_delays (s : State) : (startMissing s).delays = s.delays := by
  simp only [startMissing, State.withDisc_delays]

@[simp] theorem enterAcquire_delays (s : State) : (enterAcquire s).delays = s.delays := by
  simp only [enterAcquire, setDiscState_delays, State.withDisc_delays]

@[simp] theorem enterHoldover_delays (s : State) : (enterHoldover s).delays = s.delays := by
  simp only [enterHoldover, raise_delays, giveRho_delays, setDiscState_delays, State.withDisc_delays]

@[simp] theorem fallFreeRun_delays (s : State) : (fallFreeRun s).delays = s.delays := by
  simp only [fallFreeRun, raise_delays, setDiscState_delays, State.withDisc_delays]

@[simp] theorem toldOfStep_delays (s : State) : (toldOfStep s).delays = s.delays := by
  simp only [toldOfStep, apply_ite State.delays, enterAcquire_delays, ite_self]

@[simp] theorem disciplineOff_delays (s : State) : (disciplineOff s).delays = s.delays := by
  simp only [disciplineOff, setDiscState_delays, State.withDisc_delays]

@[simp] theorem disciplineOn_delays (s : State) : (disciplineOn s).delays = s.delays := by
  simp only [disciplineOn, setDiscState_delays, State.withDisc_delays]

@[simp] theorem disciplineMode_delays (s : State) : (disciplineMode s).delays = s.delays := by
  simp only [disciplineMode, apply_ite State.delays, startMissing_delays, State.withDisc_delays, ite_self]

@[simp] theorem disciplineExpected_delays (s : State) : (disciplineExpected s).delays = s.delays := by
  simp only [disciplineExpected, State.withDisc_delays]

@[simp] theorem swapDiscipline_delays (old : Profile) (s : State) : (swapDiscipline old s).delays = s.delays := by
  simp only [swapDiscipline, apply_ite State.delays, disciplineOff_delays, disciplineOn_delays, disciplineMode_delays, disciplineExpected_delays, ite_self]

@[simp] theorem restartDiscipline_delays (s : State) : (restartDiscipline s).delays = s.delays := by
  simp only [restartDiscipline, setDiscState_delays, State.withDisc_delays]

@[simp] theorem expireMissing_delays (s : State) : (expireMissing s).delays = s.delays := by
  unfold expireMissing
  dsimp only
  split <;> simp only [fallFreeRun_delays, enterHoldover_delays, State.withDisc_delays]

@[simp] theorem setStatus_delays (slot : Fin 16) (x : SlotStatus) (s : State) : (setStatus slot x s).delays = s.delays := by
  simp only [setStatus, State.withMonitor_delays]

@[simp] theorem rewriteSwapStatus_delays (slot : Fin 16) (r : CommandResult) (s : State) : (rewriteSwapStatus slot r s).delays = s.delays := by
  simp only [rewriteSwapStatus, apply_ite State.delays, request_delays, setStatus_delays, ite_self]

@[simp] theorem retireChanged_delays (s : State) : (retireChanged s).delays = s.delays := by
  simp only [retireChanged, setEntries_delays]

@[simp] theorem dropChanged_delays (s : State) : (dropChanged s).delays = s.delays := by
  simp only [dropChanged, State.withCandidates_delays]

@[simp] theorem decodeChange_delays (s : State) : (decodeChange s).delays = s.delays := by
  simp only [decodeChange, apply_ite State.delays, retireChanged_delays, dropChanged_delays, State.withDecode_delays, ite_self]

@[simp] theorem exchangeBanks_delays (s : State) : (exchangeBanks s).delays = s.delays := by
  simp only [exchangeBanks, request_delays, State.withProfiles_delays]

@[simp] theorem cancelSwap_delays (s : State) : (cancelSwap s).delays = s.delays := by
  unfold cancelSwap
  (repeat' split) <;> simp only [request_delays, rewriteSwapStatus_delays, State.withProfiles_delays]

@[simp] theorem shiftWaiting_delays (a : Int) (s : State) : (shiftWaiting a s).delays = s.delays := by
  simp only [shiftWaiting, State.withDisc_delays]

@[simp] theorem piUpdate_delays (x : Int) (s : State) : (piUpdate x s).delays = s.delays := by
  simp only [piUpdate, giveRho_delays, giveRhoI_delays]

@[simp] theorem recordSample_delays (c : SampleClass) (x : Int) (o : SampleOrigin) (s : State) : (recordSample c x o s).delays = s.delays := by
  simp only [recordSample, State.withDisc_delays]

@[simp] theorem rejectUnordered_delays (o : SampleOrigin) (s : State) : (rejectUnordered o s).delays = s.delays := by
  simp only [rejectUnordered, raiseIf_delays, count_delays, recordSample_delays]

@[simp] theorem setLockCount_delays (n : Nat) (s : State) : (setLockCount n s).delays = s.delays := by
  simp only [setLockCount, apply_ite State.delays, setDiscState_delays, State.withDisc_delays, ite_self]

@[simp] theorem addReject_delays (s : State) : (addReject s).delays = s.delays := by
  simp only [addReject, apply_ite State.delays, enterAcquire_delays, State.withDisc_delays, ite_self]

@[simp] theorem answerLocked_delays (x : Int) (o : SampleOrigin) (s : State) : (answerLocked x o s).delays = s.delays := by
  unfold answerLocked
  rw [apply_ite State.delays, addReject_delays, raise_delays, count_delays, recordSample_delays, State.withDisc_delays,
    count_delays, recordSample_delays, piUpdate_delays, ite_self]

@[simp] theorem answerUnordered_delays (o : SampleOrigin) (s : State) : (answerUnordered o s).delays = s.delays := by
  unfold answerUnordered
  (repeat' split) <;> simp only [rejectUnordered_delays, addReject_delays, State.withDisc_delays]

@[simp] theorem recordLevel_delays (n : Fin 2) (l : Bool) (s : State) : (recordLevel n l s).delays = s.delays := by
  simp only [recordLevel, State.withCaptures_delays]

@[simp] theorem setCandidate_delays (n : Fin 7) (c : Option Candidate) (s : State) : (setCandidate n c s).delays = s.delays := by
  simp only [setCandidate, State.withCandidates_delays]

@[simp] theorem decideType_delays (n : Fin 7) (c : Candidate) (s : State) : (decideType n c s).1.delays = s.delays := by
  unfold decideType
  (repeat' split) <;> simp only [setCandidate_delays]

@[simp] theorem decideAllocation_delays (n : Fin 7) (c : Candidate) (s : State) : (decideAllocation n c s).1.delays = s.delays := by
  unfold decideAllocation
  repeat' (first | (dsimp only; split) | split)
  all_goals simp only [count_delays, allocate_delays, setCandidate_delays]

@[simp] theorem dropOthers_delays (k : CellKey) (own : Option (Fin 7)) (s : State) : (dropOthers k own s).delays = s.delays := by
  simp only [dropOthers, State.withCandidates_delays]

@[simp] theorem openWrite_delays (k : CellKey) (l : LaneClass) (en : Enables) (d : Word) (s : State) : (openWrite k l en d s).delays = s.delays := by
  unfold openWrite
  repeat' (first | (dsimp only; split) | split)
  all_goals simp only [setCandidate_delays, dropOthers_delays]

@[simp] theorem dropCandidates_delays (s : State) : (dropCandidates s).delays = s.delays := by
  simp only [dropCandidates, State.withCandidates_delays]

@[simp] theorem writeShadow_delays (slot : Fin 16) (n : Fin 7) (en : Enables) (d : Word) (s : State) : (writeShadow slot n en d s).delays = s.delays := by
  simp only [writeShadow, State.withMonitor_delays]

@[simp] theorem request_time (ks : List BlockKind) (s : State) : (request ks s).time = s.time := by
  simp only [request, apply_ite State.time, State.withReport_time, ite_self]

@[simp] theorem raise_time (f : Flag) (s : State) : (raise f s).time = s.time := by
  simp only [raise, request_time, State.withReport_time]

@[simp] theorem raiseIf_time (c : Bool) (f : Flag) (s : State) : (raiseIf c f s).time = s.time := by
  simp only [raiseIf, apply_ite State.time, raise_time, ite_self]

@[simp] theorem count_time (c : GlobalCounter) (s : State) : (count c s).time = s.time := by
  simp only [count, State.withReport_time]

@[simp] theorem countPort_time (p : Port) (c : PortCounter) (s : State) : (countPort p c s).time = s.time := by
  simp only [countPort, State.withReport_time]

@[simp] theorem giveRhoI_time (r : Int) (s : State) : (giveRhoI r s).time = s.time := State.withDisc_time _ _

@[simp] theorem gatePulses_time (s : State) : (gatePulses s).time = s.time := by
  simp only [gatePulses, State.withPulses_time]

@[simp] theorem stepPulses_time (s : State) : (stepPulses s).time = s.time := by
  simp only [stepPulses, State.withPulses_time]

@[simp] theorem swapPulses_time (old : Profile) (s : State) : (swapPulses old s).time = s.time := by
  simp only [swapPulses, State.withPulses_time]

@[simp] theorem leadPulse_time (n : Fin 4) (s : State) : (leadPulse n s).time = s.time := by
  simp only [leadPulse, State.withPulses_time]

@[simp] theorem trailPulse_time (n : Fin 4) (s : State) : (trailPulse n s).time = s.time := by
  simp only [trailPulse, State.withPulses_time]

@[simp] theorem setDelay_time (p : Port) (d : PortDelay) (s : State) : (setDelay p d s).time = s.time := by
  simp only [setDelay, State.withDelays_time]

@[simp] theorem settleDelay_time (p : Port) (d : PortDelay) (s : State) : (settleDelay p d s).time = s.time := by
  unfold settleDelay
  simp only [apply_ite State.time, request_time, setDelay_time, ite_self]

@[simp] theorem transmitHandoff_time (q : Port) (n : BitVec 16) (t : Raw) (s : State) : (transmitHandoff q n t s).time = s.time := by
  unfold transmitHandoff
  (repeat' split) <;> simp only [raiseIf_time, setDelay_time]

@[simp] theorem responderHandoff_time (p : Port) (r : ResponderRecord) (s : State) : (responderHandoff p r s).time = s.time := by
  simp only [responderHandoff, setDelay_time]

@[simp] theorem removeResponder_time (q : Port) (n : BitVec 16) (i : Ident) (s : State) : (removeResponder q n i s).time = s.time := by
  simp only [removeResponder, setDelay_time]

@[simp] theorem removeProbe_time (p : Port) (n : BitVec 16) (s : State) : (removeProbe p n s).time = s.time := by
  simp only [removeProbe, setDelay_time]

@[simp] theorem rejectDelay_time (p : Port) (c : DelayClass) (s : State) : (rejectDelay p c s).time = s.time := by
  simp only [rejectDelay, raiseIf_time, countPort_time]

@[simp] theorem acceptDelay_time (p : Port) (x : Nat) (s : State) : (acceptDelay p x s).time = s.time := by
  simp only [acceptDelay, countPort_time, settleDelay_time]

@[simp] theorem takeDelaySample_time (p : Port) (t1 t4 : Raw) (c : BitVec 64) (s : State) : (takeDelaySample p t1 t4 c s).time = s.time := by
  unfold takeDelaySample
  split
  · exact rejectDelay_time _ _ _
  · dsimp only
    split
    · exact acceptDelay_time _ _ _
    · exact rejectDelay_time _ _ _

@[simp] theorem echoHandoff_time (p : Port) (n : BitVec 16) (c : BitVec 64) (t : Raw) (s : State) : (echoHandoff p n c t s).time = s.time := by
  unfold echoHandoff
  (repeat' split) <;> simp only [raise_time, removeProbe_time, takeDelaySample_time]

@[simp] theorem clearPort_time (p : Port) (s : State) : (clearPort p s).time = s.time := by
  simp only [clearPort, settleDelay_time]

@[simp] theorem clearPorts_time (ps : List Port) (s : State) : (clearPorts ps s).time = s.time := foldl_keeps State.time _ (fun s p => clearPort_time p s) ps s

@[simp] theorem swapDelay_time (old : Profile) (s : State) (p : Port) : (swapDelay old s p).time = s.time := by
  simp only [swapDelay, apply_ite State.time, settleDelay_time, clearPort_time, ite_self]

@[simp] theorem swapDelays_time (old : Profile) (s : State) : (swapDelays old s).time = s.time := foldl_keeps State.time _ (fun s p => swapDelay_time old s p) allPorts s

@[simp] theorem raiseComputed_time (o : Computed) (s : State) : (raiseComputed o s).time = s.time := by
  simp only [raiseComputed, raiseIf_time]

@[simp] theorem setEntries_time (es : List Entry) (s : State) : (setEntries es s).time = s.time := by
  simp only [setEntries, State.withTable_time]

@[simp] theorem mirrorWrite_time (k : CellKey) (n : Nat) (en : Enables) (w : Word) (s : State) : (mirrorWrite k n en w s).time = s.time := by
  unfold mirrorWrite
  (repeat' split) <;> simp only [setEntries_time]

@[simp] theorem rewriteCell_time (k : CellKey) (s : State) : (rewriteCell k s).time = s.time := by
  unfold rewriteCell
  (repeat' split) <;> simp only [count_time, setEntries_time]

@[simp] theorem countArrival_time (o : Origin) (s : State) : (countArrival o s).time = s.time := by
  unfold countArrival
  (repeat' split) <;> simp only [countPort_time]

@[simp] theorem allocate_time (r : AllocationRequest) (s : State) : (allocate r s).time = s.time := by
  simp only [allocate, apply_ite State.time, raise_time, count_time, countArrival_time, State.withTable_time, ite_self]

@[simp] theorem setSlot_time (o : Nat) (q : Port) (x : Slot) (s : State) : (setSlot o q x s).time = s.time := by
  simp only [setSlot, setEntries_time]

@[simp] theorem passSlot_time (e : Entry) (q : Port) (r : Option Raw) (f : Flag) (s : State) : (passSlot e q r f s).time = s.time := by
  simp only [passSlot, raise_time, countPort_time, setSlot_time]

@[simp] theorem patchSlot_time (e : Entry) (q : Port) (r : Raw) (c : Computed) (s : State) : (patchSlot e q r c s).time = s.time := by
  simp only [patchSlot, countPort_time, raiseComputed_time, setSlot_time]

@[simp] theorem computeSlot_time (e : Entry) (q : Port) (r : Raw) (c : BitVec 64) (s : State) : (computeSlot e q r c s).time = s.time := by
  unfold computeSlot
  dsimp only
  split
  · rfl
  · split <;> simp only [setSlot_time, patchSlot_time]
  · split <;> simp only [passSlot_time, patchSlot_time]
  · split <;> simp only [passSlot_time, patchSlot_time, removeResponder_time]

@[simp] theorem settleSlot_time (e : Entry) (q : Port) (s : State) : (settleSlot e q s).time = s.time := by
  unfold settleSlot
  (repeat' split) <;> simp only [passSlot_time, computeSlot_time]

@[simp] theorem timeSlot_time (e : Entry) (q : Port) (s : State) : (timeSlot e q s).time = s.time := by
  unfold timeSlot
  (repeat' split) <;> simp only [transmitHandoff_time, setSlot_time]

@[simp] theorem egressRead_time (k : CellKey) (n : Nat) (q : Port) (s : State) : (egressRead k n q s).time = s.time := by
  unfold egressRead
  (repeat' split) <;> simp only [settleSlot_time, timeSlot_time]

@[simp] theorem emptyTable_time (s : State) : (emptyTable s).time = s.time := by
  simp only [emptyTable, setEntries_time]

@[simp] theorem setDiscState_time (d : DisciplineState) (s : State) : (setDiscState d s).time = s.time := by
  simp only [setDiscState, apply_ite State.time, request_time, gatePulses_time, State.withDisc_time, ite_self]

@[simp] theorem startMissing_time (s : State) : (startMissing s).time = s.time := by
  simp only [startMissing, State.withDisc_time]

@[simp] theorem enterAcquire_time (s : State) : (enterAcquire s).time = s.time := by
  simp only [enterAcquire, setDiscState_time, State.withDisc_time]

@[simp] theorem fallFreeRun_time (s : State) : (fallFreeRun s).time = s.time := by
  simp only [fallFreeRun, raise_time, setDiscState_time, State.withDisc_time]

@[simp] theorem toldOfStep_time (s : State) : (toldOfStep s).time = s.time := by
  simp only [toldOfStep, apply_ite State.time, enterAcquire_time, ite_self]

@[simp] theorem disciplineOff_time (s : State) : (disciplineOff s).time = s.time := by
  simp only [disciplineOff, setDiscState_time, State.withDisc_time]

@[simp] theorem disciplineOn_time (s : State) : (disciplineOn s).time = s.time := by
  simp only [disciplineOn, setDiscState_time, State.withDisc_time]

@[simp] theorem disciplineMode_time (s : State) : (disciplineMode s).time = s.time := by
  simp only [disciplineMode, apply_ite State.time, startMissing_time, State.withDisc_time, ite_self]

@[simp] theorem disciplineExpected_time (s : State) : (disciplineExpected s).time = s.time := by
  simp only [disciplineExpected, State.withDisc_time]

@[simp] theorem swapDiscipline_time (old : Profile) (s : State) : (swapDiscipline old s).time = s.time := by
  simp only [swapDiscipline, apply_ite State.time, disciplineOff_time, disciplineOn_time, disciplineMode_time, disciplineExpected_time, ite_self]

@[simp] theorem restartDiscipline_time (s : State) : (restartDiscipline s).time = s.time := by
  simp only [restartDiscipline, setDiscState_time, State.withDisc_time]

@[simp] theorem setStatus_time (slot : Fin 16) (x : SlotStatus) (s : State) : (setStatus slot x s).time = s.time := by
  simp only [setStatus, State.withMonitor_time]

@[simp] theorem rewriteSwapStatus_time (slot : Fin 16) (r : CommandResult) (s : State) : (rewriteSwapStatus slot r s).time = s.time := by
  simp only [rewriteSwapStatus, apply_ite State.time, request_time, setStatus_time, ite_self]

@[simp] theorem retireChanged_time (s : State) : (retireChanged s).time = s.time := by
  simp only [retireChanged, setEntries_time]

@[simp] theorem dropChanged_time (s : State) : (dropChanged s).time = s.time := by
  simp only [dropChanged, State.withCandidates_time]

@[simp] theorem decodeChange_time (s : State) : (decodeChange s).time = s.time := by
  simp only [decodeChange, apply_ite State.time, retireChanged_time, dropChanged_time, State.withDecode_time, ite_self]

@[simp] theorem exchangeBanks_time (s : State) : (exchangeBanks s).time = s.time := by
  simp only [exchangeBanks, request_time, State.withProfiles_time]

@[simp] theorem cancelSwap_time (s : State) : (cancelSwap s).time = s.time := by
  unfold cancelSwap
  (repeat' split) <;> simp only [request_time, rewriteSwapStatus_time, State.withProfiles_time]

@[simp] theorem shiftWaiting_time (a : Int) (s : State) : (shiftWaiting a s).time = s.time := by
  simp only [shiftWaiting, State.withDisc_time]

@[simp] theorem recordSample_time (c : SampleClass) (x : Int) (o : SampleOrigin) (s : State) : (recordSample c x o s).time = s.time := by
  simp only [recordSample, State.withDisc_time]

@[simp] theorem rejectUnordered_time (o : SampleOrigin) (s : State) : (rejectUnordered o s).time = s.time := by
  simp only [rejectUnordered, raiseIf_time, count_time, recordSample_time]

@[simp] theorem setLockCount_time (n : Nat) (s : State) : (setLockCount n s).time = s.time := by
  simp only [setLockCount, apply_ite State.time, setDiscState_time, State.withDisc_time, ite_self]

@[simp] theorem addReject_time (s : State) : (addReject s).time = s.time := by
  simp only [addReject, apply_ite State.time, enterAcquire_time, State.withDisc_time, ite_self]

@[simp] theorem answerUnordered_time (o : SampleOrigin) (s : State) : (answerUnordered o s).time = s.time := by
  unfold answerUnordered
  (repeat' split) <;> simp only [rejectUnordered_time, addReject_time, State.withDisc_time]

@[simp] theorem recordLevel_time (n : Fin 2) (l : Bool) (s : State) : (recordLevel n l s).time = s.time := by
  simp only [recordLevel, State.withCaptures_time]

@[simp] theorem setCandidate_time (n : Fin 7) (c : Option Candidate) (s : State) : (setCandidate n c s).time = s.time := by
  simp only [setCandidate, State.withCandidates_time]

@[simp] theorem decideType_time (n : Fin 7) (c : Candidate) (s : State) : (decideType n c s).1.time = s.time := by
  unfold decideType
  (repeat' split) <;> simp only [setCandidate_time]

@[simp] theorem decideAllocation_time (n : Fin 7) (c : Candidate) (s : State) : (decideAllocation n c s).1.time = s.time := by
  unfold decideAllocation
  repeat' (first | (dsimp only; split) | split)
  all_goals simp only [count_time, allocate_time, setCandidate_time]

@[simp] theorem dropOthers_time (k : CellKey) (own : Option (Fin 7)) (s : State) : (dropOthers k own s).time = s.time := by
  simp only [dropOthers, State.withCandidates_time]

@[simp] theorem openWrite_time (k : CellKey) (l : LaneClass) (en : Enables) (d : Word) (s : State) : (openWrite k l en d s).time = s.time := by
  unfold openWrite
  repeat' (first | (dsimp only; split) | split)
  all_goals simp only [setCandidate_time, dropOthers_time]

@[simp] theorem dropCandidates_time (s : State) : (dropCandidates s).time = s.time := by
  simp only [dropCandidates, State.withCandidates_time]

@[simp] theorem writeShadow_time (slot : Fin 16) (n : Fin 7) (en : Enables) (d : Word) (s : State) : (writeShadow slot n en d s).time = s.time := by
  simp only [writeShadow, State.withMonitor_time]

@[simp] theorem request_disc (ks : List BlockKind) (s : State) : (request ks s).disc = s.disc := by
  simp only [request, apply_ite State.disc, State.withReport_disc, ite_self]

@[simp] theorem raise_disc (f : Flag) (s : State) : (raise f s).disc = s.disc := by
  simp only [raise, request_disc, State.withReport_disc]

@[simp] theorem raiseIf_disc (c : Bool) (f : Flag) (s : State) : (raiseIf c f s).disc = s.disc := by
  simp only [raiseIf, apply_ite State.disc, raise_disc, ite_self]

@[simp] theorem count_disc (c : GlobalCounter) (s : State) : (count c s).disc = s.disc := by
  simp only [count, State.withReport_disc]

@[simp] theorem countPort_disc (p : Port) (c : PortCounter) (s : State) : (countPort p c s).disc = s.disc := by
  simp only [countPort, State.withReport_disc]

@[simp] theorem giveRho_disc (r : Int) (s : State) : (giveRho r s).disc = s.disc := by
  simp only [giveRho, State.withTime_disc]

@[simp] theorem gatePulses_disc (s : State) : (gatePulses s).disc = s.disc := by
  simp only [gatePulses, State.withPulses_disc]

@[simp] theorem stepPulses_disc (s : State) : (stepPulses s).disc = s.disc := by
  simp only [stepPulses, State.withPulses_disc]

@[simp] theorem swapPulses_disc (old : Profile) (s : State) : (swapPulses old s).disc = s.disc := by
  simp only [swapPulses, State.withPulses_disc]

@[simp] theorem leadPulse_disc (n : Fin 4) (s : State) : (leadPulse n s).disc = s.disc := by
  simp only [leadPulse, State.withPulses_disc]

@[simp] theorem trailPulse_disc (n : Fin 4) (s : State) : (trailPulse n s).disc = s.disc := by
  simp only [trailPulse, State.withPulses_disc]

@[simp] theorem setDelay_disc (p : Port) (d : PortDelay) (s : State) : (setDelay p d s).disc = s.disc := by
  simp only [setDelay, State.withDelays_disc]

@[simp] theorem settleDelay_disc (p : Port) (d : PortDelay) (s : State) : (settleDelay p d s).disc = s.disc := by
  unfold settleDelay
  simp only [apply_ite State.disc, request_disc, setDelay_disc, ite_self]

@[simp] theorem transmitHandoff_disc (q : Port) (n : BitVec 16) (t : Raw) (s : State) : (transmitHandoff q n t s).disc = s.disc := by
  unfold transmitHandoff
  (repeat' split) <;> simp only [raiseIf_disc, setDelay_disc]

@[simp] theorem responderHandoff_disc (p : Port) (r : ResponderRecord) (s : State) : (responderHandoff p r s).disc = s.disc := by
  simp only [responderHandoff, setDelay_disc]

@[simp] theorem removeResponder_disc (q : Port) (n : BitVec 16) (i : Ident) (s : State) : (removeResponder q n i s).disc = s.disc := by
  simp only [removeResponder, setDelay_disc]

@[simp] theorem removeProbe_disc (p : Port) (n : BitVec 16) (s : State) : (removeProbe p n s).disc = s.disc := by
  simp only [removeProbe, setDelay_disc]

@[simp] theorem rejectDelay_disc (p : Port) (c : DelayClass) (s : State) : (rejectDelay p c s).disc = s.disc := by
  simp only [rejectDelay, raiseIf_disc, countPort_disc]

@[simp] theorem acceptDelay_disc (p : Port) (x : Nat) (s : State) : (acceptDelay p x s).disc = s.disc := by
  simp only [acceptDelay, countPort_disc, settleDelay_disc]

@[simp] theorem takeDelaySample_disc (p : Port) (t1 t4 : Raw) (c : BitVec 64) (s : State) : (takeDelaySample p t1 t4 c s).disc = s.disc := by
  unfold takeDelaySample
  split
  · exact rejectDelay_disc _ _ _
  · dsimp only
    split
    · exact acceptDelay_disc _ _ _
    · exact rejectDelay_disc _ _ _

@[simp] theorem echoHandoff_disc (p : Port) (n : BitVec 16) (c : BitVec 64) (t : Raw) (s : State) : (echoHandoff p n c t s).disc = s.disc := by
  unfold echoHandoff
  (repeat' split) <;> simp only [raise_disc, removeProbe_disc, takeDelaySample_disc]

@[simp] theorem clearPort_disc (p : Port) (s : State) : (clearPort p s).disc = s.disc := by
  simp only [clearPort, settleDelay_disc]

@[simp] theorem clearPorts_disc (ps : List Port) (s : State) : (clearPorts ps s).disc = s.disc := foldl_keeps State.disc _ (fun s p => clearPort_disc p s) ps s

@[simp] theorem swapDelay_disc (old : Profile) (s : State) (p : Port) : (swapDelay old s p).disc = s.disc := by
  simp only [swapDelay, apply_ite State.disc, settleDelay_disc, clearPort_disc, ite_self]

@[simp] theorem swapDelays_disc (old : Profile) (s : State) : (swapDelays old s).disc = s.disc := foldl_keeps State.disc _ (fun s p => swapDelay_disc old s p) allPorts s

@[simp] theorem raiseComputed_disc (o : Computed) (s : State) : (raiseComputed o s).disc = s.disc := by
  simp only [raiseComputed, raiseIf_disc]

@[simp] theorem setEntries_disc (es : List Entry) (s : State) : (setEntries es s).disc = s.disc := by
  simp only [setEntries, State.withTable_disc]

@[simp] theorem mirrorWrite_disc (k : CellKey) (n : Nat) (en : Enables) (w : Word) (s : State) : (mirrorWrite k n en w s).disc = s.disc := by
  unfold mirrorWrite
  (repeat' split) <;> simp only [setEntries_disc]

@[simp] theorem rewriteCell_disc (k : CellKey) (s : State) : (rewriteCell k s).disc = s.disc := by
  unfold rewriteCell
  (repeat' split) <;> simp only [count_disc, setEntries_disc]

@[simp] theorem countArrival_disc (o : Origin) (s : State) : (countArrival o s).disc = s.disc := by
  unfold countArrival
  (repeat' split) <;> simp only [countPort_disc]

@[simp] theorem allocate_disc (r : AllocationRequest) (s : State) : (allocate r s).disc = s.disc := by
  simp only [allocate, apply_ite State.disc, raise_disc, count_disc, countArrival_disc, State.withTable_disc, ite_self]

@[simp] theorem setSlot_disc (o : Nat) (q : Port) (x : Slot) (s : State) : (setSlot o q x s).disc = s.disc := by
  simp only [setSlot, setEntries_disc]

@[simp] theorem passSlot_disc (e : Entry) (q : Port) (r : Option Raw) (f : Flag) (s : State) : (passSlot e q r f s).disc = s.disc := by
  simp only [passSlot, raise_disc, countPort_disc, setSlot_disc]

@[simp] theorem patchSlot_disc (e : Entry) (q : Port) (r : Raw) (c : Computed) (s : State) : (patchSlot e q r c s).disc = s.disc := by
  simp only [patchSlot, countPort_disc, raiseComputed_disc, setSlot_disc]

@[simp] theorem computeSlot_disc (e : Entry) (q : Port) (r : Raw) (c : BitVec 64) (s : State) : (computeSlot e q r c s).disc = s.disc := by
  unfold computeSlot
  dsimp only
  split
  · rfl
  · split <;> simp only [setSlot_disc, patchSlot_disc]
  · split <;> simp only [passSlot_disc, patchSlot_disc]
  · split <;> simp only [passSlot_disc, patchSlot_disc, removeResponder_disc]

@[simp] theorem settleSlot_disc (e : Entry) (q : Port) (s : State) : (settleSlot e q s).disc = s.disc := by
  unfold settleSlot
  (repeat' split) <;> simp only [passSlot_disc, computeSlot_disc]

@[simp] theorem timeSlot_disc (e : Entry) (q : Port) (s : State) : (timeSlot e q s).disc = s.disc := by
  unfold timeSlot
  (repeat' split) <;> simp only [transmitHandoff_disc, setSlot_disc]

@[simp] theorem egressRead_disc (k : CellKey) (n : Nat) (q : Port) (s : State) : (egressRead k n q s).disc = s.disc := by
  unfold egressRead
  (repeat' split) <;> simp only [settleSlot_disc, timeSlot_disc]

@[simp] theorem emptyTable_disc (s : State) : (emptyTable s).disc = s.disc := by
  simp only [emptyTable, setEntries_disc]

@[simp] theorem setStatus_disc (slot : Fin 16) (x : SlotStatus) (s : State) : (setStatus slot x s).disc = s.disc := by
  simp only [setStatus, State.withMonitor_disc]

@[simp] theorem rewriteSwapStatus_disc (slot : Fin 16) (r : CommandResult) (s : State) : (rewriteSwapStatus slot r s).disc = s.disc := by
  simp only [rewriteSwapStatus, apply_ite State.disc, request_disc, setStatus_disc, ite_self]

@[simp] theorem retireChanged_disc (s : State) : (retireChanged s).disc = s.disc := by
  simp only [retireChanged, setEntries_disc]

@[simp] theorem dropChanged_disc (s : State) : (dropChanged s).disc = s.disc := by
  simp only [dropChanged, State.withCandidates_disc]

@[simp] theorem decodeChange_disc (s : State) : (decodeChange s).disc = s.disc := by
  simp only [decodeChange, apply_ite State.disc, retireChanged_disc, dropChanged_disc, State.withDecode_disc, ite_self]

@[simp] theorem exchangeBanks_disc (s : State) : (exchangeBanks s).disc = s.disc := by
  simp only [exchangeBanks, request_disc, State.withProfiles_disc]

@[simp] theorem cancelSwap_disc (s : State) : (cancelSwap s).disc = s.disc := by
  unfold cancelSwap
  (repeat' split) <;> simp only [request_disc, rewriteSwapStatus_disc, State.withProfiles_disc]

@[simp] theorem recordLevel_disc (n : Fin 2) (l : Bool) (s : State) : (recordLevel n l s).disc = s.disc := by
  simp only [recordLevel, State.withCaptures_disc]

@[simp] theorem setCandidate_disc (n : Fin 7) (c : Option Candidate) (s : State) : (setCandidate n c s).disc = s.disc := by
  simp only [setCandidate, State.withCandidates_disc]

@[simp] theorem decideType_disc (n : Fin 7) (c : Candidate) (s : State) : (decideType n c s).1.disc = s.disc := by
  unfold decideType
  (repeat' split) <;> simp only [setCandidate_disc]

@[simp] theorem decideAllocation_disc (n : Fin 7) (c : Candidate) (s : State) : (decideAllocation n c s).1.disc = s.disc := by
  unfold decideAllocation
  repeat' (first | (dsimp only; split) | split)
  all_goals simp only [count_disc, allocate_disc, setCandidate_disc]

@[simp] theorem dropOthers_disc (k : CellKey) (own : Option (Fin 7)) (s : State) : (dropOthers k own s).disc = s.disc := by
  simp only [dropOthers, State.withCandidates_disc]

@[simp] theorem openWrite_disc (k : CellKey) (l : LaneClass) (en : Enables) (d : Word) (s : State) : (openWrite k l en d s).disc = s.disc := by
  unfold openWrite
  repeat' (first | (dsimp only; split) | split)
  all_goals simp only [setCandidate_disc, dropOthers_disc]

@[simp] theorem dropCandidates_disc (s : State) : (dropCandidates s).disc = s.disc := by
  simp only [dropCandidates, State.withCandidates_disc]

@[simp] theorem writeShadow_disc (slot : Fin 16) (n : Fin 7) (en : Enables) (d : Word) (s : State) : (writeShadow slot n en d s).disc = s.disc := by
  simp only [writeShadow, State.withMonitor_disc]

@[simp] theorem request_captures (ks : List BlockKind) (s : State) : (request ks s).captures = s.captures := by
  simp only [request, apply_ite State.captures, State.withReport_captures, ite_self]

@[simp] theorem raise_captures (f : Flag) (s : State) : (raise f s).captures = s.captures := by
  simp only [raise, request_captures, State.withReport_captures]

@[simp] theorem raiseIf_captures (c : Bool) (f : Flag) (s : State) : (raiseIf c f s).captures = s.captures := by
  simp only [raiseIf, apply_ite State.captures, raise_captures, ite_self]

@[simp] theorem count_captures (c : GlobalCounter) (s : State) : (count c s).captures = s.captures := by
  simp only [count, State.withReport_captures]

@[simp] theorem countPort_captures (p : Port) (c : PortCounter) (s : State) : (countPort p c s).captures = s.captures := by
  simp only [countPort, State.withReport_captures]

@[simp] theorem giveRho_captures (r : Int) (s : State) : (giveRho r s).captures = s.captures := by
  simp only [giveRho, State.withTime_captures]

@[simp] theorem giveRhoI_captures (r : Int) (s : State) : (giveRhoI r s).captures = s.captures := State.withDisc_captures _ _

@[simp] theorem clampRates_captures (s : State) : (clampRates s).captures = s.captures := by
  unfold clampRates
  simp only [giveRhoI_captures, apply_ite State.captures, giveRho_captures, ite_self]

@[simp] theorem gatePulses_captures (s : State) : (gatePulses s).captures = s.captures := by
  simp only [gatePulses, State.withPulses_captures]

@[simp] theorem stepPulses_captures (s : State) : (stepPulses s).captures = s.captures := by
  simp only [stepPulses, State.withPulses_captures]

@[simp] theorem swapPulses_captures (old : Profile) (s : State) : (swapPulses old s).captures = s.captures := by
  simp only [swapPulses, State.withPulses_captures]

@[simp] theorem leadPulse_captures (n : Fin 4) (s : State) : (leadPulse n s).captures = s.captures := by
  simp only [leadPulse, State.withPulses_captures]

@[simp] theorem trailPulse_captures (n : Fin 4) (s : State) : (trailPulse n s).captures = s.captures := by
  simp only [trailPulse, State.withPulses_captures]

@[simp] theorem setDelay_captures (p : Port) (d : PortDelay) (s : State) : (setDelay p d s).captures = s.captures := by
  simp only [setDelay, State.withDelays_captures]

@[simp] theorem settleDelay_captures (p : Port) (d : PortDelay) (s : State) : (settleDelay p d s).captures = s.captures := by
  unfold settleDelay
  simp only [apply_ite State.captures, request_captures, setDelay_captures, ite_self]

@[simp] theorem transmitHandoff_captures (q : Port) (n : BitVec 16) (t : Raw) (s : State) : (transmitHandoff q n t s).captures = s.captures := by
  unfold transmitHandoff
  (repeat' split) <;> simp only [raiseIf_captures, setDelay_captures]

@[simp] theorem responderHandoff_captures (p : Port) (r : ResponderRecord) (s : State) : (responderHandoff p r s).captures = s.captures := by
  simp only [responderHandoff, setDelay_captures]

@[simp] theorem removeResponder_captures (q : Port) (n : BitVec 16) (i : Ident) (s : State) : (removeResponder q n i s).captures = s.captures := by
  simp only [removeResponder, setDelay_captures]

@[simp] theorem removeProbe_captures (p : Port) (n : BitVec 16) (s : State) : (removeProbe p n s).captures = s.captures := by
  simp only [removeProbe, setDelay_captures]

@[simp] theorem rejectDelay_captures (p : Port) (c : DelayClass) (s : State) : (rejectDelay p c s).captures = s.captures := by
  simp only [rejectDelay, raiseIf_captures, countPort_captures]

@[simp] theorem acceptDelay_captures (p : Port) (x : Nat) (s : State) : (acceptDelay p x s).captures = s.captures := by
  simp only [acceptDelay, countPort_captures, settleDelay_captures]

@[simp] theorem takeDelaySample_captures (p : Port) (t1 t4 : Raw) (c : BitVec 64) (s : State) : (takeDelaySample p t1 t4 c s).captures = s.captures := by
  unfold takeDelaySample
  split
  · exact rejectDelay_captures _ _ _
  · dsimp only
    split
    · exact acceptDelay_captures _ _ _
    · exact rejectDelay_captures _ _ _

@[simp] theorem echoHandoff_captures (p : Port) (n : BitVec 16) (c : BitVec 64) (t : Raw) (s : State) : (echoHandoff p n c t s).captures = s.captures := by
  unfold echoHandoff
  (repeat' split) <;> simp only [raise_captures, removeProbe_captures, takeDelaySample_captures]

@[simp] theorem clearPort_captures (p : Port) (s : State) : (clearPort p s).captures = s.captures := by
  simp only [clearPort, settleDelay_captures]

@[simp] theorem clearPorts_captures (ps : List Port) (s : State) : (clearPorts ps s).captures = s.captures := foldl_keeps State.captures _ (fun s p => clearPort_captures p s) ps s

@[simp] theorem swapDelay_captures (old : Profile) (s : State) (p : Port) : (swapDelay old s p).captures = s.captures := by
  simp only [swapDelay, apply_ite State.captures, settleDelay_captures, clearPort_captures, ite_self]

@[simp] theorem swapDelays_captures (old : Profile) (s : State) : (swapDelays old s).captures = s.captures := foldl_keeps State.captures _ (fun s p => swapDelay_captures old s p) allPorts s

@[simp] theorem raiseComputed_captures (o : Computed) (s : State) : (raiseComputed o s).captures = s.captures := by
  simp only [raiseComputed, raiseIf_captures]

@[simp] theorem setEntries_captures (es : List Entry) (s : State) : (setEntries es s).captures = s.captures := by
  simp only [setEntries, State.withTable_captures]

@[simp] theorem mirrorWrite_captures (k : CellKey) (n : Nat) (en : Enables) (w : Word) (s : State) : (mirrorWrite k n en w s).captures = s.captures := by
  unfold mirrorWrite
  (repeat' split) <;> simp only [setEntries_captures]

@[simp] theorem rewriteCell_captures (k : CellKey) (s : State) : (rewriteCell k s).captures = s.captures := by
  unfold rewriteCell
  (repeat' split) <;> simp only [count_captures, setEntries_captures]

@[simp] theorem countArrival_captures (o : Origin) (s : State) : (countArrival o s).captures = s.captures := by
  unfold countArrival
  (repeat' split) <;> simp only [countPort_captures]

@[simp] theorem allocate_captures (r : AllocationRequest) (s : State) : (allocate r s).captures = s.captures := by
  simp only [allocate, apply_ite State.captures, raise_captures, count_captures, countArrival_captures, State.withTable_captures, ite_self]

@[simp] theorem setSlot_captures (o : Nat) (q : Port) (x : Slot) (s : State) : (setSlot o q x s).captures = s.captures := by
  simp only [setSlot, setEntries_captures]

@[simp] theorem passSlot_captures (e : Entry) (q : Port) (r : Option Raw) (f : Flag) (s : State) : (passSlot e q r f s).captures = s.captures := by
  simp only [passSlot, raise_captures, countPort_captures, setSlot_captures]

@[simp] theorem patchSlot_captures (e : Entry) (q : Port) (r : Raw) (c : Computed) (s : State) : (patchSlot e q r c s).captures = s.captures := by
  simp only [patchSlot, countPort_captures, raiseComputed_captures, setSlot_captures]

@[simp] theorem computeSlot_captures (e : Entry) (q : Port) (r : Raw) (c : BitVec 64) (s : State) : (computeSlot e q r c s).captures = s.captures := by
  unfold computeSlot
  dsimp only
  split
  · rfl
  · split <;> simp only [setSlot_captures, patchSlot_captures]
  · split <;> simp only [passSlot_captures, patchSlot_captures]
  · split <;> simp only [passSlot_captures, patchSlot_captures, removeResponder_captures]

@[simp] theorem settleSlot_captures (e : Entry) (q : Port) (s : State) : (settleSlot e q s).captures = s.captures := by
  unfold settleSlot
  (repeat' split) <;> simp only [passSlot_captures, computeSlot_captures]

@[simp] theorem timeSlot_captures (e : Entry) (q : Port) (s : State) : (timeSlot e q s).captures = s.captures := by
  unfold timeSlot
  (repeat' split) <;> simp only [transmitHandoff_captures, setSlot_captures]

@[simp] theorem egressRead_captures (k : CellKey) (n : Nat) (q : Port) (s : State) : (egressRead k n q s).captures = s.captures := by
  unfold egressRead
  (repeat' split) <;> simp only [settleSlot_captures, timeSlot_captures]

@[simp] theorem emptyTable_captures (s : State) : (emptyTable s).captures = s.captures := by
  simp only [emptyTable, setEntries_captures]

@[simp] theorem setDiscState_captures (d : DisciplineState) (s : State) : (setDiscState d s).captures = s.captures := by
  simp only [setDiscState, apply_ite State.captures, request_captures, gatePulses_captures, State.withDisc_captures, ite_self]

@[simp] theorem startMissing_captures (s : State) : (startMissing s).captures = s.captures := by
  simp only [startMissing, State.withDisc_captures]

@[simp] theorem enterAcquire_captures (s : State) : (enterAcquire s).captures = s.captures := by
  simp only [enterAcquire, setDiscState_captures, State.withDisc_captures]

@[simp] theorem enterHoldover_captures (s : State) : (enterHoldover s).captures = s.captures := by
  simp only [enterHoldover, raise_captures, giveRho_captures, setDiscState_captures, State.withDisc_captures]

@[simp] theorem fallFreeRun_captures (s : State) : (fallFreeRun s).captures = s.captures := by
  simp only [fallFreeRun, raise_captures, setDiscState_captures, State.withDisc_captures]

@[simp] theorem toldOfStep_captures (s : State) : (toldOfStep s).captures = s.captures := by
  simp only [toldOfStep, apply_ite State.captures, enterAcquire_captures, ite_self]

@[simp] theorem disciplineOff_captures (s : State) : (disciplineOff s).captures = s.captures := by
  simp only [disciplineOff, setDiscState_captures, State.withDisc_captures]

@[simp] theorem disciplineOn_captures (s : State) : (disciplineOn s).captures = s.captures := by
  simp only [disciplineOn, setDiscState_captures, State.withDisc_captures]

@[simp] theorem disciplineMode_captures (s : State) : (disciplineMode s).captures = s.captures := by
  simp only [disciplineMode, apply_ite State.captures, startMissing_captures, State.withDisc_captures, ite_self]

@[simp] theorem disciplineExpected_captures (s : State) : (disciplineExpected s).captures = s.captures := by
  simp only [disciplineExpected, State.withDisc_captures]

@[simp] theorem swapDiscipline_captures (old : Profile) (s : State) : (swapDiscipline old s).captures = s.captures := by
  simp only [swapDiscipline, apply_ite State.captures, disciplineOff_captures, disciplineOn_captures, disciplineMode_captures, disciplineExpected_captures, ite_self]

@[simp] theorem restartDiscipline_captures (s : State) : (restartDiscipline s).captures = s.captures := by
  simp only [restartDiscipline, setDiscState_captures, State.withDisc_captures]

@[simp] theorem expireMissing_captures (s : State) : (expireMissing s).captures = s.captures := by
  unfold expireMissing
  dsimp only
  split <;> simp only [fallFreeRun_captures, enterHoldover_captures, State.withDisc_captures]

@[simp] theorem setStatus_captures (slot : Fin 16) (x : SlotStatus) (s : State) : (setStatus slot x s).captures = s.captures := by
  simp only [setStatus, State.withMonitor_captures]

@[simp] theorem rewriteSwapStatus_captures (slot : Fin 16) (r : CommandResult) (s : State) : (rewriteSwapStatus slot r s).captures = s.captures := by
  simp only [rewriteSwapStatus, apply_ite State.captures, request_captures, setStatus_captures, ite_self]

@[simp] theorem retireChanged_captures (s : State) : (retireChanged s).captures = s.captures := by
  simp only [retireChanged, setEntries_captures]

@[simp] theorem dropChanged_captures (s : State) : (dropChanged s).captures = s.captures := by
  simp only [dropChanged, State.withCandidates_captures]

@[simp] theorem decodeChange_captures (s : State) : (decodeChange s).captures = s.captures := by
  simp only [decodeChange, apply_ite State.captures, retireChanged_captures, dropChanged_captures, State.withDecode_captures, ite_self]

@[simp] theorem exchangeBanks_captures (s : State) : (exchangeBanks s).captures = s.captures := by
  simp only [exchangeBanks, request_captures, State.withProfiles_captures]

@[simp] theorem performSwap_captures (s : State) : (performSwap s).captures = s.captures := by
  simp only [performSwap, clampRates_captures, swapPulses_captures, swapDelays_captures, swapDiscipline_captures, decodeChange_captures, exchangeBanks_captures]

@[simp] theorem swapAtRollover_captures (s : State) : (swapAtRollover s).captures = s.captures := by
  unfold swapAtRollover
  (repeat' split) <;> simp only [rewriteSwapStatus_captures, performSwap_captures]

@[simp] theorem cancelSwap_captures (s : State) : (cancelSwap s).captures = s.captures := by
  unfold cancelSwap
  (repeat' split) <;> simp only [request_captures, rewriteSwapStatus_captures, State.withProfiles_captures]

@[simp] theorem giveRollover_captures (s : State) : (giveRollover s).captures = s.captures := by
  simp only [giveRollover, request_captures, swapAtRollover_captures, State.withTime_captures]

@[simp] theorem shiftWaiting_captures (a : Int) (s : State) : (shiftWaiting a s).captures = s.captures := by
  simp only [shiftWaiting, State.withDisc_captures]

@[simp] theorem stepTime_captures (a : Int) (s : State) : (stepTime a s).captures = s.captures := by
  have h1 : (shiftWaiting a (raise .stepped (s.withTime (s.time.step a)))).captures = s.captures := by
    rw [shiftWaiting_captures, raise_captures, State.withTime_captures]
  unfold stepTime
  rw [stepPulses_captures, apply_ite State.captures, giveRollover_captures, h1, ite_self]

@[simp] theorem piUpdate_captures (x : Int) (s : State) : (piUpdate x s).captures = s.captures := by
  simp only [piUpdate, giveRho_captures, giveRhoI_captures]

@[simp] theorem recordSample_captures (c : SampleClass) (x : Int) (o : SampleOrigin) (s : State) : (recordSample c x o s).captures = s.captures := by
  simp only [recordSample, State.withDisc_captures]

@[simp] theorem rejectUnordered_captures (o : SampleOrigin) (s : State) : (rejectUnordered o s).captures = s.captures := by
  simp only [rejectUnordered, raiseIf_captures, count_captures, recordSample_captures]

@[simp] theorem setLockCount_captures (n : Nat) (s : State) : (setLockCount n s).captures = s.captures := by
  simp only [setLockCount, apply_ite State.captures, setDiscState_captures, State.withDisc_captures, ite_self]

@[simp] theorem addReject_captures (s : State) : (addReject s).captures = s.captures := by
  simp only [addReject, apply_ite State.captures, enterAcquire_captures, State.withDisc_captures, ite_self]

@[simp] theorem answerAcquire_captures (x : Int) (o : SampleOrigin) (s : State) : (answerAcquire x o s).captures = s.captures := by
  simp only [answerAcquire, apply_ite State.captures, count_captures, stepTime_captures, piUpdate_captures, recordSample_captures, setLockCount_captures, State.withDisc_captures, ite_self]

@[simp] theorem answerLocked_captures (x : Int) (o : SampleOrigin) (s : State) : (answerLocked x o s).captures = s.captures := by
  unfold answerLocked
  rw [apply_ite State.captures, addReject_captures, raise_captures, count_captures, recordSample_captures, State.withDisc_captures,
    count_captures, recordSample_captures, piUpdate_captures, ite_self]

@[simp] theorem answerValue_captures (x : Int) (o : SampleOrigin) (s : State) : (answerValue x o s).captures = s.captures := by
  unfold answerValue
  (repeat' split) <;> simp only [enterAcquire_captures, answerAcquire_captures, answerLocked_captures]

@[simp] theorem answerUnordered_captures (o : SampleOrigin) (s : State) : (answerUnordered o s).captures = s.captures := by
  unfold answerUnordered
  (repeat' split) <;> simp only [rejectUnordered_captures, addReject_captures, State.withDisc_captures]

@[simp] theorem takeSample_captures (x : Option Int) (o : SampleOrigin) (s : State) : (takeSample x o s).captures = s.captures := by
  unfold takeSample
  (repeat' split) <;> simp only [count_captures, startMissing_captures, answerValue_captures, answerUnordered_captures, State.withDisc_captures]

@[simp] theorem takeMark_captures (m : NetworkHandoff) (s : State) : (takeMark m s).captures = s.captures := by
  unfold takeMark
  (repeat' split) <;> simp only [count_captures, takeSample_captures, State.withDisc_captures]

@[simp] theorem takeDetail_captures (m : NetworkHandoff) (s : State) : (takeDetail m s).captures = s.captures := by
  unfold takeDetail
  (repeat' split) <;> simp only [takeSample_captures, State.withDisc_captures]

@[simp] theorem takeHandoff_captures (m : NetworkHandoff) (s : State) : (takeHandoff m s).captures = s.captures := by
  simp only [takeHandoff, apply_ite State.captures, takeMark_captures, takeDetail_captures, ite_self]

@[simp] theorem testSource_captures (m : NetworkHandoff) (s : State) : (testSource m s).captures = s.captures := by
  unfold testSource
  dsimp only
  split
  · split
    · exact takeHandoff_captures _ _
    · exact raise_captures _ _
  · split
    · split
      · rfl
      · rw [takeHandoff_captures, State.withDisc_captures]
    · split
      · exact takeHandoff_captures _ _
      · exact raise_captures _ _

@[simp] theorem networkHandoff_captures (m : NetworkHandoff) (s : State) : (networkHandoff m s).captures = s.captures := by
  simp only [networkHandoff, apply_ite State.captures, testSource_captures, ite_self]

@[simp] theorem inputHandoff_captures (t : StationTime) (s : State) : (inputHandoff t s).captures = s.captures := by
  simp only [inputHandoff, apply_ite State.captures, takeSample_captures, ite_self]

@[simp] theorem setCandidate_captures (n : Fin 7) (c : Option Candidate) (s : State) : (setCandidate n c s).captures = s.captures := by
  simp only [setCandidate, State.withCandidates_captures]

@[simp] theorem completionHandoffs_captures (o : Origin) (k : FrameKind) (c : Candidate) (h : Nat) (s : State) : (completionHandoffs o k c h s).captures = s.captures := by
  unfold completionHandoffs
  dsimp only
  split
  · rfl
  · split
    · split
      · exact networkHandoff_captures _ _
      · rfl
    · split
      · exact networkHandoff_captures _ _
      · rfl
    · split
      · exact responderHandoff_captures _ _ _
      · rfl
    · split
      · exact echoHandoff_captures _ _ _ _ _
      · rfl

@[simp] theorem decideType_captures (n : Fin 7) (c : Candidate) (s : State) : (decideType n c s).1.captures = s.captures := by
  unfold decideType
  (repeat' split) <;> simp only [setCandidate_captures]

@[simp] theorem decideAllocation_captures (n : Fin 7) (c : Candidate) (s : State) : (decideAllocation n c s).1.captures = s.captures := by
  unfold decideAllocation
  repeat' (first | (dsimp only; split) | split)
  all_goals simp only [count_captures, allocate_captures, setCandidate_captures]

@[simp] theorem decideCompletion_captures (n : Fin 7) (c : Candidate) (s : State) : (decideCompletion n c s).captures = s.captures := by
  unfold decideCompletion
  repeat' (first | (dsimp only; split) | split)
  all_goals simp only [setCandidate_captures, completionHandoffs_captures]

@[simp] theorem takeDecisions_captures (n : Fin 7) (c : Candidate) (s : State) : (takeDecisions n c s).captures = s.captures := by
  unfold takeDecisions
  have h1 := decideType_captures n c s
  split <;> rename_i e1 <;> rw [e1] at h1
  · exact h1
  · rename_i s1 c1
    have h2 := decideAllocation_captures n c1 s1
    split <;> rename_i e2 <;> rw [e2] at h2
    · exact h2.trans h1
    · rw [decideCompletion_captures]
      exact h2.trans h1

@[simp] theorem captureWrite_captures (k : CellKey) (w : Nat) (en : Enables) (d : Word) (s : State) (n : Fin 7) : (captureWrite k w en d s n).captures = s.captures := by
  unfold captureWrite
  (repeat' split) <;> simp only [setCandidate_captures, takeDecisions_captures]

@[simp] theorem dropOthers_captures (k : CellKey) (own : Option (Fin 7)) (s : State) : (dropOthers k own s).captures = s.captures := by
  simp only [dropOthers, State.withCandidates_captures]

@[simp] theorem openWrite_captures (k : CellKey) (l : LaneClass) (en : Enables) (d : Word) (s : State) : (openWrite k l en d s).captures = s.captures := by
  unfold openWrite
  repeat' (first | (dsimp only; split) | split)
  all_goals simp only [setCandidate_captures, dropOthers_captures]

@[simp] theorem cellWrite_captures (k : CellKey) (n : Nat) (l : LaneClass) (en : Enables) (d : Word) (s : State) : (cellWrite k n l en d s).captures = s.captures := by
  unfold cellWrite
  split
  · simp only [openWrite_captures, rewriteCell_captures]
  · rw [foldl_keeps State.captures _ (fun s n => captureWrite_captures k _ en d s n)]
    exact mirrorWrite_captures k n en d s

@[simp] theorem dropCandidates_captures (s : State) : (dropCandidates s).captures = s.captures := by
  simp only [dropCandidates, State.withCandidates_captures]

@[simp] theorem writeShadow_captures (slot : Fin 16) (n : Fin 7) (en : Enables) (d : Word) (s : State) : (writeShadow slot n en d s).captures = s.captures := by
  simp only [writeShadow, State.withMonitor_captures]

@[simp] theorem request_pulses (ks : List BlockKind) (s : State) : (request ks s).pulses = s.pulses := by
  simp only [request, apply_ite State.pulses, State.withReport_pulses, ite_self]

@[simp] theorem raise_pulses (f : Flag) (s : State) : (raise f s).pulses = s.pulses := by
  simp only [raise, request_pulses, State.withReport_pulses]

@[simp] theorem raiseIf_pulses (c : Bool) (f : Flag) (s : State) : (raiseIf c f s).pulses = s.pulses := by
  simp only [raiseIf, apply_ite State.pulses, raise_pulses, ite_self]

@[simp] theorem count_pulses (c : GlobalCounter) (s : State) : (count c s).pulses = s.pulses := by
  simp only [count, State.withReport_pulses]

@[simp] theorem countPort_pulses (p : Port) (c : PortCounter) (s : State) : (countPort p c s).pulses = s.pulses := by
  simp only [countPort, State.withReport_pulses]

@[simp] theorem giveRho_pulses (r : Int) (s : State) : (giveRho r s).pulses = s.pulses := by
  simp only [giveRho, State.withTime_pulses]

@[simp] theorem giveRhoI_pulses (r : Int) (s : State) : (giveRhoI r s).pulses = s.pulses := State.withDisc_pulses _ _

@[simp] theorem clampRates_pulses (s : State) : (clampRates s).pulses = s.pulses := by
  unfold clampRates
  simp only [giveRhoI_pulses, apply_ite State.pulses, giveRho_pulses, ite_self]

@[simp] theorem setDelay_pulses (p : Port) (d : PortDelay) (s : State) : (setDelay p d s).pulses = s.pulses := by
  simp only [setDelay, State.withDelays_pulses]

@[simp] theorem settleDelay_pulses (p : Port) (d : PortDelay) (s : State) : (settleDelay p d s).pulses = s.pulses := by
  unfold settleDelay
  simp only [apply_ite State.pulses, request_pulses, setDelay_pulses, ite_self]

@[simp] theorem transmitHandoff_pulses (q : Port) (n : BitVec 16) (t : Raw) (s : State) : (transmitHandoff q n t s).pulses = s.pulses := by
  unfold transmitHandoff
  (repeat' split) <;> simp only [raiseIf_pulses, setDelay_pulses]

@[simp] theorem responderHandoff_pulses (p : Port) (r : ResponderRecord) (s : State) : (responderHandoff p r s).pulses = s.pulses := by
  simp only [responderHandoff, setDelay_pulses]

@[simp] theorem removeResponder_pulses (q : Port) (n : BitVec 16) (i : Ident) (s : State) : (removeResponder q n i s).pulses = s.pulses := by
  simp only [removeResponder, setDelay_pulses]

@[simp] theorem removeProbe_pulses (p : Port) (n : BitVec 16) (s : State) : (removeProbe p n s).pulses = s.pulses := by
  simp only [removeProbe, setDelay_pulses]

@[simp] theorem rejectDelay_pulses (p : Port) (c : DelayClass) (s : State) : (rejectDelay p c s).pulses = s.pulses := by
  simp only [rejectDelay, raiseIf_pulses, countPort_pulses]

@[simp] theorem acceptDelay_pulses (p : Port) (x : Nat) (s : State) : (acceptDelay p x s).pulses = s.pulses := by
  simp only [acceptDelay, countPort_pulses, settleDelay_pulses]

@[simp] theorem takeDelaySample_pulses (p : Port) (t1 t4 : Raw) (c : BitVec 64) (s : State) : (takeDelaySample p t1 t4 c s).pulses = s.pulses := by
  unfold takeDelaySample
  split
  · exact rejectDelay_pulses _ _ _
  · dsimp only
    split
    · exact acceptDelay_pulses _ _ _
    · exact rejectDelay_pulses _ _ _

@[simp] theorem echoHandoff_pulses (p : Port) (n : BitVec 16) (c : BitVec 64) (t : Raw) (s : State) : (echoHandoff p n c t s).pulses = s.pulses := by
  unfold echoHandoff
  (repeat' split) <;> simp only [raise_pulses, removeProbe_pulses, takeDelaySample_pulses]

@[simp] theorem clearPort_pulses (p : Port) (s : State) : (clearPort p s).pulses = s.pulses := by
  simp only [clearPort, settleDelay_pulses]

@[simp] theorem clearPorts_pulses (ps : List Port) (s : State) : (clearPorts ps s).pulses = s.pulses := foldl_keeps State.pulses _ (fun s p => clearPort_pulses p s) ps s

@[simp] theorem swapDelay_pulses (old : Profile) (s : State) (p : Port) : (swapDelay old s p).pulses = s.pulses := by
  simp only [swapDelay, apply_ite State.pulses, settleDelay_pulses, clearPort_pulses, ite_self]

@[simp] theorem swapDelays_pulses (old : Profile) (s : State) : (swapDelays old s).pulses = s.pulses := foldl_keeps State.pulses _ (fun s p => swapDelay_pulses old s p) allPorts s

@[simp] theorem raiseComputed_pulses (o : Computed) (s : State) : (raiseComputed o s).pulses = s.pulses := by
  simp only [raiseComputed, raiseIf_pulses]

@[simp] theorem setEntries_pulses (es : List Entry) (s : State) : (setEntries es s).pulses = s.pulses := by
  simp only [setEntries, State.withTable_pulses]

@[simp] theorem mirrorWrite_pulses (k : CellKey) (n : Nat) (en : Enables) (w : Word) (s : State) : (mirrorWrite k n en w s).pulses = s.pulses := by
  unfold mirrorWrite
  (repeat' split) <;> simp only [setEntries_pulses]

@[simp] theorem rewriteCell_pulses (k : CellKey) (s : State) : (rewriteCell k s).pulses = s.pulses := by
  unfold rewriteCell
  (repeat' split) <;> simp only [count_pulses, setEntries_pulses]

@[simp] theorem countArrival_pulses (o : Origin) (s : State) : (countArrival o s).pulses = s.pulses := by
  unfold countArrival
  (repeat' split) <;> simp only [countPort_pulses]

@[simp] theorem allocate_pulses (r : AllocationRequest) (s : State) : (allocate r s).pulses = s.pulses := by
  simp only [allocate, apply_ite State.pulses, raise_pulses, count_pulses, countArrival_pulses, State.withTable_pulses, ite_self]

@[simp] theorem setSlot_pulses (o : Nat) (q : Port) (x : Slot) (s : State) : (setSlot o q x s).pulses = s.pulses := by
  simp only [setSlot, setEntries_pulses]

@[simp] theorem passSlot_pulses (e : Entry) (q : Port) (r : Option Raw) (f : Flag) (s : State) : (passSlot e q r f s).pulses = s.pulses := by
  simp only [passSlot, raise_pulses, countPort_pulses, setSlot_pulses]

@[simp] theorem patchSlot_pulses (e : Entry) (q : Port) (r : Raw) (c : Computed) (s : State) : (patchSlot e q r c s).pulses = s.pulses := by
  simp only [patchSlot, countPort_pulses, raiseComputed_pulses, setSlot_pulses]

@[simp] theorem computeSlot_pulses (e : Entry) (q : Port) (r : Raw) (c : BitVec 64) (s : State) : (computeSlot e q r c s).pulses = s.pulses := by
  unfold computeSlot
  dsimp only
  split
  · rfl
  · split <;> simp only [setSlot_pulses, patchSlot_pulses]
  · split <;> simp only [passSlot_pulses, patchSlot_pulses]
  · split <;> simp only [passSlot_pulses, patchSlot_pulses, removeResponder_pulses]

@[simp] theorem settleSlot_pulses (e : Entry) (q : Port) (s : State) : (settleSlot e q s).pulses = s.pulses := by
  unfold settleSlot
  (repeat' split) <;> simp only [passSlot_pulses, computeSlot_pulses]

@[simp] theorem timeSlot_pulses (e : Entry) (q : Port) (s : State) : (timeSlot e q s).pulses = s.pulses := by
  unfold timeSlot
  (repeat' split) <;> simp only [transmitHandoff_pulses, setSlot_pulses]

@[simp] theorem egressRead_pulses (k : CellKey) (n : Nat) (q : Port) (s : State) : (egressRead k n q s).pulses = s.pulses := by
  unfold egressRead
  (repeat' split) <;> simp only [settleSlot_pulses, timeSlot_pulses]

@[simp] theorem emptyTable_pulses (s : State) : (emptyTable s).pulses = s.pulses := by
  simp only [emptyTable, setEntries_pulses]

@[simp] theorem startMissing_pulses (s : State) : (startMissing s).pulses = s.pulses := by
  simp only [startMissing, State.withDisc_pulses]

@[simp] theorem disciplineMode_pulses (s : State) : (disciplineMode s).pulses = s.pulses := by
  simp only [disciplineMode, apply_ite State.pulses, startMissing_pulses, State.withDisc_pulses, ite_self]

@[simp] theorem disciplineExpected_pulses (s : State) : (disciplineExpected s).pulses = s.pulses := by
  simp only [disciplineExpected, State.withDisc_pulses]

@[simp] theorem setStatus_pulses (slot : Fin 16) (x : SlotStatus) (s : State) : (setStatus slot x s).pulses = s.pulses := by
  simp only [setStatus, State.withMonitor_pulses]

@[simp] theorem rewriteSwapStatus_pulses (slot : Fin 16) (r : CommandResult) (s : State) : (rewriteSwapStatus slot r s).pulses = s.pulses := by
  simp only [rewriteSwapStatus, apply_ite State.pulses, request_pulses, setStatus_pulses, ite_self]

@[simp] theorem retireChanged_pulses (s : State) : (retireChanged s).pulses = s.pulses := by
  simp only [retireChanged, setEntries_pulses]

@[simp] theorem dropChanged_pulses (s : State) : (dropChanged s).pulses = s.pulses := by
  simp only [dropChanged, State.withCandidates_pulses]

@[simp] theorem decodeChange_pulses (s : State) : (decodeChange s).pulses = s.pulses := by
  simp only [decodeChange, apply_ite State.pulses, retireChanged_pulses, dropChanged_pulses, State.withDecode_pulses, ite_self]

@[simp] theorem exchangeBanks_pulses (s : State) : (exchangeBanks s).pulses = s.pulses := by
  simp only [exchangeBanks, request_pulses, State.withProfiles_pulses]

@[simp] theorem cancelSwap_pulses (s : State) : (cancelSwap s).pulses = s.pulses := by
  unfold cancelSwap
  (repeat' split) <;> simp only [request_pulses, rewriteSwapStatus_pulses, State.withProfiles_pulses]

@[simp] theorem shiftWaiting_pulses (a : Int) (s : State) : (shiftWaiting a s).pulses = s.pulses := by
  simp only [shiftWaiting, State.withDisc_pulses]

@[simp] theorem piUpdate_pulses (x : Int) (s : State) : (piUpdate x s).pulses = s.pulses := by
  simp only [piUpdate, giveRho_pulses, giveRhoI_pulses]

@[simp] theorem recordSample_pulses (c : SampleClass) (x : Int) (o : SampleOrigin) (s : State) : (recordSample c x o s).pulses = s.pulses := by
  simp only [recordSample, State.withDisc_pulses]

@[simp] theorem rejectUnordered_pulses (o : SampleOrigin) (s : State) : (rejectUnordered o s).pulses = s.pulses := by
  simp only [rejectUnordered, raiseIf_pulses, count_pulses, recordSample_pulses]

@[simp] theorem recordLevel_pulses (n : Fin 2) (l : Bool) (s : State) : (recordLevel n l s).pulses = s.pulses := by
  simp only [recordLevel, State.withCaptures_pulses]

@[simp] theorem setCandidate_pulses (n : Fin 7) (c : Option Candidate) (s : State) : (setCandidate n c s).pulses = s.pulses := by
  simp only [setCandidate, State.withCandidates_pulses]

@[simp] theorem decideType_pulses (n : Fin 7) (c : Candidate) (s : State) : (decideType n c s).1.pulses = s.pulses := by
  unfold decideType
  (repeat' split) <;> simp only [setCandidate_pulses]

@[simp] theorem decideAllocation_pulses (n : Fin 7) (c : Candidate) (s : State) : (decideAllocation n c s).1.pulses = s.pulses := by
  unfold decideAllocation
  repeat' (first | (dsimp only; split) | split)
  all_goals simp only [count_pulses, allocate_pulses, setCandidate_pulses]

@[simp] theorem dropOthers_pulses (k : CellKey) (own : Option (Fin 7)) (s : State) : (dropOthers k own s).pulses = s.pulses := by
  simp only [dropOthers, State.withCandidates_pulses]

@[simp] theorem openWrite_pulses (k : CellKey) (l : LaneClass) (en : Enables) (d : Word) (s : State) : (openWrite k l en d s).pulses = s.pulses := by
  unfold openWrite
  repeat' (first | (dsimp only; split) | split)
  all_goals simp only [setCandidate_pulses, dropOthers_pulses]

@[simp] theorem dropCandidates_pulses (s : State) : (dropCandidates s).pulses = s.pulses := by
  simp only [dropCandidates, State.withCandidates_pulses]

@[simp] theorem writeShadow_pulses (slot : Fin 16) (n : Fin 7) (en : Enables) (d : Word) (s : State) : (writeShadow slot n en d s).pulses = s.pulses := by
  simp only [writeShadow, State.withMonitor_pulses]

@[simp] theorem request_profiles (ks : List BlockKind) (s : State) : (request ks s).profiles = s.profiles := by
  simp only [request, apply_ite State.profiles, State.withReport_profiles, ite_self]

@[simp] theorem raise_profiles (f : Flag) (s : State) : (raise f s).profiles = s.profiles := by
  simp only [raise, request_profiles, State.withReport_profiles]

@[simp] theorem raiseIf_profiles (c : Bool) (f : Flag) (s : State) : (raiseIf c f s).profiles = s.profiles := by
  simp only [raiseIf, apply_ite State.profiles, raise_profiles, ite_self]

@[simp] theorem count_profiles (c : GlobalCounter) (s : State) : (count c s).profiles = s.profiles := by
  simp only [count, State.withReport_profiles]

@[simp] theorem countPort_profiles (p : Port) (c : PortCounter) (s : State) : (countPort p c s).profiles = s.profiles := by
  simp only [countPort, State.withReport_profiles]

@[simp] theorem giveRho_profiles (r : Int) (s : State) : (giveRho r s).profiles = s.profiles := by
  simp only [giveRho, State.withTime_profiles]

@[simp] theorem giveRhoI_profiles (r : Int) (s : State) : (giveRhoI r s).profiles = s.profiles := State.withDisc_profiles _ _

@[simp] theorem clampRates_profiles (s : State) : (clampRates s).profiles = s.profiles := by
  unfold clampRates
  simp only [giveRhoI_profiles, apply_ite State.profiles, giveRho_profiles, ite_self]

@[simp] theorem gatePulses_profiles (s : State) : (gatePulses s).profiles = s.profiles := by
  simp only [gatePulses, State.withPulses_profiles]

@[simp] theorem stepPulses_profiles (s : State) : (stepPulses s).profiles = s.profiles := by
  simp only [stepPulses, State.withPulses_profiles]

@[simp] theorem swapPulses_profiles (old : Profile) (s : State) : (swapPulses old s).profiles = s.profiles := by
  simp only [swapPulses, State.withPulses_profiles]

@[simp] theorem leadPulse_profiles (n : Fin 4) (s : State) : (leadPulse n s).profiles = s.profiles := by
  simp only [leadPulse, State.withPulses_profiles]

@[simp] theorem trailPulse_profiles (n : Fin 4) (s : State) : (trailPulse n s).profiles = s.profiles := by
  simp only [trailPulse, State.withPulses_profiles]

@[simp] theorem setDelay_profiles (p : Port) (d : PortDelay) (s : State) : (setDelay p d s).profiles = s.profiles := by
  simp only [setDelay, State.withDelays_profiles]

@[simp] theorem settleDelay_profiles (p : Port) (d : PortDelay) (s : State) : (settleDelay p d s).profiles = s.profiles := by
  unfold settleDelay
  simp only [apply_ite State.profiles, request_profiles, setDelay_profiles, ite_self]

@[simp] theorem transmitHandoff_profiles (q : Port) (n : BitVec 16) (t : Raw) (s : State) : (transmitHandoff q n t s).profiles = s.profiles := by
  unfold transmitHandoff
  (repeat' split) <;> simp only [raiseIf_profiles, setDelay_profiles]

@[simp] theorem responderHandoff_profiles (p : Port) (r : ResponderRecord) (s : State) : (responderHandoff p r s).profiles = s.profiles := by
  simp only [responderHandoff, setDelay_profiles]

@[simp] theorem removeResponder_profiles (q : Port) (n : BitVec 16) (i : Ident) (s : State) : (removeResponder q n i s).profiles = s.profiles := by
  simp only [removeResponder, setDelay_profiles]

@[simp] theorem removeProbe_profiles (p : Port) (n : BitVec 16) (s : State) : (removeProbe p n s).profiles = s.profiles := by
  simp only [removeProbe, setDelay_profiles]

@[simp] theorem rejectDelay_profiles (p : Port) (c : DelayClass) (s : State) : (rejectDelay p c s).profiles = s.profiles := by
  simp only [rejectDelay, raiseIf_profiles, countPort_profiles]

@[simp] theorem acceptDelay_profiles (p : Port) (x : Nat) (s : State) : (acceptDelay p x s).profiles = s.profiles := by
  simp only [acceptDelay, countPort_profiles, settleDelay_profiles]

@[simp] theorem takeDelaySample_profiles (p : Port) (t1 t4 : Raw) (c : BitVec 64) (s : State) : (takeDelaySample p t1 t4 c s).profiles = s.profiles := by
  unfold takeDelaySample
  split
  · exact rejectDelay_profiles _ _ _
  · dsimp only
    split
    · exact acceptDelay_profiles _ _ _
    · exact rejectDelay_profiles _ _ _

@[simp] theorem echoHandoff_profiles (p : Port) (n : BitVec 16) (c : BitVec 64) (t : Raw) (s : State) : (echoHandoff p n c t s).profiles = s.profiles := by
  unfold echoHandoff
  (repeat' split) <;> simp only [raise_profiles, removeProbe_profiles, takeDelaySample_profiles]

@[simp] theorem clearPort_profiles (p : Port) (s : State) : (clearPort p s).profiles = s.profiles := by
  simp only [clearPort, settleDelay_profiles]

@[simp] theorem clearPorts_profiles (ps : List Port) (s : State) : (clearPorts ps s).profiles = s.profiles := foldl_keeps State.profiles _ (fun s p => clearPort_profiles p s) ps s

@[simp] theorem swapDelay_profiles (old : Profile) (s : State) (p : Port) : (swapDelay old s p).profiles = s.profiles := by
  simp only [swapDelay, apply_ite State.profiles, settleDelay_profiles, clearPort_profiles, ite_self]

@[simp] theorem swapDelays_profiles (old : Profile) (s : State) : (swapDelays old s).profiles = s.profiles := foldl_keeps State.profiles _ (fun s p => swapDelay_profiles old s p) allPorts s

@[simp] theorem raiseComputed_profiles (o : Computed) (s : State) : (raiseComputed o s).profiles = s.profiles := by
  simp only [raiseComputed, raiseIf_profiles]

@[simp] theorem setEntries_profiles (es : List Entry) (s : State) : (setEntries es s).profiles = s.profiles := by
  simp only [setEntries, State.withTable_profiles]

@[simp] theorem mirrorWrite_profiles (k : CellKey) (n : Nat) (en : Enables) (w : Word) (s : State) : (mirrorWrite k n en w s).profiles = s.profiles := by
  unfold mirrorWrite
  (repeat' split) <;> simp only [setEntries_profiles]

@[simp] theorem rewriteCell_profiles (k : CellKey) (s : State) : (rewriteCell k s).profiles = s.profiles := by
  unfold rewriteCell
  (repeat' split) <;> simp only [count_profiles, setEntries_profiles]

@[simp] theorem countArrival_profiles (o : Origin) (s : State) : (countArrival o s).profiles = s.profiles := by
  unfold countArrival
  (repeat' split) <;> simp only [countPort_profiles]

@[simp] theorem allocate_profiles (r : AllocationRequest) (s : State) : (allocate r s).profiles = s.profiles := by
  simp only [allocate, apply_ite State.profiles, raise_profiles, count_profiles, countArrival_profiles, State.withTable_profiles, ite_self]

@[simp] theorem setSlot_profiles (o : Nat) (q : Port) (x : Slot) (s : State) : (setSlot o q x s).profiles = s.profiles := by
  simp only [setSlot, setEntries_profiles]

@[simp] theorem passSlot_profiles (e : Entry) (q : Port) (r : Option Raw) (f : Flag) (s : State) : (passSlot e q r f s).profiles = s.profiles := by
  simp only [passSlot, raise_profiles, countPort_profiles, setSlot_profiles]

@[simp] theorem patchSlot_profiles (e : Entry) (q : Port) (r : Raw) (c : Computed) (s : State) : (patchSlot e q r c s).profiles = s.profiles := by
  simp only [patchSlot, countPort_profiles, raiseComputed_profiles, setSlot_profiles]

@[simp] theorem computeSlot_profiles (e : Entry) (q : Port) (r : Raw) (c : BitVec 64) (s : State) : (computeSlot e q r c s).profiles = s.profiles := by
  unfold computeSlot
  dsimp only
  split
  · rfl
  · split <;> simp only [setSlot_profiles, patchSlot_profiles]
  · split <;> simp only [passSlot_profiles, patchSlot_profiles]
  · split <;> simp only [passSlot_profiles, patchSlot_profiles, removeResponder_profiles]

@[simp] theorem settleSlot_profiles (e : Entry) (q : Port) (s : State) : (settleSlot e q s).profiles = s.profiles := by
  unfold settleSlot
  (repeat' split) <;> simp only [passSlot_profiles, computeSlot_profiles]

@[simp] theorem timeSlot_profiles (e : Entry) (q : Port) (s : State) : (timeSlot e q s).profiles = s.profiles := by
  unfold timeSlot
  (repeat' split) <;> simp only [transmitHandoff_profiles, setSlot_profiles]

@[simp] theorem egressRead_profiles (k : CellKey) (n : Nat) (q : Port) (s : State) : (egressRead k n q s).profiles = s.profiles := by
  unfold egressRead
  (repeat' split) <;> simp only [settleSlot_profiles, timeSlot_profiles]

@[simp] theorem emptyTable_profiles (s : State) : (emptyTable s).profiles = s.profiles := by
  simp only [emptyTable, setEntries_profiles]

@[simp] theorem setDiscState_profiles (d : DisciplineState) (s : State) : (setDiscState d s).profiles = s.profiles := by
  simp only [setDiscState, apply_ite State.profiles, request_profiles, gatePulses_profiles, State.withDisc_profiles, ite_self]

@[simp] theorem startMissing_profiles (s : State) : (startMissing s).profiles = s.profiles := by
  simp only [startMissing, State.withDisc_profiles]

@[simp] theorem enterAcquire_profiles (s : State) : (enterAcquire s).profiles = s.profiles := by
  simp only [enterAcquire, setDiscState_profiles, State.withDisc_profiles]

@[simp] theorem enterHoldover_profiles (s : State) : (enterHoldover s).profiles = s.profiles := by
  simp only [enterHoldover, raise_profiles, giveRho_profiles, setDiscState_profiles, State.withDisc_profiles]

@[simp] theorem fallFreeRun_profiles (s : State) : (fallFreeRun s).profiles = s.profiles := by
  simp only [fallFreeRun, raise_profiles, setDiscState_profiles, State.withDisc_profiles]

@[simp] theorem toldOfStep_profiles (s : State) : (toldOfStep s).profiles = s.profiles := by
  simp only [toldOfStep, apply_ite State.profiles, enterAcquire_profiles, ite_self]

@[simp] theorem disciplineOff_profiles (s : State) : (disciplineOff s).profiles = s.profiles := by
  simp only [disciplineOff, setDiscState_profiles, State.withDisc_profiles]

@[simp] theorem disciplineOn_profiles (s : State) : (disciplineOn s).profiles = s.profiles := by
  simp only [disciplineOn, setDiscState_profiles, State.withDisc_profiles]

@[simp] theorem disciplineMode_profiles (s : State) : (disciplineMode s).profiles = s.profiles := by
  simp only [disciplineMode, apply_ite State.profiles, startMissing_profiles, State.withDisc_profiles, ite_self]

@[simp] theorem disciplineExpected_profiles (s : State) : (disciplineExpected s).profiles = s.profiles := by
  simp only [disciplineExpected, State.withDisc_profiles]

@[simp] theorem swapDiscipline_profiles (old : Profile) (s : State) : (swapDiscipline old s).profiles = s.profiles := by
  simp only [swapDiscipline, apply_ite State.profiles, disciplineOff_profiles, disciplineOn_profiles, disciplineMode_profiles, disciplineExpected_profiles, ite_self]

@[simp] theorem restartDiscipline_profiles (s : State) : (restartDiscipline s).profiles = s.profiles := by
  simp only [restartDiscipline, setDiscState_profiles, State.withDisc_profiles]

@[simp] theorem expireMissing_profiles (s : State) : (expireMissing s).profiles = s.profiles := by
  unfold expireMissing
  dsimp only
  split <;> simp only [fallFreeRun_profiles, enterHoldover_profiles, State.withDisc_profiles]

@[simp] theorem setStatus_profiles (slot : Fin 16) (x : SlotStatus) (s : State) : (setStatus slot x s).profiles = s.profiles := by
  simp only [setStatus, State.withMonitor_profiles]

@[simp] theorem rewriteSwapStatus_profiles (slot : Fin 16) (r : CommandResult) (s : State) : (rewriteSwapStatus slot r s).profiles = s.profiles := by
  simp only [rewriteSwapStatus, apply_ite State.profiles, request_profiles, setStatus_profiles, ite_self]

@[simp] theorem retireChanged_profiles (s : State) : (retireChanged s).profiles = s.profiles := by
  simp only [retireChanged, setEntries_profiles]

@[simp] theorem dropChanged_profiles (s : State) : (dropChanged s).profiles = s.profiles := by
  simp only [dropChanged, State.withCandidates_profiles]

@[simp] theorem decodeChange_profiles (s : State) : (decodeChange s).profiles = s.profiles := by
  simp only [decodeChange, apply_ite State.profiles, retireChanged_profiles, dropChanged_profiles, State.withDecode_profiles, ite_self]

@[simp] theorem shiftWaiting_profiles (a : Int) (s : State) : (shiftWaiting a s).profiles = s.profiles := by
  simp only [shiftWaiting, State.withDisc_profiles]

@[simp] theorem piUpdate_profiles (x : Int) (s : State) : (piUpdate x s).profiles = s.profiles := by
  simp only [piUpdate, giveRho_profiles, giveRhoI_profiles]

@[simp] theorem recordSample_profiles (c : SampleClass) (x : Int) (o : SampleOrigin) (s : State) : (recordSample c x o s).profiles = s.profiles := by
  simp only [recordSample, State.withDisc_profiles]

@[simp] theorem rejectUnordered_profiles (o : SampleOrigin) (s : State) : (rejectUnordered o s).profiles = s.profiles := by
  simp only [rejectUnordered, raiseIf_profiles, count_profiles, recordSample_profiles]

@[simp] theorem setLockCount_profiles (n : Nat) (s : State) : (setLockCount n s).profiles = s.profiles := by
  simp only [setLockCount, apply_ite State.profiles, setDiscState_profiles, State.withDisc_profiles, ite_self]

@[simp] theorem addReject_profiles (s : State) : (addReject s).profiles = s.profiles := by
  simp only [addReject, apply_ite State.profiles, enterAcquire_profiles, State.withDisc_profiles, ite_self]

@[simp] theorem answerLocked_profiles (x : Int) (o : SampleOrigin) (s : State) : (answerLocked x o s).profiles = s.profiles := by
  unfold answerLocked
  rw [apply_ite State.profiles, addReject_profiles, raise_profiles, count_profiles, recordSample_profiles, State.withDisc_profiles,
    count_profiles, recordSample_profiles, piUpdate_profiles, ite_self]

@[simp] theorem answerUnordered_profiles (o : SampleOrigin) (s : State) : (answerUnordered o s).profiles = s.profiles := by
  unfold answerUnordered
  (repeat' split) <;> simp only [rejectUnordered_profiles, addReject_profiles, State.withDisc_profiles]

@[simp] theorem recordLevel_profiles (n : Fin 2) (l : Bool) (s : State) : (recordLevel n l s).profiles = s.profiles := by
  simp only [recordLevel, State.withCaptures_profiles]

@[simp] theorem setCandidate_profiles (n : Fin 7) (c : Option Candidate) (s : State) : (setCandidate n c s).profiles = s.profiles := by
  simp only [setCandidate, State.withCandidates_profiles]

@[simp] theorem decideType_profiles (n : Fin 7) (c : Candidate) (s : State) : (decideType n c s).1.profiles = s.profiles := by
  unfold decideType
  (repeat' split) <;> simp only [setCandidate_profiles]

@[simp] theorem decideAllocation_profiles (n : Fin 7) (c : Candidate) (s : State) : (decideAllocation n c s).1.profiles = s.profiles := by
  unfold decideAllocation
  repeat' (first | (dsimp only; split) | split)
  all_goals simp only [count_profiles, allocate_profiles, setCandidate_profiles]

@[simp] theorem dropOthers_profiles (k : CellKey) (own : Option (Fin 7)) (s : State) : (dropOthers k own s).profiles = s.profiles := by
  simp only [dropOthers, State.withCandidates_profiles]

@[simp] theorem openWrite_profiles (k : CellKey) (l : LaneClass) (en : Enables) (d : Word) (s : State) : (openWrite k l en d s).profiles = s.profiles := by
  unfold openWrite
  repeat' (first | (dsimp only; split) | split)
  all_goals simp only [setCandidate_profiles, dropOthers_profiles]

@[simp] theorem dropCandidates_profiles (s : State) : (dropCandidates s).profiles = s.profiles := by
  simp only [dropCandidates, State.withCandidates_profiles]

@[simp] theorem writeShadow_profiles (slot : Fin 16) (n : Fin 7) (en : Enables) (d : Word) (s : State) : (writeShadow slot n en d s).profiles = s.profiles := by
  simp only [writeShadow, State.withMonitor_profiles]

@[simp] theorem request_monitor (ks : List BlockKind) (s : State) : (request ks s).monitor = s.monitor := by
  simp only [request, apply_ite State.monitor, State.withReport_monitor, ite_self]

@[simp] theorem raise_monitor (f : Flag) (s : State) : (raise f s).monitor = s.monitor := by
  simp only [raise, request_monitor, State.withReport_monitor]

@[simp] theorem raiseIf_monitor (c : Bool) (f : Flag) (s : State) : (raiseIf c f s).monitor = s.monitor := by
  simp only [raiseIf, apply_ite State.monitor, raise_monitor, ite_self]

@[simp] theorem count_monitor (c : GlobalCounter) (s : State) : (count c s).monitor = s.monitor := by
  simp only [count, State.withReport_monitor]

@[simp] theorem countPort_monitor (p : Port) (c : PortCounter) (s : State) : (countPort p c s).monitor = s.monitor := by
  simp only [countPort, State.withReport_monitor]

@[simp] theorem giveRho_monitor (r : Int) (s : State) : (giveRho r s).monitor = s.monitor := by
  simp only [giveRho, State.withTime_monitor]

@[simp] theorem giveRhoI_monitor (r : Int) (s : State) : (giveRhoI r s).monitor = s.monitor := State.withDisc_monitor _ _

@[simp] theorem clampRates_monitor (s : State) : (clampRates s).monitor = s.monitor := by
  unfold clampRates
  simp only [giveRhoI_monitor, apply_ite State.monitor, giveRho_monitor, ite_self]

@[simp] theorem gatePulses_monitor (s : State) : (gatePulses s).monitor = s.monitor := by
  simp only [gatePulses, State.withPulses_monitor]

@[simp] theorem stepPulses_monitor (s : State) : (stepPulses s).monitor = s.monitor := by
  simp only [stepPulses, State.withPulses_monitor]

@[simp] theorem swapPulses_monitor (old : Profile) (s : State) : (swapPulses old s).monitor = s.monitor := by
  simp only [swapPulses, State.withPulses_monitor]

@[simp] theorem leadPulse_monitor (n : Fin 4) (s : State) : (leadPulse n s).monitor = s.monitor := by
  simp only [leadPulse, State.withPulses_monitor]

@[simp] theorem trailPulse_monitor (n : Fin 4) (s : State) : (trailPulse n s).monitor = s.monitor := by
  simp only [trailPulse, State.withPulses_monitor]

@[simp] theorem setDelay_monitor (p : Port) (d : PortDelay) (s : State) : (setDelay p d s).monitor = s.monitor := by
  simp only [setDelay, State.withDelays_monitor]

@[simp] theorem settleDelay_monitor (p : Port) (d : PortDelay) (s : State) : (settleDelay p d s).monitor = s.monitor := by
  unfold settleDelay
  simp only [apply_ite State.monitor, request_monitor, setDelay_monitor, ite_self]

@[simp] theorem transmitHandoff_monitor (q : Port) (n : BitVec 16) (t : Raw) (s : State) : (transmitHandoff q n t s).monitor = s.monitor := by
  unfold transmitHandoff
  (repeat' split) <;> simp only [raiseIf_monitor, setDelay_monitor]

@[simp] theorem responderHandoff_monitor (p : Port) (r : ResponderRecord) (s : State) : (responderHandoff p r s).monitor = s.monitor := by
  simp only [responderHandoff, setDelay_monitor]

@[simp] theorem removeResponder_monitor (q : Port) (n : BitVec 16) (i : Ident) (s : State) : (removeResponder q n i s).monitor = s.monitor := by
  simp only [removeResponder, setDelay_monitor]

@[simp] theorem removeProbe_monitor (p : Port) (n : BitVec 16) (s : State) : (removeProbe p n s).monitor = s.monitor := by
  simp only [removeProbe, setDelay_monitor]

@[simp] theorem rejectDelay_monitor (p : Port) (c : DelayClass) (s : State) : (rejectDelay p c s).monitor = s.monitor := by
  simp only [rejectDelay, raiseIf_monitor, countPort_monitor]

@[simp] theorem acceptDelay_monitor (p : Port) (x : Nat) (s : State) : (acceptDelay p x s).monitor = s.monitor := by
  simp only [acceptDelay, countPort_monitor, settleDelay_monitor]

@[simp] theorem takeDelaySample_monitor (p : Port) (t1 t4 : Raw) (c : BitVec 64) (s : State) : (takeDelaySample p t1 t4 c s).monitor = s.monitor := by
  unfold takeDelaySample
  split
  · exact rejectDelay_monitor _ _ _
  · dsimp only
    split
    · exact acceptDelay_monitor _ _ _
    · exact rejectDelay_monitor _ _ _

@[simp] theorem echoHandoff_monitor (p : Port) (n : BitVec 16) (c : BitVec 64) (t : Raw) (s : State) : (echoHandoff p n c t s).monitor = s.monitor := by
  unfold echoHandoff
  (repeat' split) <;> simp only [raise_monitor, removeProbe_monitor, takeDelaySample_monitor]

@[simp] theorem clearPort_monitor (p : Port) (s : State) : (clearPort p s).monitor = s.monitor := by
  simp only [clearPort, settleDelay_monitor]

@[simp] theorem clearPorts_monitor (ps : List Port) (s : State) : (clearPorts ps s).monitor = s.monitor := foldl_keeps State.monitor _ (fun s p => clearPort_monitor p s) ps s

@[simp] theorem swapDelay_monitor (old : Profile) (s : State) (p : Port) : (swapDelay old s p).monitor = s.monitor := by
  simp only [swapDelay, apply_ite State.monitor, settleDelay_monitor, clearPort_monitor, ite_self]

@[simp] theorem swapDelays_monitor (old : Profile) (s : State) : (swapDelays old s).monitor = s.monitor := foldl_keeps State.monitor _ (fun s p => swapDelay_monitor old s p) allPorts s

@[simp] theorem raiseComputed_monitor (o : Computed) (s : State) : (raiseComputed o s).monitor = s.monitor := by
  simp only [raiseComputed, raiseIf_monitor]

@[simp] theorem setEntries_monitor (es : List Entry) (s : State) : (setEntries es s).monitor = s.monitor := by
  simp only [setEntries, State.withTable_monitor]

@[simp] theorem mirrorWrite_monitor (k : CellKey) (n : Nat) (en : Enables) (w : Word) (s : State) : (mirrorWrite k n en w s).monitor = s.monitor := by
  unfold mirrorWrite
  (repeat' split) <;> simp only [setEntries_monitor]

@[simp] theorem rewriteCell_monitor (k : CellKey) (s : State) : (rewriteCell k s).monitor = s.monitor := by
  unfold rewriteCell
  (repeat' split) <;> simp only [count_monitor, setEntries_monitor]

@[simp] theorem countArrival_monitor (o : Origin) (s : State) : (countArrival o s).monitor = s.monitor := by
  unfold countArrival
  (repeat' split) <;> simp only [countPort_monitor]

@[simp] theorem allocate_monitor (r : AllocationRequest) (s : State) : (allocate r s).monitor = s.monitor := by
  simp only [allocate, apply_ite State.monitor, raise_monitor, count_monitor, countArrival_monitor, State.withTable_monitor, ite_self]

@[simp] theorem setSlot_monitor (o : Nat) (q : Port) (x : Slot) (s : State) : (setSlot o q x s).monitor = s.monitor := by
  simp only [setSlot, setEntries_monitor]

@[simp] theorem passSlot_monitor (e : Entry) (q : Port) (r : Option Raw) (f : Flag) (s : State) : (passSlot e q r f s).monitor = s.monitor := by
  simp only [passSlot, raise_monitor, countPort_monitor, setSlot_monitor]

@[simp] theorem patchSlot_monitor (e : Entry) (q : Port) (r : Raw) (c : Computed) (s : State) : (patchSlot e q r c s).monitor = s.monitor := by
  simp only [patchSlot, countPort_monitor, raiseComputed_monitor, setSlot_monitor]

@[simp] theorem computeSlot_monitor (e : Entry) (q : Port) (r : Raw) (c : BitVec 64) (s : State) : (computeSlot e q r c s).monitor = s.monitor := by
  unfold computeSlot
  dsimp only
  split
  · rfl
  · split <;> simp only [setSlot_monitor, patchSlot_monitor]
  · split <;> simp only [passSlot_monitor, patchSlot_monitor]
  · split <;> simp only [passSlot_monitor, patchSlot_monitor, removeResponder_monitor]

@[simp] theorem settleSlot_monitor (e : Entry) (q : Port) (s : State) : (settleSlot e q s).monitor = s.monitor := by
  unfold settleSlot
  (repeat' split) <;> simp only [passSlot_monitor, computeSlot_monitor]

@[simp] theorem timeSlot_monitor (e : Entry) (q : Port) (s : State) : (timeSlot e q s).monitor = s.monitor := by
  unfold timeSlot
  (repeat' split) <;> simp only [transmitHandoff_monitor, setSlot_monitor]

@[simp] theorem egressRead_monitor (k : CellKey) (n : Nat) (q : Port) (s : State) : (egressRead k n q s).monitor = s.monitor := by
  unfold egressRead
  (repeat' split) <;> simp only [settleSlot_monitor, timeSlot_monitor]

@[simp] theorem emptyTable_monitor (s : State) : (emptyTable s).monitor = s.monitor := by
  simp only [emptyTable, setEntries_monitor]

@[simp] theorem setDiscState_monitor (d : DisciplineState) (s : State) : (setDiscState d s).monitor = s.monitor := by
  simp only [setDiscState, apply_ite State.monitor, request_monitor, gatePulses_monitor, State.withDisc_monitor, ite_self]

@[simp] theorem startMissing_monitor (s : State) : (startMissing s).monitor = s.monitor := by
  simp only [startMissing, State.withDisc_monitor]

@[simp] theorem enterAcquire_monitor (s : State) : (enterAcquire s).monitor = s.monitor := by
  simp only [enterAcquire, setDiscState_monitor, State.withDisc_monitor]

@[simp] theorem enterHoldover_monitor (s : State) : (enterHoldover s).monitor = s.monitor := by
  simp only [enterHoldover, raise_monitor, giveRho_monitor, setDiscState_monitor, State.withDisc_monitor]

@[simp] theorem fallFreeRun_monitor (s : State) : (fallFreeRun s).monitor = s.monitor := by
  simp only [fallFreeRun, raise_monitor, setDiscState_monitor, State.withDisc_monitor]

@[simp] theorem toldOfStep_monitor (s : State) : (toldOfStep s).monitor = s.monitor := by
  simp only [toldOfStep, apply_ite State.monitor, enterAcquire_monitor, ite_self]

@[simp] theorem disciplineOff_monitor (s : State) : (disciplineOff s).monitor = s.monitor := by
  simp only [disciplineOff, setDiscState_monitor, State.withDisc_monitor]

@[simp] theorem disciplineOn_monitor (s : State) : (disciplineOn s).monitor = s.monitor := by
  simp only [disciplineOn, setDiscState_monitor, State.withDisc_monitor]

@[simp] theorem disciplineMode_monitor (s : State) : (disciplineMode s).monitor = s.monitor := by
  simp only [disciplineMode, apply_ite State.monitor, startMissing_monitor, State.withDisc_monitor, ite_self]

@[simp] theorem disciplineExpected_monitor (s : State) : (disciplineExpected s).monitor = s.monitor := by
  simp only [disciplineExpected, State.withDisc_monitor]

@[simp] theorem swapDiscipline_monitor (old : Profile) (s : State) : (swapDiscipline old s).monitor = s.monitor := by
  simp only [swapDiscipline, apply_ite State.monitor, disciplineOff_monitor, disciplineOn_monitor, disciplineMode_monitor, disciplineExpected_monitor, ite_self]

@[simp] theorem restartDiscipline_monitor (s : State) : (restartDiscipline s).monitor = s.monitor := by
  simp only [restartDiscipline, setDiscState_monitor, State.withDisc_monitor]

@[simp] theorem expireMissing_monitor (s : State) : (expireMissing s).monitor = s.monitor := by
  unfold expireMissing
  dsimp only
  split <;> simp only [fallFreeRun_monitor, enterHoldover_monitor, State.withDisc_monitor]

@[simp] theorem retireChanged_monitor (s : State) : (retireChanged s).monitor = s.monitor := by
  simp only [retireChanged, setEntries_monitor]

@[simp] theorem dropChanged_monitor (s : State) : (dropChanged s).monitor = s.monitor := by
  simp only [dropChanged, State.withCandidates_monitor]

@[simp] theorem decodeChange_monitor (s : State) : (decodeChange s).monitor = s.monitor := by
  simp only [decodeChange, apply_ite State.monitor, retireChanged_monitor, dropChanged_monitor, State.withDecode_monitor, ite_self]

@[simp] theorem exchangeBanks_monitor (s : State) : (exchangeBanks s).monitor = s.monitor := by
  simp only [exchangeBanks, request_monitor, State.withProfiles_monitor]

@[simp] theorem performSwap_monitor (s : State) : (performSwap s).monitor = s.monitor := by
  simp only [performSwap, clampRates_monitor, swapPulses_monitor, swapDelays_monitor, swapDiscipline_monitor, decodeChange_monitor, exchangeBanks_monitor]

@[simp] theorem shiftWaiting_monitor (a : Int) (s : State) : (shiftWaiting a s).monitor = s.monitor := by
  simp only [shiftWaiting, State.withDisc_monitor]

@[simp] theorem piUpdate_monitor (x : Int) (s : State) : (piUpdate x s).monitor = s.monitor := by
  simp only [piUpdate, giveRho_monitor, giveRhoI_monitor]

@[simp] theorem recordSample_monitor (c : SampleClass) (x : Int) (o : SampleOrigin) (s : State) : (recordSample c x o s).monitor = s.monitor := by
  simp only [recordSample, State.withDisc_monitor]

@[simp] theorem rejectUnordered_monitor (o : SampleOrigin) (s : State) : (rejectUnordered o s).monitor = s.monitor := by
  simp only [rejectUnordered, raiseIf_monitor, count_monitor, recordSample_monitor]

@[simp] theorem setLockCount_monitor (n : Nat) (s : State) : (setLockCount n s).monitor = s.monitor := by
  simp only [setLockCount, apply_ite State.monitor, setDiscState_monitor, State.withDisc_monitor, ite_self]

@[simp] theorem addReject_monitor (s : State) : (addReject s).monitor = s.monitor := by
  simp only [addReject, apply_ite State.monitor, enterAcquire_monitor, State.withDisc_monitor, ite_self]

@[simp] theorem answerLocked_monitor (x : Int) (o : SampleOrigin) (s : State) : (answerLocked x o s).monitor = s.monitor := by
  unfold answerLocked
  rw [apply_ite State.monitor, addReject_monitor, raise_monitor, count_monitor, recordSample_monitor, State.withDisc_monitor,
    count_monitor, recordSample_monitor, piUpdate_monitor, ite_self]

@[simp] theorem answerUnordered_monitor (o : SampleOrigin) (s : State) : (answerUnordered o s).monitor = s.monitor := by
  unfold answerUnordered
  (repeat' split) <;> simp only [rejectUnordered_monitor, addReject_monitor, State.withDisc_monitor]

@[simp] theorem recordLevel_monitor (n : Fin 2) (l : Bool) (s : State) : (recordLevel n l s).monitor = s.monitor := by
  simp only [recordLevel, State.withCaptures_monitor]

@[simp] theorem setCandidate_monitor (n : Fin 7) (c : Option Candidate) (s : State) : (setCandidate n c s).monitor = s.monitor := by
  simp only [setCandidate, State.withCandidates_monitor]

@[simp] theorem decideType_monitor (n : Fin 7) (c : Candidate) (s : State) : (decideType n c s).1.monitor = s.monitor := by
  unfold decideType
  (repeat' split) <;> simp only [setCandidate_monitor]

@[simp] theorem decideAllocation_monitor (n : Fin 7) (c : Candidate) (s : State) : (decideAllocation n c s).1.monitor = s.monitor := by
  unfold decideAllocation
  repeat' (first | (dsimp only; split) | split)
  all_goals simp only [count_monitor, allocate_monitor, setCandidate_monitor]

@[simp] theorem dropOthers_monitor (k : CellKey) (own : Option (Fin 7)) (s : State) : (dropOthers k own s).monitor = s.monitor := by
  simp only [dropOthers, State.withCandidates_monitor]

@[simp] theorem openWrite_monitor (k : CellKey) (l : LaneClass) (en : Enables) (d : Word) (s : State) : (openWrite k l en d s).monitor = s.monitor := by
  unfold openWrite
  repeat' (first | (dsimp only; split) | split)
  all_goals simp only [setCandidate_monitor, dropOthers_monitor]

@[simp] theorem dropCandidates_monitor (s : State) : (dropCandidates s).monitor = s.monitor := by
  simp only [dropCandidates, State.withCandidates_monitor]

end Sys2Proof.Machine
end

