-- ==== Sys2Proof/Laws/Arbiter.lean ====
section
/-! SUPPORT. Which fields the arbiter's and the word operations leave alone, and the grant in its cases (01 R12 to R14). -/

namespace Sys2Proof.Machine

/-- A raise leaves every field but the Report Writer. -/
theorem raise_eq (f : Flag) (s : State) : ∃ r, raise f s = s.withReport r := by
  unfold raise request
  split
  · exact ⟨_, rfl⟩
  · exact ⟨_, rfl⟩

theorem raise_resetHeld_eq (f : Flag) (s : State) : (raise f s).resetHeld = s.resetHeld := by
  obtain ⟨r, h⟩ := raise_eq f s
  rw [h]
  rfl

theorem raise_straps_eq (f : Flag) (s : State) : (raise f s).straps = s.straps := by
  obtain ⟨r, h⟩ := raise_eq f s
  rw [h]
  rfl

theorem raise_memory_eq (f : Flag) (s : State) : (raise f s).memory = s.memory := by
  obtain ⟨r, h⟩ := raise_eq f s
  rw [h]
  rfl

theorem raise_ports_eq (f : Flag) (s : State) : (raise f s).ports = s.ports := by
  obtain ⟨r, h⟩ := raise_eq f s
  rw [h]
  rfl

theorem raise_decode_eq (f : Flag) (s : State) : (raise f s).decode = s.decode := by
  obtain ⟨r, h⟩ := raise_eq f s
  rw [h]
  rfl

theorem raise_candidates_eq (f : Flag) (s : State) : (raise f s).candidates = s.candidates := by
  obtain ⟨r, h⟩ := raise_eq f s
  rw [h]
  rfl

theorem raise_table_eq (f : Flag) (s : State) : (raise f s).table = s.table := by
  obtain ⟨r, h⟩ := raise_eq f s
  rw [h]
  rfl

theorem raise_delays_eq (f : Flag) (s : State) : (raise f s).delays = s.delays := by
  obtain ⟨r, h⟩ := raise_eq f s
  rw [h]
  rfl

theorem raise_time_eq (f : Flag) (s : State) : (raise f s).time = s.time := by
  obtain ⟨r, h⟩ := raise_eq f s
  rw [h]
  rfl

theorem raise_disc_eq (f : Flag) (s : State) : (raise f s).disc = s.disc := by
  obtain ⟨r, h⟩ := raise_eq f s
  rw [h]
  rfl

theorem raise_captures_eq (f : Flag) (s : State) : (raise f s).captures = s.captures := by
  obtain ⟨r, h⟩ := raise_eq f s
  rw [h]
  rfl

theorem raise_pulses_eq (f : Flag) (s : State) : (raise f s).pulses = s.pulses := by
  obtain ⟨r, h⟩ := raise_eq f s
  rw [h]
  rfl

theorem raise_profiles_eq (f : Flag) (s : State) : (raise f s).profiles = s.profiles := by
  obtain ⟨r, h⟩ := raise_eq f s
  rw [h]
  rfl

theorem raise_monitor_eq (f : Flag) (s : State) : (raise f s).monitor = s.monitor := by
  obtain ⟨r, h⟩ := raise_eq f s
  rw [h]
  rfl

theorem raise_tickLimits_eq (f : Flag) (s : State) : (raise f s).tickLimits = s.tickLimits := by
  obtain ⟨r, h⟩ := raise_eq f s
  rw [h]
  rfl

theorem raise_freeIndex_eq (f : Flag) (s : State) : (raise f s).freeIndex = s.freeIndex := by
  obtain ⟨r, h⟩ := raise_eq f s
  rw [h]
  rfl

theorem raise_pending_eq (f : Flag) (s : State) : (raise f s).pending = s.pending := by
  obtain ⟨r, h⟩ := raise_eq f s
  rw [h]
  rfl

theorem raise_arbiter_eq (f : Flag) (s : State) : (raise f s).arbiter = s.arbiter := by
  obtain ⟨r, h⟩ := raise_eq f s
  rw [h]
  rfl

@[simp] theorem startBurst_resetHeld (k : BlockKind) (ks : List BlockKind) (s : State) : (startBurst k ks s).resetHeld = s.resetHeld := rfl

@[simp] theorem grantFabric_resetHeld (a : Access) (r : List Access) (s : State) : (grantFabric a r s).resetHeld = s.resetHeld := rfl

@[simp] theorem grant_resetHeld (s : State) : (grant s).resetHeld = s.resetHeld := by
  unfold grant
  (repeat' split) <;> first | rfl | (rw [raise_resetHeld_eq]; rfl)

@[simp] theorem grantHeld_resetHeld (s : State) : (grantHeld s).resetHeld = s.resetHeld := by
  unfold grantHeld
  split <;> rfl

@[simp] theorem grantIfFree_resetHeld (s : State) : (grantIfFree s).resetHeld = s.resetHeld := by
  unfold grantIfFree
  (repeat' split) <;> simp only [grantHeld_resetHeld, grant_resetHeld]

@[simp] theorem countWait_resetHeld (s : State) : (countWait s).resetHeld = s.resetHeld := rfl

@[simp] theorem advance_resetHeld (s : State) : (advance s).resetHeld = s.resetHeld := rfl

@[simp] theorem swapAtEnd_resetHeld (s : State) : (swapAtEnd s).resetHeld = s.resetHeld := by
  unfold swapAtEnd
  split
  · exact (outside_fields (performSwap_outside s)).1
  · rfl

@[simp] theorem endAccess_resetHeld (s : State) : (endAccess s).resetHeld = s.resetHeld := by
  unfold endAccess
  rw [grantIfFree_resetHeld, countWait_resetHeld]
  exact ((outside_fields (decodeChange_outside _)).1).trans (swapAtEnd_resetHeld _)

@[simp] theorem writeBurst_resetHeld (b : Burst) (s : State) : (writeBurst b s).resetHeld = s.resetHeld := rfl

@[simp] theorem endBurst_resetHeld (b : Burst) (s : State) : (endBurst b s).resetHeld = s.resetHeld := by
  unfold endBurst
  rw [grantIfFree_resetHeld]
  rfl

@[simp] theorem passWrite_resetHeld (a : WordAddress) (en : Enables) (d : Word) (s : State) : (passWrite a en d s).resetHeld = s.resetHeld := rfl

@[simp] theorem passRead_resetHeld (a : WordAddress) (d : Word) (s : State) : (passRead a d s).resetHeld = s.resetHeld := rfl

@[simp] theorem passPlain_resetHeld (a : Access) (en : Enables) (d : Word) (s : State) : (passPlain a en d s).resetHeld = s.resetHeld := by
  unfold passPlain
  split <;> rfl

@[simp] theorem startBurst_straps (k : BlockKind) (ks : List BlockKind) (s : State) : (startBurst k ks s).straps = s.straps := rfl

@[simp] theorem grantFabric_straps (a : Access) (r : List Access) (s : State) : (grantFabric a r s).straps = s.straps := rfl

@[simp] theorem grant_straps (s : State) : (grant s).straps = s.straps := by
  unfold grant
  (repeat' split) <;> first | rfl | (rw [raise_straps_eq]; rfl)

@[simp] theorem grantHeld_straps (s : State) : (grantHeld s).straps = s.straps := by
  unfold grantHeld
  split <;> rfl

@[simp] theorem grantIfFree_straps (s : State) : (grantIfFree s).straps = s.straps := by
  unfold grantIfFree
  (repeat' split) <;> simp only [grantHeld_straps, grant_straps]

@[simp] theorem countWait_straps (s : State) : (countWait s).straps = s.straps := rfl

@[simp] theorem advance_straps (s : State) : (advance s).straps = s.straps := rfl

@[simp] theorem swapAtEnd_straps (s : State) : (swapAtEnd s).straps = s.straps := by
  unfold swapAtEnd
  split
  · exact (outside_fields (performSwap_outside s)).2.1
  · rfl

@[simp] theorem endAccess_straps (s : State) : (endAccess s).straps = s.straps := by
  unfold endAccess
  rw [grantIfFree_straps, countWait_straps]
  exact ((outside_fields (decodeChange_outside _)).2.1).trans (swapAtEnd_straps _)

@[simp] theorem writeBurst_straps (b : Burst) (s : State) : (writeBurst b s).straps = s.straps := rfl

@[simp] theorem endBurst_straps (b : Burst) (s : State) : (endBurst b s).straps = s.straps := by
  unfold endBurst
  rw [grantIfFree_straps]
  rfl

@[simp] theorem passWrite_straps (a : WordAddress) (en : Enables) (d : Word) (s : State) : (passWrite a en d s).straps = s.straps := rfl

@[simp] theorem passRead_straps (a : WordAddress) (d : Word) (s : State) : (passRead a d s).straps = s.straps := rfl

@[simp] theorem passPlain_straps (a : Access) (en : Enables) (d : Word) (s : State) : (passPlain a en d s).straps = s.straps := by
  unfold passPlain
  split <;> rfl

@[simp] theorem startBurst_memory (k : BlockKind) (ks : List BlockKind) (s : State) : (startBurst k ks s).memory = s.memory := rfl

@[simp] theorem grantFabric_memory (a : Access) (r : List Access) (s : State) : (grantFabric a r s).memory = s.memory := rfl

@[simp] theorem grant_memory (s : State) : (grant s).memory = s.memory := by
  unfold grant
  (repeat' split) <;> first | rfl | (rw [raise_memory_eq]; rfl)

@[simp] theorem grantHeld_memory (s : State) : (grantHeld s).memory = s.memory := by
  unfold grantHeld
  split <;> rfl

@[simp] theorem grantIfFree_memory (s : State) : (grantIfFree s).memory = s.memory := by
  unfold grantIfFree
  (repeat' split) <;> simp only [grantHeld_memory, grant_memory]

@[simp] theorem countWait_memory (s : State) : (countWait s).memory = s.memory := rfl

@[simp] theorem advance_memory (s : State) : (advance s).memory = s.memory := rfl

@[simp] theorem swapAtEnd_memory (s : State) : (swapAtEnd s).memory = s.memory := by
  unfold swapAtEnd
  split
  · exact (outside_fields (performSwap_outside s)).2.2.1
  · rfl

@[simp] theorem endAccess_memory (s : State) : (endAccess s).memory = s.memory := by
  unfold endAccess
  rw [grantIfFree_memory, countWait_memory]
  exact ((outside_fields (decodeChange_outside _)).2.2.1).trans (swapAtEnd_memory _)

@[simp] theorem passRead_memory (a : WordAddress) (d : Word) (s : State) : (passRead a d s).memory = s.memory := rfl

@[simp] theorem startBurst_ports (k : BlockKind) (ks : List BlockKind) (s : State) : (startBurst k ks s).ports = s.ports := rfl

@[simp] theorem grantFabric_ports (a : Access) (r : List Access) (s : State) : (grantFabric a r s).ports = s.ports := rfl

@[simp] theorem grant_ports (s : State) : (grant s).ports = s.ports := by
  unfold grant
  (repeat' split) <;> first | rfl | (rw [raise_ports_eq]; rfl)

@[simp] theorem grantHeld_ports (s : State) : (grantHeld s).ports = s.ports := by
  unfold grantHeld
  split <;> rfl

@[simp] theorem grantIfFree_ports (s : State) : (grantIfFree s).ports = s.ports := by
  unfold grantIfFree
  (repeat' split) <;> simp only [grantHeld_ports, grant_ports]

@[simp] theorem countWait_ports (s : State) : (countWait s).ports = s.ports := rfl

@[simp] theorem advance_ports (s : State) : (advance s).ports = s.ports := rfl

@[simp] theorem swapAtEnd_ports (s : State) : (swapAtEnd s).ports = s.ports := by
  unfold swapAtEnd
  split
  · exact (outside_fields (performSwap_outside s)).2.2.2.1
  · rfl

@[simp] theorem endAccess_ports (s : State) : (endAccess s).ports = s.ports := by
  unfold endAccess
  rw [grantIfFree_ports, countWait_ports]
  exact ((outside_fields (decodeChange_outside _)).2.2.2.1).trans (swapAtEnd_ports _)

@[simp] theorem startBurst_decode (k : BlockKind) (ks : List BlockKind) (s : State) : (startBurst k ks s).decode = s.decode := rfl

@[simp] theorem grantFabric_decode (a : Access) (r : List Access) (s : State) : (grantFabric a r s).decode = s.decode := rfl

@[simp] theorem grant_decode (s : State) : (grant s).decode = s.decode := by
  unfold grant
  (repeat' split) <;> first | rfl | (rw [raise_decode_eq]; rfl)

@[simp] theorem grantHeld_decode (s : State) : (grantHeld s).decode = s.decode := by
  unfold grantHeld
  split <;> rfl

@[simp] theorem grantIfFree_decode (s : State) : (grantIfFree s).decode = s.decode := by
  unfold grantIfFree
  (repeat' split) <;> simp only [grantHeld_decode, grant_decode]

@[simp] theorem countWait_decode (s : State) : (countWait s).decode = s.decode := rfl

@[simp] theorem advance_decode (s : State) : (advance s).decode = s.decode := rfl

@[simp] theorem writeBurst_decode (b : Burst) (s : State) : (writeBurst b s).decode = s.decode := rfl

@[simp] theorem endBurst_decode (b : Burst) (s : State) : (endBurst b s).decode = s.decode := by
  unfold endBurst
  rw [grantIfFree_decode]
  rfl

@[simp] theorem passWrite_decode (a : WordAddress) (en : Enables) (d : Word) (s : State) : (passWrite a en d s).decode = s.decode := rfl

@[simp] theorem passRead_decode (a : WordAddress) (d : Word) (s : State) : (passRead a d s).decode = s.decode := rfl

@[simp] theorem passPlain_decode (a : Access) (en : Enables) (d : Word) (s : State) : (passPlain a en d s).decode = s.decode := by
  unfold passPlain
  split <;> rfl

@[simp] theorem startBurst_candidates (k : BlockKind) (ks : List BlockKind) (s : State) : (startBurst k ks s).candidates = s.candidates := rfl

@[simp] theorem grantFabric_candidates (a : Access) (r : List Access) (s : State) : (grantFabric a r s).candidates = s.candidates := rfl

@[simp] theorem grant_candidates (s : State) : (grant s).candidates = s.candidates := by
  unfold grant
  (repeat' split) <;> first | rfl | (rw [raise_candidates_eq]; rfl)

@[simp] theorem grantHeld_candidates (s : State) : (grantHeld s).candidates = s.candidates := by
  unfold grantHeld
  split <;> rfl

@[simp] theorem grantIfFree_candidates (s : State) : (grantIfFree s).candidates = s.candidates := by
  unfold grantIfFree
  (repeat' split) <;> simp only [grantHeld_candidates, grant_candidates]

@[simp] theorem countWait_candidates (s : State) : (countWait s).candidates = s.candidates := rfl

@[simp] theorem advance_candidates (s : State) : (advance s).candidates = s.candidates := rfl

@[simp] theorem writeBurst_candidates (b : Burst) (s : State) : (writeBurst b s).candidates = s.candidates := rfl

@[simp] theorem endBurst_candidates (b : Burst) (s : State) : (endBurst b s).candidates = s.candidates := by
  unfold endBurst
  rw [grantIfFree_candidates]
  rfl

@[simp] theorem passWrite_candidates (a : WordAddress) (en : Enables) (d : Word) (s : State) : (passWrite a en d s).candidates = s.candidates := rfl

@[simp] theorem passRead_candidates (a : WordAddress) (d : Word) (s : State) : (passRead a d s).candidates = s.candidates := rfl

@[simp] theorem passPlain_candidates (a : Access) (en : Enables) (d : Word) (s : State) : (passPlain a en d s).candidates = s.candidates := by
  unfold passPlain
  split <;> rfl

@[simp] theorem startBurst_table (k : BlockKind) (ks : List BlockKind) (s : State) : (startBurst k ks s).table = s.table := rfl

@[simp] theorem grantFabric_table (a : Access) (r : List Access) (s : State) : (grantFabric a r s).table = s.table := rfl

@[simp] theorem grant_table (s : State) : (grant s).table = s.table := by
  unfold grant
  (repeat' split) <;> first | rfl | (rw [raise_table_eq]; rfl)

@[simp] theorem grantHeld_table (s : State) : (grantHeld s).table = s.table := by
  unfold grantHeld
  split <;> rfl

@[simp] theorem grantIfFree_table (s : State) : (grantIfFree s).table = s.table := by
  unfold grantIfFree
  (repeat' split) <;> simp only [grantHeld_table, grant_table]

@[simp] theorem countWait_table (s : State) : (countWait s).table = s.table := rfl

@[simp] theorem advance_table (s : State) : (advance s).table = s.table := rfl

@[simp] theorem writeBurst_table (b : Burst) (s : State) : (writeBurst b s).table = s.table := rfl

@[simp] theorem endBurst_table (b : Burst) (s : State) : (endBurst b s).table = s.table := by
  unfold endBurst
  rw [grantIfFree_table]
  rfl

@[simp] theorem passWrite_table (a : WordAddress) (en : Enables) (d : Word) (s : State) : (passWrite a en d s).table = s.table := rfl

@[simp] theorem passRead_table (a : WordAddress) (d : Word) (s : State) : (passRead a d s).table = s.table := rfl

@[simp] theorem passPlain_table (a : Access) (en : Enables) (d : Word) (s : State) : (passPlain a en d s).table = s.table := by
  unfold passPlain
  split <;> rfl

@[simp] theorem startBurst_delays (k : BlockKind) (ks : List BlockKind) (s : State) : (startBurst k ks s).delays = s.delays := rfl

@[simp] theorem grantFabric_delays (a : Access) (r : List Access) (s : State) : (grantFabric a r s).delays = s.delays := rfl

@[simp] theorem grant_delays (s : State) : (grant s).delays = s.delays := by
  unfold grant
  (repeat' split) <;> first | rfl | (rw [raise_delays_eq]; rfl)

@[simp] theorem grantHeld_delays (s : State) : (grantHeld s).delays = s.delays := by
  unfold grantHeld
  split <;> rfl

@[simp] theorem grantIfFree_delays (s : State) : (grantIfFree s).delays = s.delays := by
  unfold grantIfFree
  (repeat' split) <;> simp only [grantHeld_delays, grant_delays]

@[simp] theorem countWait_delays (s : State) : (countWait s).delays = s.delays := rfl

@[simp] theorem advance_delays (s : State) : (advance s).delays = s.delays := rfl

@[simp] theorem writeBurst_delays (b : Burst) (s : State) : (writeBurst b s).delays = s.delays := rfl

@[simp] theorem endBurst_delays (b : Burst) (s : State) : (endBurst b s).delays = s.delays := by
  unfold endBurst
  rw [grantIfFree_delays]
  rfl

@[simp] theorem passWrite_delays (a : WordAddress) (en : Enables) (d : Word) (s : State) : (passWrite a en d s).delays = s.delays := rfl

@[simp] theorem passRead_delays (a : WordAddress) (d : Word) (s : State) : (passRead a d s).delays = s.delays := rfl

@[simp] theorem passPlain_delays (a : Access) (en : Enables) (d : Word) (s : State) : (passPlain a en d s).delays = s.delays := by
  unfold passPlain
  split <;> rfl

@[simp] theorem startBurst_time (k : BlockKind) (ks : List BlockKind) (s : State) : (startBurst k ks s).time = s.time := rfl

@[simp] theorem grantFabric_time (a : Access) (r : List Access) (s : State) : (grantFabric a r s).time = s.time := rfl

@[simp] theorem grant_time (s : State) : (grant s).time = s.time := by
  unfold grant
  (repeat' split) <;> first | rfl | (rw [raise_time_eq]; rfl)

@[simp] theorem grantHeld_time (s : State) : (grantHeld s).time = s.time := by
  unfold grantHeld
  split <;> rfl

@[simp] theorem grantIfFree_time (s : State) : (grantIfFree s).time = s.time := by
  unfold grantIfFree
  (repeat' split) <;> simp only [grantHeld_time, grant_time]

@[simp] theorem countWait_time (s : State) : (countWait s).time = s.time := rfl

@[simp] theorem advance_time (s : State) : (advance s).time = s.time := rfl

@[simp] theorem writeBurst_time (b : Burst) (s : State) : (writeBurst b s).time = s.time := rfl

@[simp] theorem endBurst_time (b : Burst) (s : State) : (endBurst b s).time = s.time := by
  unfold endBurst
  rw [grantIfFree_time]
  rfl

@[simp] theorem passWrite_time (a : WordAddress) (en : Enables) (d : Word) (s : State) : (passWrite a en d s).time = s.time := rfl

@[simp] theorem passRead_time (a : WordAddress) (d : Word) (s : State) : (passRead a d s).time = s.time := rfl

@[simp] theorem passPlain_time (a : Access) (en : Enables) (d : Word) (s : State) : (passPlain a en d s).time = s.time := by
  unfold passPlain
  split <;> rfl

@[simp] theorem startBurst_disc (k : BlockKind) (ks : List BlockKind) (s : State) : (startBurst k ks s).disc = s.disc := rfl

@[simp] theorem grantFabric_disc (a : Access) (r : List Access) (s : State) : (grantFabric a r s).disc = s.disc := rfl

@[simp] theorem grant_disc (s : State) : (grant s).disc = s.disc := by
  unfold grant
  (repeat' split) <;> first | rfl | (rw [raise_disc_eq]; rfl)

@[simp] theorem grantHeld_disc (s : State) : (grantHeld s).disc = s.disc := by
  unfold grantHeld
  split <;> rfl

@[simp] theorem grantIfFree_disc (s : State) : (grantIfFree s).disc = s.disc := by
  unfold grantIfFree
  (repeat' split) <;> simp only [grantHeld_disc, grant_disc]

@[simp] theorem countWait_disc (s : State) : (countWait s).disc = s.disc := rfl

@[simp] theorem advance_disc (s : State) : (advance s).disc = s.disc := rfl

@[simp] theorem writeBurst_disc (b : Burst) (s : State) : (writeBurst b s).disc = s.disc := rfl

@[simp] theorem endBurst_disc (b : Burst) (s : State) : (endBurst b s).disc = s.disc := by
  unfold endBurst
  rw [grantIfFree_disc]
  rfl

@[simp] theorem passWrite_disc (a : WordAddress) (en : Enables) (d : Word) (s : State) : (passWrite a en d s).disc = s.disc := rfl

@[simp] theorem passRead_disc (a : WordAddress) (d : Word) (s : State) : (passRead a d s).disc = s.disc := rfl

@[simp] theorem passPlain_disc (a : Access) (en : Enables) (d : Word) (s : State) : (passPlain a en d s).disc = s.disc := by
  unfold passPlain
  split <;> rfl

@[simp] theorem startBurst_captures (k : BlockKind) (ks : List BlockKind) (s : State) : (startBurst k ks s).captures = s.captures := rfl

@[simp] theorem grantFabric_captures (a : Access) (r : List Access) (s : State) : (grantFabric a r s).captures = s.captures := rfl

@[simp] theorem grant_captures (s : State) : (grant s).captures = s.captures := by
  unfold grant
  (repeat' split) <;> first | rfl | (rw [raise_captures_eq]; rfl)

@[simp] theorem grantHeld_captures (s : State) : (grantHeld s).captures = s.captures := by
  unfold grantHeld
  split <;> rfl

@[simp] theorem grantIfFree_captures (s : State) : (grantIfFree s).captures = s.captures := by
  unfold grantIfFree
  (repeat' split) <;> simp only [grantHeld_captures, grant_captures]

@[simp] theorem countWait_captures (s : State) : (countWait s).captures = s.captures := rfl

@[simp] theorem advance_captures (s : State) : (advance s).captures = s.captures := rfl

@[simp] theorem swapAtEnd_captures (s : State) : (swapAtEnd s).captures = s.captures := by
  unfold swapAtEnd
  split
  · exact performSwap_captures s
  · rfl

@[simp] theorem endAccess_captures (s : State) : (endAccess s).captures = s.captures := by
  unfold endAccess
  rw [grantIfFree_captures, countWait_captures]
  exact (decodeChange_captures _).trans (swapAtEnd_captures _)

@[simp] theorem writeBurst_captures (b : Burst) (s : State) : (writeBurst b s).captures = s.captures := rfl

@[simp] theorem endBurst_captures (b : Burst) (s : State) : (endBurst b s).captures = s.captures := by
  unfold endBurst
  rw [grantIfFree_captures]
  rfl

@[simp] theorem passWrite_captures (a : WordAddress) (en : Enables) (d : Word) (s : State) : (passWrite a en d s).captures = s.captures := rfl

@[simp] theorem passRead_captures (a : WordAddress) (d : Word) (s : State) : (passRead a d s).captures = s.captures := rfl

@[simp] theorem passPlain_captures (a : Access) (en : Enables) (d : Word) (s : State) : (passPlain a en d s).captures = s.captures := by
  unfold passPlain
  split <;> rfl

@[simp] theorem startBurst_pulses (k : BlockKind) (ks : List BlockKind) (s : State) : (startBurst k ks s).pulses = s.pulses := rfl

@[simp] theorem grantFabric_pulses (a : Access) (r : List Access) (s : State) : (grantFabric a r s).pulses = s.pulses := rfl

@[simp] theorem grant_pulses (s : State) : (grant s).pulses = s.pulses := by
  unfold grant
  (repeat' split) <;> first | rfl | (rw [raise_pulses_eq]; rfl)

@[simp] theorem grantHeld_pulses (s : State) : (grantHeld s).pulses = s.pulses := by
  unfold grantHeld
  split <;> rfl

@[simp] theorem grantIfFree_pulses (s : State) : (grantIfFree s).pulses = s.pulses := by
  unfold grantIfFree
  (repeat' split) <;> simp only [grantHeld_pulses, grant_pulses]

@[simp] theorem countWait_pulses (s : State) : (countWait s).pulses = s.pulses := rfl

@[simp] theorem advance_pulses (s : State) : (advance s).pulses = s.pulses := rfl

@[simp] theorem writeBurst_pulses (b : Burst) (s : State) : (writeBurst b s).pulses = s.pulses := rfl

@[simp] theorem endBurst_pulses (b : Burst) (s : State) : (endBurst b s).pulses = s.pulses := by
  unfold endBurst
  rw [grantIfFree_pulses]
  rfl

@[simp] theorem passWrite_pulses (a : WordAddress) (en : Enables) (d : Word) (s : State) : (passWrite a en d s).pulses = s.pulses := rfl

@[simp] theorem passRead_pulses (a : WordAddress) (d : Word) (s : State) : (passRead a d s).pulses = s.pulses := rfl

@[simp] theorem passPlain_pulses (a : Access) (en : Enables) (d : Word) (s : State) : (passPlain a en d s).pulses = s.pulses := by
  unfold passPlain
  split <;> rfl

@[simp] theorem startBurst_profiles (k : BlockKind) (ks : List BlockKind) (s : State) : (startBurst k ks s).profiles = s.profiles := rfl

@[simp] theorem grantFabric_profiles (a : Access) (r : List Access) (s : State) : (grantFabric a r s).profiles = s.profiles := rfl

@[simp] theorem grant_profiles (s : State) : (grant s).profiles = s.profiles := by
  unfold grant
  (repeat' split) <;> first | rfl | (rw [raise_profiles_eq]; rfl)

@[simp] theorem grantHeld_profiles (s : State) : (grantHeld s).profiles = s.profiles := by
  unfold grantHeld
  split <;> rfl

@[simp] theorem grantIfFree_profiles (s : State) : (grantIfFree s).profiles = s.profiles := by
  unfold grantIfFree
  (repeat' split) <;> simp only [grantHeld_profiles, grant_profiles]

@[simp] theorem countWait_profiles (s : State) : (countWait s).profiles = s.profiles := rfl

@[simp] theorem advance_profiles (s : State) : (advance s).profiles = s.profiles := rfl

@[simp] theorem writeBurst_profiles (b : Burst) (s : State) : (writeBurst b s).profiles = s.profiles := rfl

@[simp] theorem endBurst_profiles (b : Burst) (s : State) : (endBurst b s).profiles = s.profiles := by
  unfold endBurst
  rw [grantIfFree_profiles]
  rfl

@[simp] theorem passWrite_profiles (a : WordAddress) (en : Enables) (d : Word) (s : State) : (passWrite a en d s).profiles = s.profiles := rfl

@[simp] theorem passRead_profiles (a : WordAddress) (d : Word) (s : State) : (passRead a d s).profiles = s.profiles := rfl

@[simp] theorem passPlain_profiles (a : Access) (en : Enables) (d : Word) (s : State) : (passPlain a en d s).profiles = s.profiles := by
  unfold passPlain
  split <;> rfl

@[simp] theorem startBurst_monitor (k : BlockKind) (ks : List BlockKind) (s : State) : (startBurst k ks s).monitor = s.monitor := rfl

@[simp] theorem grantFabric_monitor (a : Access) (r : List Access) (s : State) : (grantFabric a r s).monitor = s.monitor := rfl

@[simp] theorem grant_monitor (s : State) : (grant s).monitor = s.monitor := by
  unfold grant
  (repeat' split) <;> first | rfl | (rw [raise_monitor_eq]; rfl)

@[simp] theorem grantHeld_monitor (s : State) : (grantHeld s).monitor = s.monitor := by
  unfold grantHeld
  split <;> rfl

@[simp] theorem grantIfFree_monitor (s : State) : (grantIfFree s).monitor = s.monitor := by
  unfold grantIfFree
  (repeat' split) <;> simp only [grantHeld_monitor, grant_monitor]

@[simp] theorem countWait_monitor (s : State) : (countWait s).monitor = s.monitor := rfl

@[simp] theorem advance_monitor (s : State) : (advance s).monitor = s.monitor := rfl

@[simp] theorem swapAtEnd_monitor (s : State) : (swapAtEnd s).monitor = s.monitor := by
  unfold swapAtEnd
  split
  · exact performSwap_monitor s
  · rfl

@[simp] theorem endAccess_monitor (s : State) : (endAccess s).monitor = s.monitor := by
  unfold endAccess
  rw [grantIfFree_monitor, countWait_monitor]
  exact (decodeChange_monitor _).trans (swapAtEnd_monitor _)

@[simp] theorem writeBurst_monitor (b : Burst) (s : State) : (writeBurst b s).monitor = s.monitor := rfl

@[simp] theorem endBurst_monitor (b : Burst) (s : State) : (endBurst b s).monitor = s.monitor := by
  unfold endBurst
  rw [grantIfFree_monitor]
  rfl

@[simp] theorem passWrite_monitor (a : WordAddress) (en : Enables) (d : Word) (s : State) : (passWrite a en d s).monitor = s.monitor := rfl

@[simp] theorem passRead_monitor (a : WordAddress) (d : Word) (s : State) : (passRead a d s).monitor = s.monitor := rfl

@[simp] theorem passPlain_monitor (a : Access) (en : Enables) (d : Word) (s : State) : (passPlain a en d s).monitor = s.monitor := by
  unfold passPlain
  split <;> rfl

@[simp] theorem startBurst_tickLimits (k : BlockKind) (ks : List BlockKind) (s : State) : (startBurst k ks s).tickLimits = s.tickLimits := rfl

@[simp] theorem grantFabric_tickLimits (a : Access) (r : List Access) (s : State) : (grantFabric a r s).tickLimits = s.tickLimits := rfl

@[simp] theorem grant_tickLimits (s : State) : (grant s).tickLimits = s.tickLimits := by
  unfold grant
  (repeat' split) <;> first | rfl | (rw [raise_tickLimits_eq]; rfl)

@[simp] theorem grantHeld_tickLimits (s : State) : (grantHeld s).tickLimits = s.tickLimits := by
  unfold grantHeld
  split <;> rfl

@[simp] theorem grantIfFree_tickLimits (s : State) : (grantIfFree s).tickLimits = s.tickLimits := by
  unfold grantIfFree
  (repeat' split) <;> simp only [grantHeld_tickLimits, grant_tickLimits]

@[simp] theorem countWait_tickLimits (s : State) : (countWait s).tickLimits = s.tickLimits := rfl

@[simp] theorem advance_tickLimits (s : State) : (advance s).tickLimits = s.tickLimits := rfl

@[simp] theorem swapAtEnd_tickLimits (s : State) : (swapAtEnd s).tickLimits = s.tickLimits := by
  unfold swapAtEnd
  split
  · exact (outside_fields (performSwap_outside s)).2.2.2.2.2.1
  · rfl

@[simp] theorem endAccess_tickLimits (s : State) : (endAccess s).tickLimits = s.tickLimits := by
  unfold endAccess
  rw [grantIfFree_tickLimits, countWait_tickLimits]
  exact ((outside_fields (decodeChange_outside _)).2.2.2.2.2.1).trans (swapAtEnd_tickLimits _)

@[simp] theorem writeBurst_tickLimits (b : Burst) (s : State) : (writeBurst b s).tickLimits = s.tickLimits := rfl

@[simp] theorem endBurst_tickLimits (b : Burst) (s : State) : (endBurst b s).tickLimits = s.tickLimits := by
  unfold endBurst
  rw [grantIfFree_tickLimits]
  rfl

@[simp] theorem passWrite_tickLimits (a : WordAddress) (en : Enables) (d : Word) (s : State) : (passWrite a en d s).tickLimits = s.tickLimits := rfl

@[simp] theorem passRead_tickLimits (a : WordAddress) (d : Word) (s : State) : (passRead a d s).tickLimits = s.tickLimits := rfl

@[simp] theorem passPlain_tickLimits (a : Access) (en : Enables) (d : Word) (s : State) : (passPlain a en d s).tickLimits = s.tickLimits := by
  unfold passPlain
  split <;> rfl

@[simp] theorem startBurst_freeIndex (k : BlockKind) (ks : List BlockKind) (s : State) : (startBurst k ks s).freeIndex = s.freeIndex := rfl

@[simp] theorem grantFabric_freeIndex (a : Access) (r : List Access) (s : State) : (grantFabric a r s).freeIndex = s.freeIndex := rfl

@[simp] theorem grant_freeIndex (s : State) : (grant s).freeIndex = s.freeIndex := by
  unfold grant
  (repeat' split) <;> first | rfl | (rw [raise_freeIndex_eq]; rfl)

@[simp] theorem grantHeld_freeIndex (s : State) : (grantHeld s).freeIndex = s.freeIndex := by
  unfold grantHeld
  split <;> rfl

@[simp] theorem grantIfFree_freeIndex (s : State) : (grantIfFree s).freeIndex = s.freeIndex := by
  unfold grantIfFree
  (repeat' split) <;> simp only [grantHeld_freeIndex, grant_freeIndex]

@[simp] theorem countWait_freeIndex (s : State) : (countWait s).freeIndex = s.freeIndex := rfl

@[simp] theorem advance_freeIndex (s : State) : (advance s).freeIndex = s.freeIndex := rfl

@[simp] theorem swapAtEnd_freeIndex (s : State) : (swapAtEnd s).freeIndex = s.freeIndex := by
  unfold swapAtEnd
  split
  · exact (outside_fields (performSwap_outside s)).2.2.2.2.2.2.1
  · rfl

@[simp] theorem endAccess_freeIndex (s : State) : (endAccess s).freeIndex = s.freeIndex := by
  unfold endAccess
  rw [grantIfFree_freeIndex, countWait_freeIndex]
  exact ((outside_fields (decodeChange_outside _)).2.2.2.2.2.2.1).trans (swapAtEnd_freeIndex _)

@[simp] theorem writeBurst_freeIndex (b : Burst) (s : State) : (writeBurst b s).freeIndex = s.freeIndex := rfl

@[simp] theorem endBurst_freeIndex (b : Burst) (s : State) : (endBurst b s).freeIndex = s.freeIndex := by
  unfold endBurst
  rw [grantIfFree_freeIndex]
  rfl

@[simp] theorem passWrite_freeIndex (a : WordAddress) (en : Enables) (d : Word) (s : State) : (passWrite a en d s).freeIndex = s.freeIndex := rfl

@[simp] theorem passRead_freeIndex (a : WordAddress) (d : Word) (s : State) : (passRead a d s).freeIndex = s.freeIndex := rfl

@[simp] theorem passPlain_freeIndex (a : Access) (en : Enables) (d : Word) (s : State) : (passPlain a en d s).freeIndex = s.freeIndex := by
  unfold passPlain
  split <;> rfl

@[simp] theorem startBurst_pending (k : BlockKind) (ks : List BlockKind) (s : State) : (startBurst k ks s).pending = s.pending := rfl

@[simp] theorem grantFabric_pending (a : Access) (r : List Access) (s : State) : (grantFabric a r s).pending = s.pending := rfl

@[simp] theorem grant_pending (s : State) : (grant s).pending = s.pending := by
  unfold grant
  (repeat' split) <;> first | rfl | (rw [raise_pending_eq]; rfl)

@[simp] theorem grantHeld_pending (s : State) : (grantHeld s).pending = s.pending := by
  unfold grantHeld
  split <;> rfl

@[simp] theorem grantIfFree_pending (s : State) : (grantIfFree s).pending = s.pending := by
  unfold grantIfFree
  (repeat' split) <;> simp only [grantHeld_pending, grant_pending]

@[simp] theorem countWait_pending (s : State) : (countWait s).pending = s.pending := rfl

@[simp] theorem advance_pending (s : State) : (advance s).pending = s.pending := rfl

@[simp] theorem swapAtEnd_pending (s : State) : (swapAtEnd s).pending = s.pending := by
  unfold swapAtEnd
  split
  · exact (outside_fields (performSwap_outside s)).2.2.2.2.2.2.2
  · rfl

@[simp] theorem endAccess_pending (s : State) : (endAccess s).pending = s.pending := by
  unfold endAccess
  rw [grantIfFree_pending, countWait_pending]
  exact ((outside_fields (decodeChange_outside _)).2.2.2.2.2.2.2).trans (swapAtEnd_pending _)

@[simp] theorem writeBurst_pending (b : Burst) (s : State) : (writeBurst b s).pending = s.pending := rfl

@[simp] theorem endBurst_pending (b : Burst) (s : State) : (endBurst b s).pending = s.pending := by
  unfold endBurst
  rw [grantIfFree_pending]
  rfl

@[simp] theorem passWrite_pending (a : WordAddress) (en : Enables) (d : Word) (s : State) : (passWrite a en d s).pending = s.pending := rfl

@[simp] theorem passRead_pending (a : WordAddress) (d : Word) (s : State) : (passRead a d s).pending = s.pending := rfl

@[simp] theorem passPlain_pending (a : Access) (en : Enables) (d : Word) (s : State) : (passPlain a en d s).pending = s.pending := by
  unfold passPlain
  split <;> rfl

@[simp] theorem swapAtEnd_arbiter (s : State) : (swapAtEnd s).arbiter = s.arbiter := by
  unfold swapAtEnd
  split
  · exact (outside_fields (performSwap_outside s)).2.2.2.2.1
  · rfl

@[simp] theorem writeBurst_arbiter (b : Burst) (s : State) : (writeBurst b s).arbiter = s.arbiter := rfl

@[simp] theorem grantFabric_report (a : Access) (r : List Access) (s : State) : (grantFabric a r s).report = s.report := rfl

@[simp] theorem grantHeld_report (s : State) : (grantHeld s).report = s.report := by
  unfold grantHeld
  split <;> rfl

@[simp] theorem countWait_report (s : State) : (countWait s).report = s.report := rfl

@[simp] theorem advance_report (s : State) : (advance s).report = s.report := rfl

@[simp] theorem writeBurst_report (b : Burst) (s : State) : (writeBurst b s).report = s.report := rfl

@[simp] theorem passWrite_report (a : WordAddress) (en : Enables) (d : Word) (s : State) : (passWrite a en d s).report = s.report := rfl

@[simp] theorem passRead_report (a : WordAddress) (d : Word) (s : State) : (passRead a d s).report = s.report := rfl

@[simp] theorem passPlain_report (a : Access) (en : Enables) (d : Word) (s : State) : (passPlain a en d s).report = s.report := by
  unfold passPlain
  split <;> rfl

/-- The grant at a port that is not free is none. -/
theorem grantIfFree_busy {s : State} (h : portFree s = false) : grantIfFree s = s := by
  unfold grantIfFree
  rw [h]
  rfl

/-- The grant at a free port that finds no work leaves the port IDLE (R12). -/
theorem grantIfFree_none {s : State} (hf : portFree s = true) (hr : s.resetHeld = false) (hw : s.arbiter.waiting = [])
    (hq : s.report.queue = []) : grantIfFree s = s.withArbiter { s.arbiter with owner := .idle } := by
  unfold grantIfFree grant
  simp only [hf, hr, hw, hq, if_true, Bool.false_eq_true, if_false]

/-- The grant at a free port with no access waiting starts the burst of the head of the queue (R12). -/
theorem grantIfFree_report {s : State} {k : BlockKind} {ks : List BlockKind} (hf : portFree s = true) (hr : s.resetHeld = false)
    (hw : s.arbiter.waiting = []) (hq : s.report.queue = k :: ks) : grantIfFree s = startBurst k ks s := by
  unfold grantIfFree grant
  simp only [hf, hr, hw, hq, if_true, Bool.false_eq_true, if_false]

/-- The grant at a free port to the first access waiting, when no report waits or the wait count is below 64 (R12). -/
theorem grantIfFree_fabric {s : State} {a : Access} {rest : List Access} (hf : portFree s = true) (hr : s.resetHeld = false)
    (hw : s.arbiter.waiting = a :: rest) (hq : s.report.queue = [] ∨ s.arbiter.waitCount < 64) :
    grantIfFree s = grantFabric a rest s := by
  unfold grantIfFree grant
  simp only [hf, hr, hw, if_true, Bool.false_eq_true, if_false]
  cases hk : s.report.queue with
  | nil => rfl
  | cons k ks =>
    rcases hq with h | h
    · rw [hk] at h
      cases h
    · exact if_pos h

/-- Forced service at a free port: the wait count is at its limit (R14). -/
theorem grantIfFree_forced {s : State} {a : Access} {rest : List Access} {k : BlockKind} {ks : List BlockKind}
    (hf : portFree s = true) (hr : s.resetHeld = false) (hw : s.arbiter.waiting = a :: rest) (hq : s.report.queue = k :: ks)
    (hc : 64 ≤ s.arbiter.waitCount) : grantIfFree s = raise .reportForced (startBurst k ks s) := by
  unfold grantIfFree grant
  simp only [hf, hr, hw, hq, if_true, Bool.false_eq_true, if_false]
  exact if_neg (Nat.not_lt.2 hc)

/-- The grant at a free port while reset is held (R15, R18). -/
theorem grantIfFree_held {s : State} (hf : portFree s = true) (hr : s.resetHeld = true) : grantIfFree s = grantHeld s := by
  unfold grantIfFree
  simp only [hf, hr, if_true]

end Sys2Proof.Machine
end

