-- ==== Sys2Proof/Laws/Memory.lean ====
section
/-! SUPPORT. The SRAM: reading after writing, and the canonical form that every write keeps (01 R3). -/

namespace Sys2Proof.Machine

/-- Cells that rise above some address rise above a lower one. -/
theorem cellsRise_weaken {lo hi : Nat} (h : lo ≤ hi) : ∀ {l}, cellsRise (some hi) l = true → cellsRise (some lo) l = true
  | [], _ => rfl
  | (x, b) :: rest, hl => by
    simp only [cellsRise, Bool.and_eq_true, decide_eq_true_eq] at hl ⊢
    exact ⟨⟨by omega, hl.1.2⟩, hl.2⟩

/-- Cells that rise above some address rise. -/
theorem cellsRise_none {lo : Nat} : ∀ {l}, cellsRise (some lo) l = true → cellsRise none l = true
  | [], _ => rfl
  | (x, b) :: rest, hl => by
    simp only [cellsRise, Bool.and_eq_true, decide_eq_true_eq, Bool.true_and] at hl ⊢
    exact ⟨hl.1.2, hl.2⟩

/-- An address at or below the cells' lower bound is not listed. -/
theorem lookupCell_low {a : Nat} : ∀ {lo : Nat} {l}, a ≤ lo → cellsRise (some lo) l = true → lookupCell a l = blankOctet
  | _, [], _, _ => rfl
  | lo, (x, b) :: rest, ha, hl => by
    simp only [cellsRise, Bool.and_eq_true, decide_eq_true_eq] at hl
    have hx : x ≠ a := by omega
    simp only [lookupCell, if_neg hx]
    exact lookupCell_low (by omega) hl.2

/-- What an inserted cell does to every address. -/
theorem lookupCell_insertCell (a : Nat) (b : Octet) (c : Nat) :
    ∀ {lo l}, cellsRise lo l = true → lookupCell c (insertCell a b l) = if c = a then b else lookupCell c l
  | _, [], _ => by
    simp only [insertCell, lookupCell]
    by_cases h : a = c
    · simp [h]
    · have : ¬ c = a := fun e => h e.symm
      simp [h, this]
  | lo, (x, d) :: rest, hl => by
    have hrest : cellsRise (some x) rest = true := by
      simp only [cellsRise, Bool.and_eq_true] at hl; exact hl.2
    simp only [insertCell]
    split
    · rename_i hax
      simp only [lookupCell]
      by_cases h : a = c
      · simp [h]
      · have h' : ¬ c = a := fun e => h e.symm
        simp [h, h']
    · split
      · rename_i hax hx
        subst hx
        simp only [lookupCell]
        by_cases h : a = c
        · simp [h]
        · have h' : ¬ c = a := fun e => h e.symm
          simp [h, h']
      · rename_i h1 h2
        simp only [lookupCell]
        by_cases hx : x = c
        · have : ¬ c = a := by omega
          simp [hx, this]
        · simp only [if_neg hx]
          exact lookupCell_insertCell a b c hrest

/-- What an erased cell does to every address. -/
theorem lookupCell_eraseCell (a : Nat) (c : Nat) :
    ∀ {lo l}, cellsRise lo l = true → lookupCell c (eraseCell a l) = if c = a then blankOctet else lookupCell c l
  | _, [], _ => by simp [eraseCell, lookupCell]
  | lo, (x, d) :: rest, hl => by
    have hrest : cellsRise (some x) rest = true := by
      simp only [cellsRise, Bool.and_eq_true] at hl; exact hl.2
    simp only [eraseCell]
    split
    · rename_i hx
      subst hx
      by_cases h : c = x
      · subst h
        simp [lookupCell_low (Nat.le_refl _) hrest]
      · have h' : ¬ x = c := fun e => h e.symm
        simp [h, h', lookupCell]
    · rename_i hx
      simp only [lookupCell]
      by_cases h : x = c
      · have : ¬ c = a := by omega
        simp [h, this]
      · simp only [if_neg h]
        exact lookupCell_eraseCell a c hrest

/-- Inserting a cell that is not blank keeps the form. -/
theorem cellsRise_insertCell {a : Nat} {b : Octet} (hb : b ≠ blankOctet) :
    ∀ {lo l}, (∀ l', lo = some l' → l' < a) → cellsRise lo l = true → cellsRise lo (insertCell a b l) = true
  | none, [], _, _ => by simp [insertCell, cellsRise, hb]
  | some l', [], h, _ => by simp [insertCell, cellsRise, hb, h l' rfl]
  | lo, (x, d) :: rest, h, hl => by
    simp only [cellsRise, Bool.and_eq_true, decide_eq_true_eq] at hl
    simp only [insertCell]
    split
    · rename_i hax
      simp only [cellsRise, Bool.and_eq_true, decide_eq_true_eq]
      refine ⟨⟨?_, hb⟩, ⟨hax, hl.1.2⟩, hl.2⟩
      cases lo with
      | none => rfl
      | some l' => simpa using h l' rfl
    · split
      · rename_i _ hx
        subst hx
        simp only [cellsRise, Bool.and_eq_true, decide_eq_true_eq]
        exact ⟨⟨hl.1.1, hb⟩, hl.2⟩
      · rename_i h1 h2
        simp only [cellsRise, Bool.and_eq_true, decide_eq_true_eq]
        refine ⟨⟨hl.1.1, hl.1.2⟩, cellsRise_insertCell hb ?_ hl.2⟩
        intro l' e
        cases e
        omega

/-- Erasing a cell keeps the form. -/
theorem cellsRise_eraseCell (a : Nat) : ∀ {lo l}, cellsRise lo l = true → cellsRise lo (eraseCell a l) = true
  | _, [], _ => by simp [eraseCell, cellsRise]
  | lo, (x, d) :: rest, hl => by
    simp only [cellsRise, Bool.and_eq_true, decide_eq_true_eq] at hl
    simp only [eraseCell]
    split
    · cases lo with
      | none => exact cellsRise_none hl.2
      | some l' => exact cellsRise_weaken (Nat.le_of_lt (by simpa using hl.1.1)) hl.2
    · simp only [cellsRise, Bool.and_eq_true, decide_eq_true_eq]
      exact ⟨⟨hl.1.1, hl.1.2⟩, cellsRise_eraseCell a hl.2⟩

/-- Every octet after one is written: that octet reads as written, every other as before. -/
theorem Memory.readOctet_writeOctet {m : Memory} (h : m.wf = true) (a : Nat) (b : Octet) (c : Nat) :
    (m.writeOctet a b).readOctet c = if c = a then b else m.readOctet c := by
  simp only [Memory.writeOctet, Memory.readOctet]
  split
  · rename_i hb
    rw [lookupCell_eraseCell a c h, hb]
  · exact lookupCell_insertCell a b c h

/-- Writing an octet keeps the canonical form. -/
theorem Memory.wf_writeOctet {m : Memory} (h : m.wf = true) (a : Nat) (b : Octet) : (m.writeOctet a b).wf = true := by
  simp only [Memory.writeOctet, Memory.wf]
  split
  · exact cellsRise_eraseCell a h
  · rename_i hb
    exact cellsRise_insertCell hb (fun l' e => nomatch e) h

/-- Writing an octet under its enable keeps the canonical form. -/
theorem Memory.wf_writeEnabled {m : Memory} (h : m.wf = true) (a : WordAddress) (en : Enables) (w : Word) (n : Nat) :
    (m.writeEnabled a en w n).wf = true := by
  unfold Memory.writeEnabled
  split
  · exact Memory.wf_writeOctet h _ _
  · exact h

/-- Writing a word keeps the canonical form. -/
theorem Memory.wf_writeWord {m : Memory} (h : m.wf = true) (a : WordAddress) (en : Enables) (w : Word) :
    (m.writeWord a en w).wf = true :=
  Memory.wf_writeEnabled (Memory.wf_writeEnabled (Memory.wf_writeEnabled (Memory.wf_writeEnabled h a en w 0) a en w 1) a en w 2) a en w 3

/-- Writing a burst keeps the canonical form. -/
theorem Memory.wf_writeBurst (ws : List (WordAddress × Word)) : ∀ {m : Memory}, m.wf = true → (m.writeBurst ws).wf = true := by
  induction ws with
  | nil => exact fun h => h
  | cons w ws ih => exact fun h => ih (Memory.wf_writeWord h w.1 0b1111 w.2)

/-- Every octet after one octet of a word is written under its enable. -/
theorem Memory.readOctet_writeEnabled {m : Memory} (h : m.wf = true) (a : WordAddress) (en : Enables) (w : Word) (n c : Nat) :
    (m.writeEnabled a en w n).readOctet c =
      if en.getLsbD (3 - n) = true ∧ c = octetAddress a n then wordOctet w n else m.readOctet c := by
  unfold Memory.writeEnabled
  split
  · rename_i he
    rw [Memory.readOctet_writeOctet h]
    simp [he]
  · rename_i he
    simp [he]

/-- Every octet after a word is written (R3): the enabled octets of the word read as written, every other as before. -/
theorem Memory.readOctet_writeWord {m : Memory} (h : m.wf = true) (a : WordAddress) (en : Enables) (w : Word) (c : Nat) :
    (m.writeWord a en w).readOctet c =
      if c / 4 = a.toNat ∧ en.getLsbD (3 - c % 4) = true then wordOctet w (c % 4) else m.readOctet c := by
  have h0 := Memory.wf_writeEnabled h a en w 0
  have h1 := Memory.wf_writeEnabled h0 a en w 1
  have h2 := Memory.wf_writeEnabled h1 a en w 2
  unfold Memory.writeWord
  rw [Memory.readOctet_writeEnabled h2, Memory.readOctet_writeEnabled h1, Memory.readOctet_writeEnabled h0,
    Memory.readOctet_writeEnabled h]
  have key : ∀ n, n < 4 → (c = octetAddress a n ↔ c / 4 = a.toNat ∧ c % 4 = n) := by
    intro n hn; unfold octetAddress; omega
  simp only [key 3 (by omega), key 2 (by omega), key 1 (by omega), key 0 (by omega)]
  by_cases hq : c / 4 = a.toNat
  · rcases (by omega : c % 4 = 0 ∨ c % 4 = 1 ∨ c % 4 = 2 ∨ c % 4 = 3) with e | e | e | e <;> simp [e, hq]
  · simp [hq]

/-- The four octets of a word make the word (R1). -/
theorem octetsWord_wordOctet (w : Word) : octetsWord (wordOctet w 0) (wordOctet w 1) (wordOctet w 2) (wordOctet w 3) = w := by
  apply BitVec.eq_of_getLsbD_eq
  intro i hi
  simp only [octetsWord, wordOctet, BitVec.getLsbD_append, BitVec.getLsbD_extractLsb']
  have hi' : i < 32 := hi
  rcases (by omega : i < 8 ∨ (8 ≤ i ∧ i < 16) ∨ (16 ≤ i ∧ i < 24) ∨ (24 ≤ i ∧ i < 32)) with h | h | h | h
  · simp [h]
  · have h1 : ¬ i < 8 := by omega
    have h2 : i - 8 < 8 := by omega
    simp [h1, h2, show 8 + (i - 8) = i by omega]
  · have h1 : ¬ i < 8 := by omega
    have h2 : ¬ i - 8 < 8 := by omega
    have h3 : i - 8 - 8 < 8 := by omega
    simp [h1, h2, h3, show 16 + (i - 8 - 8) = i by omega]
  · have h1 : ¬ i < 8 := by omega
    have h2 : ¬ i - 8 < 8 := by omega
    have h3 : ¬ i - 8 - 8 < 8 := by omega
    have h4 : i - 8 - 8 - 8 < 8 := by omega
    simp [h1, h2, h3, h4, show 24 + (i - 8 - 8 - 8) = i by omega]

/-- A word written with all enables set reads back (R3). -/
theorem Memory.readWord_writeWord {m : Memory} (h : m.wf = true) (a : WordAddress) (w : Word) :
    (m.writeWord a 0b1111 w).readWord a = w := by
  unfold Memory.readWord
  rw [Memory.readOctet_writeWord h, Memory.readOctet_writeWord h, Memory.readOctet_writeWord h, Memory.readOctet_writeWord h]
  have e : ∀ n, n < 4 → octetAddress a n / 4 = a.toNat ∧ octetAddress a n % 4 = n := by
    intro n hn; unfold octetAddress; omega
  rw [(e 0 (by omega)).1, (e 1 (by omega)).1, (e 2 (by omega)).1, (e 3 (by omega)).1,
    (e 0 (by omega)).2, (e 1 (by omega)).2, (e 2 (by omega)).2, (e 3 (by omega)).2]
  simp only [true_and]
  rw [if_pos (by decide), if_pos (by decide), if_pos (by decide), if_pos (by decide)]
  exact octetsWord_wordOctet w

/-- The memory after reset has the canonical form. -/
theorem reset_memory_wf : State.reset.memory.wf = true := rfl

end Sys2Proof.Machine
end

