-- ==== Sys2Proof/Laws/PerInstr.lean ====
section
/-! SUPPORT. A family of statements about each command as a term: the code its word carries is one of section 11.2 exactly
when the row is not UNKNOWN_COMMAND (10 R165). -/

namespace Sys2Proof.Laws.Codes

/-- A well-formed command that carries a code carries a listed one, unless it is UNKNOWN_COMMAND, which carries none of
the list. -/
def Statement (i : Instr) : Prop :=
  i.wellFormed = true → ∀ c, i.commandCode = some c → commandCodes.contains c = !i.isUnknown

theorem hardwareReset : Statement .hardwareReset := by
  intro _ c e
  cases e

theorem resetRelease (base : BitVec 8) (bypass : Bool) (level0 level1 : Bool) : Statement (.resetRelease base bypass level0 level1) := by
  intro _ c e
  cases e

theorem fabricAccessRequest (address : BitVec 26) (direction : Direction) (length : Nat) : Statement (.fabricAccessRequest address direction length) := by
  intro _ c e
  cases e

theorem fabricWordPass (enables : Enables) (data : Word) : Statement (.fabricWordPass enables data) := by
  intro _ c e
  cases e

theorem shadowWrite (enables : Enables) (data : Word) : Statement (.shadowWrite enables data) := by
  intro _ c e
  cases e

theorem cellWordWrite (enables : Enables) (data : Word) : Statement (.cellWordWrite enables data) := by
  intro _ c e
  cases e

theorem cellWordRead : Statement .cellWordRead := by
  intro _ c e
  cases e

theorem fabricAccessEnd : Statement .fabricAccessEnd := by
  intro _ c e
  cases e

theorem reportBurstEnd : Statement .reportBurstEnd := by
  intro _ c e
  cases e

theorem rollover : Statement .rollover := by
  intro _ c e
  cases e

theorem entryAgeExpiry (order : Nat) : Statement (.entryAgeExpiry order) := by
  intro _ c e
  cases e

theorem probeRecordExpiry (port : Port) (sequence : BitVec 16) : Statement (.probeRecordExpiry port sequence) := by
  intro _ c e
  cases e

theorem responderRecordExpiry (port : Port) (sequence : BitVec 16) (source : Ident) : Statement (.responderRecordExpiry port sequence source) := by
  intro _ c e
  cases e

theorem missingTimerExpiry : Statement .missingTimerExpiry := by
  intro _ c e
  cases e

theorem holdoverTimerExpiry : Statement .holdoverTimerExpiry := by
  intro _ c e
  cases e

theorem pulseLeadingInstant (output : Fin 4) : Statement (.pulseLeadingInstant output) := by
  intro _ c e
  cases e

theorem pulseTrailingInstant (output : Fin 4) : Statement (.pulseTrailingInstant output) := by
  intro _ c e
  cases e

theorem activeEdge (input : Fin 2) : Statement (.activeEdge input) := by
  intro _ c e
  cases e

theorem timeSet (tag : BitVec 8) (imm : BitVec 16) : Statement (.timeSet tag imm) := by
  intro _ c e
  cases e
  rfl

theorem timeStep (tag : BitVec 8) (imm : BitVec 16) : Statement (.timeStep tag imm) := by
  intro _ c e
  cases e
  rfl

theorem rateSet (tag : BitVec 8) (imm : BitVec 16) : Statement (.rateSet tag imm) := by
  intro _ c e
  cases e
  rfl

theorem tableFlush (tag : BitVec 8) (imm : BitVec 16) : Statement (.tableFlush tag imm) := by
  intro _ c e
  cases e
  rfl

theorem pathClear (tag : BitVec 8) (imm : BitVec 16) : Statement (.pathClear tag imm) := by
  intro _ c e
  cases e
  rfl

theorem disciplineRelatch (tag : BitVec 8) (imm : BitVec 16) : Statement (.disciplineRelatch tag imm) := by
  intro _ c e
  cases e
  rfl

theorem disciplineHold (tag : BitVec 8) (imm : BitVec 16) : Statement (.disciplineHold tag imm) := by
  intro _ c e
  cases e
  rfl

theorem captureAck (tag : BitVec 8) (imm : BitVec 16) : Statement (.captureAck tag imm) := by
  intro _ c e
  cases e
  rfl

theorem captureTest (tag : BitVec 8) (imm : BitVec 16) : Statement (.captureTest tag imm) := by
  intro _ c e
  cases e
  rfl

theorem profileWrite (tag : BitVec 8) (imm : BitVec 16) : Statement (.profileWrite tag imm) := by
  intro _ c e
  cases e
  rfl

theorem profileCopy (tag : BitVec 8) (imm : BitVec 16) : Statement (.profileCopy tag imm) := by
  intro _ c e
  cases e
  rfl

theorem profileSwapImmediate (tag : BitVec 8) (high : BitVec 15) : Statement (.profileSwapImmediate tag high) := by
  intro _ c e
  cases e
  rfl

theorem profileSwapAtSecond (tag : BitVec 8) (high : BitVec 15) : Statement (.profileSwapAtSecond tag high) := by
  intro _ c e
  cases e
  rfl

theorem profileCancel (tag : BitVec 8) (imm : BitVec 16) : Statement (.profileCancel tag imm) := by
  intro _ c e
  cases e
  rfl

theorem flagClear (tag : BitVec 8) (imm : BitVec 16) : Statement (.flagClear tag imm) := by
  intro _ c e
  cases e
  rfl

theorem flagEnable (tag : BitVec 8) (imm : BitVec 16) : Statement (.flagEnable tag imm) := by
  intro _ c e
  cases e
  rfl

theorem reportNow (tag : BitVec 8) (imm : BitVec 16) : Statement (.reportNow tag imm) := by
  intro _ c e
  cases e
  rfl

theorem restart (tag : BitVec 8) (imm : BitVec 16) : Statement (.restart tag imm) := by
  intro _ c e
  cases e
  rfl

theorem unknownCommand (code tag : BitVec 8) (imm : BitVec 16) : Statement (.unknownCommand code tag imm) := by
  intro h c e
  cases e
  simpa [Instr.wellFormed, Instr.isUnknown] using h

theorem inputLevelChange (input : Fin 2) : Statement (.inputLevelChange input) := by
  intro _ c e
  cases e

end Sys2Proof.Laws.Codes
end

