-- ==== Sys2Proof/Laws/Time.lean ====
section
/-! SUPPORT. The arithmetic of station time: carrying and borrowing lose nothing (R41, R47), and a re-anchor or a change of
ρ leaves station time now as it is (R43). -/

namespace Sys2Proof.Machine

/-- Fine units in 2^32 seconds, after which station time comes round (R47). -/
def stationCycle : Int := 4294967296 * 65536000000000

/-- A station time lies below one cycle. -/
theorem StationTime.toFn_nonneg (t : StationTime) : 0 ≤ t.toFn := Int.natCast_nonneg _

/-- A station time lies below one cycle. -/
theorem StationTime.toFn_lt (t : StationTime) : t.toFn < stationCycle := by
  have h1 := t.sec.isLt
  have h2 := t.ns.isLt
  have h3 := t.frac.isLt
  unfold StationTime.toFn stationCycle secondFn
  omega

/-- Two station times of the same fields are equal. -/
theorem StationTime.eq_of_fields {t u : StationTime} (h1 : t.sec = u.sec) (h2 : t.ns = u.ns) (h3 : t.frac = u.frac) : t = u := by
  obtain ⟨s, n, f⟩ := t
  obtain ⟨s', n', f'⟩ := u
  simp only at h1 h2 h3
  rw [h1, h2, h3]

/-- The station time of as many fine units as a station time has, less whole cycles, is that station time (R41, R47). -/
theorem StationTime.ofFn_of_emod {t : StationTime} {z : Int} (h : z % stationCycle = t.toFn) : StationTime.ofFn z = t := by
  have h1 := t.sec.isLt
  have h2 := t.ns.isLt
  have h3 := t.frac.isLt
  have e : (z % (4294967296 * 65536000000000)).toNat = t.sec.toNat * 65536000000000 + t.ns.val * 65536 + t.frac.toNat := by
    have : z % (4294967296 * 65536000000000) = t.toFn := h
    rw [this]
    unfold StationTime.toFn secondFn
    omega
  apply StationTime.eq_of_fields
  · apply BitVec.eq_of_toNat_eq
    simp only [StationTime.ofFn, BitVec.toNat_ofNat]
    rw [e]
    omega
  · apply Fin.ext
    simp only [StationTime.ofFn]
    rw [e]
    omega
  · apply BitVec.eq_of_toNat_eq
    simp only [StationTime.ofFn, BitVec.toNat_ofNat]
    rw [e]
    omega

/-- A station time moved by nothing stays. -/
@[simp] theorem StationTime.add_zero (t : StationTime) : t.add 0 = t := by
  apply StationTime.ofFn_of_emod
  rw [Int.add_zero]
  exact Int.emod_eq_of_lt t.toFn_nonneg t.toFn_lt

/-- The fine units of a station time are the amount it was made of, less whole cycles (R41). -/
theorem StationTime.toFn_ofFn (z : Int) : (StationTime.ofFn z).toFn = z % stationCycle := by
  have h0 : 0 ≤ z % (4294967296 * 65536000000000) := Int.emod_nonneg _ (by decide)
  have h1 : z % (4294967296 * 65536000000000) < 4294967296 * 65536000000000 := Int.emod_lt_of_pos _ (by decide)
  unfold StationTime.ofFn StationTime.toFn stationCycle secondFn
  simp only [BitVec.toNat_ofNat]
  omega

/-- Two moves of a station time are one (R41, R46). -/
theorem StationTime.add_add (t : StationTime) (x y : Int) : (t.add x).add y = t.add (x + y) := by
  apply StationTime.ofFn_of_emod
  unfold StationTime.add
  rw [StationTime.toFn_ofFn, StationTime.toFn_ofFn, Int.emod_add_emod, Int.add_assoc]

/-- A station time moved by its difference to another is the other (R47, R48). -/
theorem StationTime.add_sub (t u : StationTime) : u.add (t.sub u) = t := by
  apply StationTime.ofFn_of_emod
  have h1 := t.sec.isLt
  have h2 := u.sec.isLt
  have ht := t.toFn_lt
  have ht0 := t.toFn_nonneg
  have hs : ∃ k : Int, (t.sec - u.sec).toInt = (t.sec.toNat : Int) - u.sec.toNat + 4294967296 * k := by
    refine ⟨((t.sec - u.sec).toInt - ((t.sec.toNat : Int) - u.sec.toNat)) / 4294967296, ?_⟩
    rw [BitVec.toInt_sub]
    have hb : ((t.sec.toInt - u.sec.toInt).bmod (2 ^ 32) - ((t.sec.toNat : Int) - u.sec.toNat)) % 4294967296 = 0 := by
      rw [BitVec.toInt_eq_toNat_bmod, BitVec.toInt_eq_toNat_bmod]
      simp only [Int.bmod_def]
      omega
    omega
  obtain ⟨k, hk⟩ := hs
  have e : u.toFn + t.sub u = t.toFn + stationCycle * k := by
    unfold StationTime.sub StationTime.toFn stationCycle secondFn
    rw [hk]
    push_cast
    ring
  rw [e, Int.add_mul_emod_self_left]
  exact Int.emod_eq_of_lt ht0 ht

/-- A conversion of the anchor's own reading gives the anchor's station time (R41). -/
theorem TimeBase.convert_anchor (t : TimeBase) : t.convert t.anchorRaw = t.anchorStation := by
  unfold TimeBase.convert rawDiff atRate rateTerm
  rw [BitVec.sub_self, BitVec.toInt_zero, Int.zero_mul]
  exact StationTime.add_zero _

/-- Station time now of a record anchored at this tick is its anchor's station time. -/
theorem TimeBase.now_of_anchored {t : TimeBase} (h : t.anchorRaw = t.raw) : t.now = t.anchorStation := by
  unfold TimeBase.now
  rw [← h]
  exact t.convert_anchor

/-- A re-anchor leaves station time now as it is (R43). -/
@[simp] theorem TimeBase.reanchor_now (t : TimeBase) : t.reanchor.now = t.now := TimeBase.now_of_anchored rfl

/-- A change of ρ leaves station time now as it is (R43, R44). -/
@[simp] theorem TimeBase.changeRho_now (t : TimeBase) (r : Int) : (t.changeRho r).now = t.now := TimeBase.now_of_anchored rfl

/-- A step moves station time now by its amount (R46). -/
@[simp] theorem TimeBase.step_now (t : TimeBase) (a : Int) : (t.step a).now = t.now.add a := TimeBase.now_of_anchored rfl

end Sys2Proof.Machine
end

