-- ==== Sys2Proof/Laws/Words.lean ====
section
/-! SUPPORT. Where the next word goes, from the conditions of Safety.lean, and what taking a command comes to. -/

namespace Sys2Proof.Machine

/-- The command base lies below the end of memory, with both areas above it (R8). -/
theorem commandBase_le (s : State) : s.commandBase ≤ 4177920 := by
  have := s.straps.base.isLt
  unfold State.commandBase
  omega

/-- The access with a word still to pass, of an access that is decoded. -/
theorem wordAccess_of_decoding {s : State} {a : Access} (h : Decoding s a) : s.wordAccess = some a := by
  unfold State.wordAccess
  rw [h.1]
  exact if_pos h.2.1

/-- A decoded access passes decoded. -/
theorem undecoded_of_decoding {s : State} {a : Access} (h : Decoding s a) : s.undecoded a = false := by
  simp only [State.undecoded, h.2.2.1, h.2.2.2.1, h.2.2.2.2, Bool.or_false]

/-- The class of word `w` of a command slot (R6, R8). -/
theorem wordClass_command {s : State} {x : WordAddress} (slot : Fin 16) (w : Fin 8)
    (h : x.toNat = s.commandBase + 8 * slot.val + w.val) : s.wordClass x = .command slot w := by
  have hs := slot.isLt
  have hw := w.isLt
  unfold State.wordClass
  simp only
  rw [if_pos (by omega)]
  congr 1
  · apply Fin.ext
    simp only
    omega
  · apply Fin.ext
    simp only
    omega

/-- The processor's lane code is 0 (R5). -/
theorem laneClass_processor {lane : BitVec 4} : laneClass lane = .processor ↔ lane = 0 := by
  revert lane
  decide

/-- The next word takes a command (R165). -/
theorem commandTaken_of_atCommand {s : State} {a : Access} {slot : Fin 16} (h : AtCommand s a slot) :
    commandTaken s = some (a, slot) := by
  obtain ⟨hd, hdir, hlane, haddr⟩ := h
  have hc : s.wordClass a.next = .command slot 0 := wordClass_command slot 0 (by simpa using haddr)
  have hr : s.route 0b1111 = some (a, .command slot) := by
    simp only [State.route, wordAccess_of_decoding hd, hdir, State.writeRoute, undecoded_of_decoding hd, hc,
      (laneClass_processor).2 hlane, commandRoute]
    rfl
  simp only [commandTaken, hr]

/-- The next word updates a shadow (R164). -/
theorem route_of_atShadow {s : State} {a : Access} {slot : Fin 16} {n : Fin 7} {en : Enables} (h : AtShadow s a slot n)
    (hen : en ≠ 0) : s.route en = some (a, .shadow slot n) := by
  obtain ⟨hd, hdir, hlane, haddr⟩ := h
  have hn := n.isLt
  have hc : s.wordClass a.next = .command slot ⟨n.val + 1, by omega⟩ :=
    wordClass_command slot ⟨n.val + 1, by omega⟩ (by simp only; omega)
  have hb : (en == 0) = false := beq_eq_false_iff_ne.2 hen
  simp only [State.route, wordAccess_of_decoding hd, hdir, State.writeRoute, undecoded_of_decoding hd, hb, hc,
    (laneClass_processor).2 hlane, commandRoute]
  simp

/-- The class of a word that a pool window claims (R6, R7). -/
theorem wordClass_pool {s : State} {x : WordAddress} {w : Fin 4} (h : ClaimedBy s x.toNat w) :
    s.wordClass x = .pool (cellOf s x.toNat w).1 (cellOf s x.toNat w).2 := by
  obtain ⟨⟨h1, h2, h3⟩, hw, hlow⟩ := h
  have e0 := h3 0
  have e1 := h3 1
  have hc : s.decode.claims x.toNat = some w := by
    unfold WindowSet.claims
    have hv : ∀ v : Fin 4, v < w → s.decode.pool[v].contains x.toNat = false := hlow
    match w, hw, hv with
    | 0, hw, _ => simp only [List.find?, hw]
    | 1, hw, hv => simp only [List.find?, hv 0 (by decide), hw]
    | 2, hw, hv => simp only [List.find?, hv 0 (by decide), hv 1 (by decide), hw]
    | 3, hw, hv => simp only [List.find?, hv 0 (by decide), hv 1 (by decide), hv 2 (by decide), hw]
  have hr : s.reportBase = s.commandBase + 1024 := rfl
  unfold State.wordClass
  simp only
  rw [if_neg h1, if_neg (by rw [hr]; omega)]
  have e0' : (s.decode.exclusion[0]).contains x.toNat = false := e0
  have e1' : (s.decode.exclusion[1]).contains x.toNat = false := e1
  rw [e0', e1', hc]
  rfl

/-- The next word is a write to a pool cell (R5). -/
theorem route_of_atCellWrite {s : State} {a : Access} {w : Fin 4} {en : Enables} (h : AtCellWrite s a w) (hen : en ≠ 0) :
    s.route en = some (a, .cellWrite (cellOf s a.next.toNat w).1 (cellOf s a.next.toNat w).2 (laneClass a.lane)) := by
  obtain ⟨hd, hdir, hc⟩ := h
  have hb : (en == 0) = false := beq_eq_false_iff_ne.2 hen
  simp only [State.route, wordAccess_of_decoding hd, hdir, State.writeRoute, undecoded_of_decoding hd, hb, wordClass_pool hc]
  simp

/-- The lane class of an egress lane (R5). -/
theorem laneClass_egress {lane : BitVec 4} {q : Port} (h : lane.toNat = q.val + 9) : laneClass lane = .egress q := by
  have hq := q.isLt
  unfold laneClass
  simp only
  rw [if_neg (by omega), dif_neg (by omega), dif_pos (by omega)]
  congr 1
  apply Fin.ext
  simp only
  omega

/-- The next word is an egress read of a pool cell (R5). -/
theorem route_of_atCellRead {s : State} {a : Access} {w : Fin 4} {q : Port} {en : Enables} (h : AtCellRead s a w q) :
    s.route en = some (a, .cellRead (cellOf s a.next.toNat w).1 (cellOf s a.next.toNat w).2 q) := by
  obtain ⟨hd, hdir, hl, hc⟩ := h
  simp only [State.route, wordAccess_of_decoding hd, hdir, State.readRoute, undecoded_of_decoding hd, wordClass_pool hc,
    laneClass_egress hl]
  simp

/-- The arbiter after one more word has passed (R2). -/
theorem advance_eq {s : State} {a : Access} (h : s.arbiter.current = some a) : advance s = s.withArbiter (advanced a s) := by
  unfold advance advanced
  rw [h]
  rfl

/-- A write word passed (R3). -/
theorem passWrite_eq {s : State} {a : Access} (h : s.arbiter.current = some a) (en : Enables) (data : Word) :
    passWrite a.next en data s = written a en data s := by
  unfold passWrite
  rw [advance_eq (a := a) (by simpa using h)]
  rfl

/-- A read word passed (R3). -/
theorem passRead_eq {s : State} {a : Access} (h : s.arbiter.current = some a) (data : Word) :
    passRead a.next data s =
      { s with ports := { memory := some (.read a.next), fabric := some data }, arbiter := advanced a s } := by
  unfold passRead
  rw [advance_eq (a := a) (by simpa using h)]
  rfl

/-- The code that a command word carries (section 11.2). -/
@[simp] theorem wordCode_commandWord (code tag : BitVec 8) (imm : BitVec 16) : wordCode (commandWord code tag imm) = code := by
  apply BitVec.eq_of_getLsbD_eq
  intro i hi
  simp only [wordCode, commandWord, BitVec.getLsbD_extractLsb', BitVec.getLsbD_append]
  have h1 : ¬ 24 + i < 16 := by omega
  simp [hi, h1, show 24 + i - 16 = 8 + i by omega]

/-- The tag that a command word carries. -/
@[simp] theorem wordTag_commandWord (code tag : BitVec 8) (imm : BitVec 16) : wordTag (commandWord code tag imm) = tag := by
  apply BitVec.eq_of_getLsbD_eq
  intro i hi
  simp only [wordTag, commandWord, BitVec.getLsbD_extractLsb', BitVec.getLsbD_append]
  simp [hi]

/-- The immediate that a command word carries. -/
@[simp] theorem wordImm_commandWord (code tag : BitVec 8) (imm : BitVec 16) : wordImm (commandWord code tag imm) = imm := by
  apply BitVec.eq_of_getLsbD_eq
  intro i hi
  simp only [wordImm, commandWord, BitVec.getLsbD_extractLsb', BitVec.getLsbD_append]
  simp [hi]

/-- The row of a written word, by where the Path Decoder sends it (R5, R165). -/
theorem writtenRow_eq {s : State} {en : Enables} {a : Access} {r : Route} (h : s.route en = some (a, r)) (data : Word) :
    writtenRow en data s =
      match r with
      | .command _ => commandOfWord data
      | .shadow _ _ => .shadowWrite en data
      | .cellWrite _ _ _ => .cellWordWrite en data
      | _ => .fabricWordPass en data := by
  cases r <;> simp only [writtenRow, h]

/-- A command that is taken: its word passes, its owner acts, its slot is answered (R165). -/
theorem takeCommand_eq {s : State} {a : Access} {slot : Fin 16} (h : AtCommand s a slot) (code tag : BitVec 8)
    (imm : BitVec 16) (act : Fin 16 → State → State × CommandResult) :
    takeCommand code tag imm act s =
      finishCommand slot code tag (act slot (written a 0b1111 (commandWord code tag imm) s)) := by
  simp only [takeCommand, commandTaken_of_atCommand h, passWrite_eq h.1.1]

/-- A slot answered in a part that is not in bypass (R165, R171). -/
theorem finishCommand_eq {slot : Fin 16} {code tag : BitVec 8} {x : State × CommandResult} (h : x.1.straps.bypass = false) :
    finishCommand slot code tag x = answered slot x.2 tag code x.1 := by
  unfold finishCommand request setStatus
  simp only [State.withMonitor_straps, h, Bool.false_eq_true, if_false]
  rfl

/-- A request in a part that is not in bypass joins the queue (R171). -/
theorem request_eq {s : State} (h : s.straps.bypass = false) (ks : List BlockKind) :
    request ks s = { s with report := { s.report with queue := joinAll s.report.queue ks } } := by
  unfold request
  rw [h]
  rfl

/-- A request in bypass is none (R16). -/
theorem request_bypass {s : State} (h : s.straps.bypass = true) (ks : List BlockKind) : request ks s = s := by
  unfold request
  rw [h]
  rfl

/-- All that a raise does (R167, R173). -/
theorem raise_eq_raised (f : Flag) (s : State) : raise f s = raised f.bit s := by
  unfold raise raised request
  by_cases h : s.straps.bypass = true
  · simp only [State.withReport_straps, h, if_true]
    rfl
  · simp only [State.withReport_straps, h]
    rfl

/-- A block's words follow from what it shows: neither the arbiter nor the queue is shown. -/
theorem burstWords_congr (k : BlockKind) (s : State) (a : Arbiter) (q : List BlockKind) :
    burstWords k { s with arbiter := a, report := { s.report with queue := q } } = burstWords k s := by
  cases k <;> rfl

/-- All that a grant at a free port does (R12, R14). -/
theorem granted_grant (s : State) : Granted s.arbiter s.report s.straps.bypass (grant s) := by
  unfold grant Granted
  split <;> rename_i hw hq <;> simp only [hw, hq]
  · exact ⟨rfl, by rw [← hw]; rfl⟩
  · exact ⟨rfl, rfl⟩
  · rename_i k ks
    exact ⟨rfl, by rw [← hw]; cases k <;> rfl⟩
  · rename_i a rest k ks
    by_cases hc : s.arbiter.waitCount < 64
    · rw [if_pos hc, if_pos (show s.arbiter.waitCount < waitLimit from hc)]
      exact ⟨rfl, rfl⟩
    · rw [if_neg hc, if_neg (show ¬ s.arbiter.waitCount < waitLimit from hc), raise_eq_raised]
      exact ⟨rfl, by rw [← hw]; cases k <;> rfl⟩

/-- All that follows an event of time or of a pin that leaves `v`: a free port is granted (R12). -/
theorem grantAfter_grantIfFree {s v : State} (hr : v.resetHeld = false) (ha : v.arbiter = s.arbiter) :
    GrantAfter s v (grantIfFree v) := by
  have hp : portFree v = portFree s := by unfold portFree; rw [ha]
  cases hf : portFree s with
  | true =>
    have he : grantIfFree v = grant v := by simp [grantIfFree, hp, hf, hr]
    obtain ⟨a, r, h⟩ : ∃ a r, grant v = { v with arbiter := a, report := r } := by
      unfold grant
      cases v.arbiter.waiting with
      | nil => cases v.report.queue with
        | nil => exact ⟨_, _, rfl⟩
        | cons => exact ⟨_, _, rfl⟩
      | cons => cases v.report.queue with
        | nil => exact ⟨_, _, rfl⟩
        | cons =>
          simp only
          split
          · exact ⟨_, _, rfl⟩
          · rw [raise_eq_raised]
            exact ⟨_, _, rfl⟩
    refine ⟨?_, fun h => (Bool.false_ne_true (h.symm.trans hf)).elim, fun _ => he ▸ granted_grant v⟩
    rw [he, h]
  | false =>
    have he : grantIfFree v = v := grantIfFree_busy (hp.trans hf)
    exact ⟨by rw [he], fun _ => he, fun h => (Bool.false_ne_true (hf.symm.trans h)).elim⟩

/-- An event that asks for no report finds a port with no work waiting, and is granted nothing (R12). -/
theorem grantIfFree_of_portInv {s : State} (h : PortInv s) (hr : s.resetHeld = false) : grantIfFree s = s := by
  obtain ⟨-, -, -, h4, h5, -, h7, -⟩ := h
  by_cases hf : portFree s = true
  · obtain ⟨hw, hq⟩ := h7 hf
    rcases hq with hq | hq
    · rw [hr] at hq
      cases hq
    · rw [grantIfFree_none hf hr hw hq]
      simp only [portFree, Bool.and_eq_true, Option.isNone_iff_eq_none] at hf
      have ho : s.arbiter.owner = .idle := by
        cases ho : s.arbiter.owner with
        | idle => rfl
        | fabric =>
          have := h5 ho
          rw [hf.1] at this
          cases this
        | report =>
          have := h4.1 ho
          rw [hf.2] at this
          cases this
      rw [← ho]
      rfl
  · exact grantIfFree_busy (by simpa using hf)

/-! ## Ticks and samples -/

/-- An input at the next tick: in its first tick it is taken, later it may change (R137). -/
@[simp] theorem Sampling.next_eq (x : Sampling) : x.next = if x = .starting then .taken else .ready := by
  cases x <;> rfl

/-- All that the sampling at a tick does (R137). -/
theorem sampleInputs_eq (s : State) : sampleInputs s =
    { s with
      captures := tab2 fun n =>
        { s.captures[n] with sampling := if s.captures[n].sampling = .starting then .taken else .ready } } :=
  congrArg s.withCaptures
    (congrArg tab2 (funext fun n => congrArg (fun x => ({ s.captures[n] with sampling := x } : CaptureInput)) (Sampling.next_eq _)))

/-- All that a tick does: the raw count, the sampling of the inputs, and the timer lengths (R38, R40, R137). -/
theorem tick_eq (s : State) : tick s =
    { s with
      time := { s.time with raw := s.time.raw + tickFn }
      captures := tab2 fun n =>
        { s.captures[n] with sampling := if s.captures[n].sampling = .starting then .taken else .ready }
      tickLimits := s.bank.timerLimits } := by
  simp only [tick, sampleInputs_eq, State.withTickLimits, State.withTime]

/-- When an input shows a change to `level` at this tick (R137). -/
theorem sampleShows_iff {n : Fin 2} {level : Bool} {s : State} :
    sampleShows n level s = true ↔ s.captures[n].sampling = .ready ∧ s.captures[n].level ≠ level := by
  simp [sampleShows]

/-- After a level was recorded no change shows before the next tick (R137). -/
theorem sampleShows_recordLevel (n : Fin 2) (level next : Bool) (s : State) :
    sampleShows n next (recordLevel n level s) = false := by
  have h : (recordLevel n level s).captures[n].sampling = .taken := by simp [recordLevel, State.withCaptures]
  simp only [sampleShows, h]
  rfl

end Sys2Proof.Machine
end

