-- ==== Sys2Proof/Tests/Slice0.lean ====
section
/-! SUPPORT. Tests: the checks of WellFormed, the manual's worked figures, and for every statement with hypotheses a state
and operands that meet them (at the ends of each range). Expected values come from the manual's tables and examples; each
theorem names where they stand. -/

namespace Sys2Proof.Tests

open Sys2Proof Sys2Proof.Machine

-- One theorem at a time: a theorem that waits for the kernel holds a thread.
set_option Elab.async false

/-! ## Small states -/

/-- The state after a command; `s` itself if there is none. -/
def after (i : Instr) (s : State) : State :=
  match exec i s with
  | .next t => t
  | _ => s

/-- The command has a next state. -/
def goesOn (i : Instr) (s : State) : Bool :=
  match exec i s with
  | .next _ => true
  | _ => false

/-- The step has a next state. -/
def stepsOn (s : State) : Bool :=
  match step s with
  | .next _ => true
  | _ => false

/-- The part released with strap value 3, some ticks ago, all start-up reports written. -/
def live : State :=
  { State.reset with
    resetHeld := false
    straps := { base := 3, bypass := false }
    captures := tab2 fun n => { State.reset.captures[n] with sampling := .ready }
    report := { State.reset.report with queue := [] } }

/-- An access of one word that has not passed. -/
def access (lane : BitVec 4) (start : WordAddress) (d : Direction) : Access :=
  { lane := lane, start := start, direction := d, length := 1, passed := 0, passThrough := false }

/-- `s` with that access in progress. -/
def word (lane : BitVec 4) (start : WordAddress) (d : Direction) (s : State) : State :=
  { s with arbiter := { s.arbiter with owner := .fabric, current := some (access lane start d) } }

/-- An access whose words have all passed. -/
def ended : Access := { access 0 0 .write with passed := 1 }

/-- The word-0 write of slot 2 of the worked decode (49,152 + 16) is next. -/
def command : State := word 0 49168 .write live

/-- The access of `command`. -/
def commandAccess : Access := access 0 49168 .write

/-- Shadow words of slot 2. -/
def operands (w1 w2 w3 : Word) (s : State) : State :=
  { s with monitor := { s.monitor with shadows := s.monitor.shadows.set 2 #v[w1, w2, w3, 0, 0, 0, 0] } }

/-- The active bank replaced. -/
def banked (p : Profile) (s : State) : State := { s with profiles := { s.profiles with bankA := p } }

/-- Station time now set, by the anchor. -/
def atTime (sec : BitVec 32) (ns : Fin 1000000000) (frac : BitVec 16) (s : State) : State :=
  { s with time := { s.time with anchorRaw := s.time.raw, anchorStation := { sec := sec, ns := ns, frac := frac }, secondsSeen := sec } }

/-- The raw count set, station time at zero. -/
def atRaw (x : Raw) (s : State) : State := { s with time := { s.time with raw := x, anchorRaw := x } }

/-- The windows of the worked decode (section 1.6), type codes, and domain 4. -/
def boardProfile : Profile :=
  { defaultProfile with
    pool :=
      #v[{ enable := true, base := 65536, cellSize := 128, cellCount := 2048, ingressTracking := true, processorTracking := false },
        { enable := true, base := 327680, cellSize := 64, cellCount := 512, ingressTracking := true, processorTracking := false },
        { enable := true, base := 360480, cellSize := 256, cellCount := 100, ingressTracking := false, processorTracking := true },
        { enable := false, base := 0, cellSize := 16, cellCount := 1, ingressTracking := false, processorTracking := false }]
    exclusion := #v[{ enable := true, base := 66176, size := 128 }, { enable := false, base := 0, size := 1 }]
    frameType := 0x88F7
    tagType := 0x8100
    domains := defaultProfile.domains.set 0 { value := 4, enable := true } }

/-- The board of the worked decode. -/
def board : State :=
  banked boardProfile { live with decode := { pool := boardProfile.pool, exclusion := boardProfile.exclusion } }

/-- W0 cell 3. -/
def cell3 : CellKey := { window := 0, index := 3 }

/-- A captured word of which every octet is present. -/
def whole (w : Word) : CapturedWord := { data := w, present := 0b1111 }

/-- The one-step MARK of section 5.9 in W0 cell 3, slot 1 TIMED at 50 µs. -/
def mark : Entry :=
  { order := 0, state := .complete, key := cell3, header := .four, origin := .ingress 4, kind := .mark,
    detailFollows := false, sequence := 0x0210, domain := 4,
    copy := tab8 fun i => whole (if i = 1 then 2560000 else if i = 5 then 7 else 0),
    rawIn := 0, snapshot := some { latencyIn := 80000, asymmetry := 0xFFFE80, delay := 80904192 }, link := .absent,
    slots := tab6 fun n => if n = 1 then .timed 3276800000 else .idle }

/-- The board of section 5.9 with these entries: L_out(1) is 64,000 fu, ρ is 2,199,023 ru. -/
def holding (es : List Entry) : State :=
  let p := { boardProfile with ports := boardProfile.ports.set 1 { boardProfile.ports[1] with latencyOut := 64000 } }
  let s := banked p board
  { s with time := { s.time with rho := 2199023 }, table := { entries := es, nextOrder := 8 } }

/-! ## Well-formed terms -/

theorem test_wellFormed_length_0 : (Instr.fabricAccessRequest 0 .read 0).wellFormed = false := by decide

theorem test_wellFormed_length_17 : (Instr.fabricAccessRequest 0 .read 17).wellFormed = false := by decide

theorem test_wellFormed_length_16 : (Instr.fabricAccessRequest 0 .read 16).wellFormed = true := by decide

theorem test_wellFormed_shadow : (Instr.shadowWrite 0 0).wellFormed = false := by decide

theorem test_wellFormed_cell : (Instr.cellWordWrite 0 0).wellFormed = false := by decide

theorem test_wellFormed_code : (Instr.unknownCommand 0x62 0 0).wellFormed = false := by decide

theorem test_wellFormed_unknown : (Instr.unknownCommand 0x63 0 0).wellFormed = true := by decide

/-! ## The worked decode (section 1.6) -/

theorem test_class_command : board.wordClass 49160 = .command 1 0 := by decide +kernel

theorem test_class_report : board.wordClass 50180 = .report := by decide +kernel

theorem test_class_untouched : board.wordClass 50000 = .untouched := by decide +kernel

theorem test_class_pool : board.wordClass 65926 = .pool cell3 6 := by decide +kernel

theorem test_class_excluded : board.wordClass 66180 = .excluded := by decide +kernel

theorem test_class_w2 : board.wordClass 360480 = .pool { window := 2, index := 0 } 0 := by decide +kernel

theorem test_class_gap : board.wordClass 360479 = .untouched := by decide +kernel

theorem test_lane_10 : newAccess 0x2810186 .read 1 = access 10 65926 .read := by decide

theorem test_lane_classes : laneClass 0 = .processor ∧ laneClass 6 = .ingress 5 ∧ laneClass 7 = .other ∧ laneClass 8 = .other ∧
    laneClass 9 = .egress 0 ∧ laneClass 14 = .egress 5 ∧ laneClass 15 = .other := by decide

/-! ## Station time (sections 3.2 and 3.6, R44) -/

/-- Worked conversion: 1 s of raw time at +2,199,023 ru. -/
theorem test_convert :
    ({ raw := 0, anchorRaw := 0, anchorStation := { sec := 100, ns := 0, frac := 0 }, rho := 2199023, secondsSeen := 100 } :
      TimeBase).convert 65536000000000 = { sec := 101, ns := 1999, frac := 65521 } := by decide +kernel

/-- Worked conversion, x2. -/
theorem test_convert_reanchored :
    ({ raw := 0, anchorRaw := 32768000000000, anchorStation := { sec := 100, ns := 500000999, frac := 65528 }, rho := 2000000,
       secondsSeen := 100 } : TimeBase).convert 49152000000000 = { sec := 100, ns := 750001454, frac := 48970 } := by decide +kernel

theorem test_rate_limits : rateLimitUnits 1 = 1099511 ∧ rateLimitUnits 100 = 109951162 ∧ rateLimitUnits 500 = 549755813 := by
  decide +kernel

/-- Row 1 of section 3.6. -/
theorem test_timeSet :
    (after (.timeSet 0x10 0) (operands 100 999999000 0 (atTime 12 400000000 0 command))).now = { sec := 100, ns := 999999000, frac := 0 } := by
  decide +kernel

/-- Row 5 of section 3.6: nanoseconds above 999,999,999. -/
theorem test_timeSet_clamped :
    let t := after (.timeSet 0x11 0) (operands 4294967295 1200000000 0 (atTime 101 200 0 command))
    t.now = { sec := 4294967295, ns := 999999999, frac := 0 } ∧ t.monitor.status[2] = { result := .clamped, tag := 0x11, code := 1 } := by
  decide +kernel

/-- Row 2 of section 3.6. -/
theorem test_timeStep :
    (after (.timeStep 0 0) (operands 2000 0 0 (atTime 100 999999200 0 command))).now = { sec := 101, ns := 1200, frac := 0 } := by
  decide +kernel

/-- Row 4 of section 3.6: a step back gives a rollover. -/
theorem test_timeStep_back :
    let t := after (.timeStep 0 0) (operands (-2500) 0 0 (atTime 101 1599 32768 command))
    t.now = { sec := 100, ns := 999999099, frac := 32768 } ∧ t.time.secondsSeen = 100 := by
  decide +kernel

/-- Row 6 of section 3.6. -/
theorem test_rateSet :
    let t := after (.rateSet 0 0) (operands 600000000 0 0 command)
    t.time.rho = 109951162 ∧ t.disc.rhoI = 109951162 ∧ t.monitor.status[2].result = .clamped := by
  decide +kernel

/-! ## Correction arithmetic -/

/-- The table of R77. -/
theorem test_rateTerm : rateTerm 0 5 = 0 ∧ rateTerm 1048576 524288 = 1 ∧ rateTerm 1048576 (-524288) = 0 ∧
    rateTerm 1048576 (-524289) = -1 ∧ rateTerm 3276800000 2199023 = 6554 := by decide +kernel

/-- The first row of R85's table for negative sums. -/
theorem test_round_minus_1000 : roundSum .nearestEven (-1000) = -4 ∧ roundSum .towardZero (-1000) = -3 ∧
    roundSum .upward (-1000) = -3 ∧ roundSum .downward (-1000) = -4 := by decide

/-- The halves of R85's table. -/
theorem test_round_halves : roundSum .nearestEven (-384) = -2 ∧ roundSum .towardZero (-384) = -1 ∧
    roundSum .nearestEven (-128) = 0 ∧ roundSum .downward (-128) = -1 ∧ roundSum .upward (-256) = -1 := by decide

/-- Section 5.9: lane 10 reads h+3 of the cell. -/
theorem test_cellRead_mark :
    let t := after .cellWordRead (word 10 65927 .read (holding [mark]))
    t.ports.fabric = some 0x00F1639A ∧ t.report.ports[1].patched = 1 := by decide +kernel

/-- Section 5.10: the DETAIL's h+3, rounded TOWARD_ZERO, from the held sum of its MARK. -/
theorem test_cellRead_detail :
    let m := { mark with detailFollows := true, key := { window := 0, index := 9 }, link := .entry 1, slots := mark.slots.set 1 (.summed 0 3394476442) }
    let d := { mark with order := 1, kind := .detail, link := .entry 0, snapshot := none,
                         copy := tab8 fun i => whole (if i = 1 then 1280000 else 0) }
    let s := holding [m, d]
    (after .cellWordRead (word 10 65927 .read (banked { s.bank with rounding := .towardZero } s))).ports.fabric = some 0x00DDDB99 := by
  decide +kernel

/-- Section 5.10: the MARK's own slot holds the exact sum. -/
theorem test_cellRead_twoStep :
    ((after .cellWordRead (word 10 65926 .read (holding [{ mark with detailFollows := true }]))).table.entries.map (·.slots[1])) =
      [.summed 3276800000 3394476442] := by
  decide +kernel

/-- Section 5.12: off the top, off the bottom, arriving unknown. -/
theorem test_limits :
    computeTransit .nearestEven 0x7FFFFFFFFFFFFF00 (frameToFine (0x7FFFFFFFFFFFFF00#64).toInt + 3276800000) =
      { held := 0x7FFFFFFFFFFFFFFF, saturated := true, unknown := false } ∧
    computeTransit .nearestEven 0x800000000000000A (frameToFine (0x800000000000000A#64).toInt + 65536000 - frameToFine 8388608) =
      { held := 0x8000000000000000, saturated := true, unknown := false } ∧
    computeTransit .nearestEven 0x7FFFFFFFFFFFFFFF 0 = { held := 0x7FFFFFFFFFFFFFFF, saturated := false, unknown := true } := by
  decide +kernel

/-- Section 5.11: the sum of the ECHO and its rounding. -/
theorem test_echo : roundSum .nearestEven (echoSum 0 1146880000 (-1099511) 80000 64000) = 4623996 := by decide +kernel

/-- Section 6.10: the three samples, and the odd negative one. -/
theorem test_delaySample : delaySample 1310720000 0 80000 80000 4608000 = 45056000 ∧
    delaySample 1310720000 2199023 80000 80000 4608000 = 45057310 ∧
    delaySample 1220575232 0 80000 80000 4608256 = -49152 ∧ delaySample 1220575231 0 80000 80000 4608256 = -49153 := by
  decide +kernel

/-! ## Recognizing a frame (chapters 02 and 04) -/

/-- The candidate of lane 5 on cell 3 that holds an untagged one-step MARK up to h+0: type 0x88F7 in word 3. -/
def candidate : Candidate :=
  { openedCandidate cell3 0b1111 0 1000 with
    words := (((Vector.replicate 15 CapturedWord.empty).set 3 (whole 0x000088F7)).set 4 (whole 0x00000210)) }

/-- The board with that candidate open. -/
def opened : State := { board with candidates := board.candidates.set 5 (some candidate) }

/-- Word h+1 completes the allocation decision: the entry is OPEN, of port 4's ingress lane, with the candidate's reading. -/
theorem test_cellWrite_allocates :
    let t := after (.cellWordWrite 0b1111 0x04000000) (word 5 65925 .write opened)
    t.table.entries.map (fun e => (e.state, e.kind, e.sequence, e.domain, e.rawIn)) = [(.opened, .mark, 0x0210, 4, 1000)] ∧
    t.report.ports[4].tracked = 1 := by
  decide +kernel

/-- Another domain drops the candidate. -/
theorem test_cellWrite_domain :
    let t := after (.cellWordWrite 0b1111 0x05000000) (word 5 65925 .write opened)
    t.table.entries = [] ∧ t.candidates[5] = none := by
  decide +kernel

/-! ## Discipline (chapter 07) -/

/-- The examples of R121. -/
theorem test_fold : foldSecond { sec := 17, ns := 999999400, frac := 0 } = -39321600 ∧
    foldSecond { sec := 18, ns := 250, frac := 32768 } = 16416768 := by decide +kernel

/-- The example of R126. -/
theorem test_pi : (piUpdate 655360 live).disc.rhoI = -160 ∧ (piUpdate 655360 live).time.rho = -2720 := by decide +kernel

/-! ## Captures and pulses (chapter 08) -/

/-- Worked captures, row 2: a borrow, and the overrun. -/
theorem test_activeEdge :
    let p := { defaultProfile with inputs := defaultProfile.inputs.set 0 { enable := true, polarity := .rising, inputDelay := 150 } }
    let s := banked p (atTime 43 100 0 live)
    let t := after (.activeEdge 0) { s with captures := s.captures.set 0 { s.captures[0] with count := 42, pending := true } }
    t.captures[0] = { time := { sec := 42, ns := 999999950, frac := 0 }, count := 43, pending := true, level := true, sampling := .taken } ∧
    t.report.flags = 0x4000 := by
  decide +kernel

/-- One sample a tick (R137): an edge is no edge before the first tick after release, and a level that comes and goes
within one tick brings one change. -/
theorem test_sampling :
    let t := after (.resetRelease 3 true false false) State.reset
    let u := after (.inputLevelChange 0) (after (.activeEdge 0) live)
    after (.activeEdge 0) t = t ∧ u.captures[0].level = true ∧ (sampleInputs u).captures[0].sampling = .ready := by
  decide +kernel

/-- The fold of the first worked capture. -/
theorem test_fold_capture : foldSecond { sec := 41, ns := 999999762, frac := 100 } = -15597468 := by decide +kernel

/-- The settings of R144. -/
theorem test_pulse_settings :
    ({ period := 100, offset := 250000000, width := 20000, polarity := .activeHigh, gating := .always } : PulseItems).settings =
      { period := 100000000, offset := 50000000, width := 20000000 } ∧
    ({ period := 50, offset := 0, width := 60000, polarity := .activeHigh, gating := .always } : PulseItems).settings.width = 25000000 ∧
    ({ period := 1, offset := 0, width := 1000, polarity := .activeHigh, gating := .always } : PulseItems).settings.width = 500000 := by
  decide +kernel

/-- The worked schedule of section 8.5: the step, and the swap during a pulse. -/
theorem test_firstAfter :
    (PulseSettings.firstAfter { period := 100000000, offset := 50000000, width := 20000000 } { sec := 7, ns := 190000000, frac := 0 }) =
      { sec := 7, ns := 250000000, frac := 0 } ∧
    (PulseSettings.firstAfter { period := 200000000, offset := 0, width := 80000000 } { sec := 7, ns := 270000000, frac := 0 }) =
      { sec := 7, ns := 400000000, frac := 0 } ∧
    (PulseSettings.firstAfter { period := 100000000, offset := 50000000, width := 20000000 } { sec := 7, ns := 250000000, frac := 0 }) =
      { sec := 7, ns := 350000000, frac := 0 } := by
  decide +kernel

/-- Output 1 pulses until 7 s 270 ms, and at 7 s 190 ms an access ends whose swap turns the discipline off and gives the
output a period of 200 ms: the pulse ends with LOCKED, and the next leading instant lies after the trailing one (R149). -/
theorem test_swap_ends_pulse :
    let i : PulseItems := { period := 100, offset := 0, width := 80000, polarity := .activeHigh, gating := .lockedOnly }
    let p := { defaultProfile with
      outputs := defaultProfile.outputs.set 1 i, discipline := { defaultProfile.discipline with enable := true } }
    let q := { defaultProfile with outputs := defaultProfile.outputs.set 1 { i with period := 200 } }
    let s := atTime 7 190000000 0 live
    let t := after .fabricAccessEnd
      { s with
        arbiter := { s.arbiter with owner := .fabric, current := some ended }
        disc := { s.disc with state := .locked }
        profiles := { s.profiles with bankA := p, bankB := q, swap := .waiting }
        pulses := s.pulses.set 1
          { schedule := some { settings := i.settings, next := { sec := 7, ns := 200000000, frac := 0 } }
            trailing := some { sec := 7, ns := 270000000, frac := 0 } } }
    t.pulses[1] =
      { schedule := some
          { settings := { period := 200000000, offset := 0, width := 80000000 }, next := { sec := 7, ns := 400000000, frac := 0 } }
        trailing := none } := by
  decide +kernel

/-! ## Profiles (R11, section 9.8) -/

/-- A base of 65,540 stores 65,536 with CLAMPED. -/
theorem test_profileWrite :
    let t := after (.profileWrite 0x11 0) (operands 0x00020000 0 65540 command)
    t.staged.pool[0].base = 65536 ∧ t.monitor.status[2] = { result := .clamped, tag := 0x11, code := 0x50 } := by
  decide +kernel

/-- A base of 360,490 stores 360,480; one above memory stores 4,194,288; 0x1_0000_0010 is above memory. -/
theorem test_poolBase : (storePoolBase 360490).value = 360480 ∧ (storePoolBase 4194304).value = 4194288 ∧
    (storePoolBase 0x100000010).value = 4194288 := by decide

/-- A cell size and a period between two listed values. -/
theorem test_listed : (storeCellSize 15).value = 16 ∧ (storeCellSize 255).value = 128 ∧ (storePeriod 7).value = 5 ∧
    (storePeriod 1001).value = 1000 := by decide

/-- A pending swap takes place at the rollover, and its slot shows DONE (section 9.8). -/
theorem test_rollover_swap :
    let s := { live with
      time := { live.time with secondsSeen := 1 }
      profiles := { live.profiles with swap := .pending 3 }
      monitor := { live.monitor with status := live.monitor.status.set 3 { result := .pending, tag := 0x20, code := 0x52 } } }
    let t := after .rollover s
    t.profiles.active = .b ∧ t.monitor.status[3] = { result := .done, tag := 0x20, code := 0x52 } := by
  decide +kernel

/-! ## Memory, the arbiter and reports -/

/-- A write with enables for octets 1 and 3 leaves octets 0 and 2 (R2). -/
theorem test_writeWord :
    ((State.reset.memory.writeWord 5 0b1111 0x11223344).writeWord 5 0b0101 0xAABBCCDD).readWord 5 = 0x11BB33DD := by decide +kernel

/-- Writing what unwritten memory reads as removes the octets. -/
theorem test_writeWord_blank : (State.reset.memory.writeWord 5 0b1111 0x11223344).writeWord 5 0b1111 0 = State.reset.memory := by
  decide +kernel

/-- A burst crossing word 4,194,303 goes on at word 0 (R2). -/
theorem test_next_wraps : ({ access 0 4194303 .read with passed := 1, length := 2 }).next = 0 := by decide

/-- Forced service (R14): the 64th access to end with a report waiting gives the port to the report. -/
theorem test_forced :
    let s := { live with
      report := { live.report with queue := [.counters] }
      arbiter := { live.arbiter with owner := .fabric, waitCount := 63, current := some ended, waiting := [access 1 0 .write] } }
    let t := after .fabricAccessEnd s
    t.arbiter.owner = .report ∧ t.arbiter.waitCount = 0 ∧ t.report.flags = 0x8000 ∧ t.waitPin = true := by
  decide +kernel

/-- The Status burst of reset release: ten words from the report base, generation 1 first and last (R172, R176). -/
theorem test_release_burst :
    let t := after (.resetRelease 3 false false false) State.reset
    t.arbiter.burst.map (·.kind) = some .status ∧ t.arbiter.burst.map (·.words.length) = some 10 ∧
    t.arbiter.burst.bind (·.words.head?) = some (50176, 1) ∧ t.arbiter.burst.bind (·.words.getLast?) = some (50185, 1) := by
  decide +kernel

/-- RESTART keeps the flags and clears the counters (R175). -/
theorem test_restart :
    let s := { command with report := { command.report with flags := 5, globals := { GlobalCounters.zero with aged := 7 } } }
    let t := after (.restart 9 0) s
    t.report.flags = 5 ∧ t.report.globals.aged = 0 ∧ t.monitor.status[2] = { result := .done, tag := 9, code := 0x7F } := by
  decide +kernel

/-- Words of section 11.2 with tag 0x09: RESTART, PROFILE_SWAP in its two modes, code 0; and a word of 16 bits spells none. -/
theorem test_decode : decodeTableWord 32 0x7F091234 = some (.restart 9 0x1234) ∧
    decodeTableWord 32 0x52090002 = some (.profileSwapImmediate 9 1) ∧
    decodeTableWord 32 0x52090003 = some (.profileSwapAtSecond 9 1) ∧
    decodeTableWord 32 0x00090000 = some (.unknownCommand 0 9 0) ∧ decodeTableWord 16 0x0100 = none := by
  decide +kernel

/-- The Commands block after a RATE_SET that was clamped in slot 2 (section 11.4): result 2, tag 9, code 3 in its third word. -/
theorem test_commands_block :
    (blockData .commands (after (.rateSet 9 0) (operands 600000000 0 0 command)))[2]? = some 0x02090300 := by
  decide +kernel

/-! ## Witnesses: what the statements suppose can be met

One theorem for each statement with hypotheses, named after it. -/

theorem witness_StepTakesFront : (live.withPending [.rollover, .fabricAccessEnd]).pending = .rollover :: [.fabricAccessEnd] := rfl

theorem witness_EmptyQueueRunsClock : (State.reset.pending = [] ∧ State.reset.resetHeld = true) ∧
    (live.pending = [] ∧ live.resetHeld = false ∧ dueEvent live = none) ∧
    dueEvent { live with time := { live.time with secondsSeen := 1 } } = some .rollover ∧ DelayInv live := by
  decide +kernel

/-- The state with a report burst of one data word in progress. -/
def bursting : State :=
  { live with
    arbiter := { live.arbiter with owner := .report, burst := some { kind := .status, words := burstWords .status live } } }

theorem witness_HardwareResetResets : live.arbiter.burst = none ∧
    bursting.arbiter.burst = some { kind := .status, words := burstWords .status live } ∧ burstWords .status live ≠ [] := by
  decide +kernel

/-- An access in progress, of which no word or one has passed, with another waiting; one that waits for a burst; and none. -/
theorem witness_HardwareResetResets_access :
    (command.arbiter.current = some commandAccess ∧ commandAccess.passed = 0) ∧
    (let s : State := { live with arbiter := { live.arbiter with owner := .fabric, current := some ended, waiting := [commandAccess] } };
      s.arbiter.current = some ended ∧ ended.passed ≠ 0) ∧
    (let s : State := { bursting with arbiter := { bursting.arbiter with waiting := [commandAccess] } };
      s.arbiter.current = none ∧ s.arbiter.waiting = [commandAccess]) ∧
    live.arbiter.current = none ∧ live.arbiter.waiting = [] := by
  decide +kernel

/-- The part held in reset with a fabric access presented. -/
def heldPresented : State := { State.reset with arbiter := { State.reset.arbiter with current := some (access 0 0 .read) } }

theorem witness_ResetReleaseBringsUp : live.resetHeld = false ∧
    (State.reset.resetHeld = true ∧ State.reset.arbiter.current = none ∧ State.reset.arbiter.waiting = []) ∧
    (heldPresented.resetHeld = true ∧ heldPresented.arbiter.current = some (access 0 0 .read) ∧ (access 0 0 .read).passed = 0 ∧
      heldPresented.arbiter.waiting = []) ∧
    (let s : State := { State.reset with arbiter := { State.reset.arbiter with waiting := [access 0 0 .read] } };
      s.resetHeld = true ∧ s.arbiter.current = none ∧ s.arbiter.waiting = [access 0 0 .read]) ∧
    (let a : Access := { access 0 0 .read with length := 2, passed := 1, passThrough := true };
      ({ State.reset with arbiter := { State.reset.arbiter with current := some a } } : State).arbiter.current = some a ∧
        a.passed ≠ 0) := by
  decide +kernel

/-- A report request waits at a free port, with a wait count (met only between an access and its grant). -/
def requested (n : Nat) : State :=
  { live with report := { live.report with queue := [.status] }, arbiter := { live.arbiter with waitCount := n } }

theorem witness_AccessRequestIsGrantedOrWaits : (1 ≤ 1 ∧ 1 ≤ 16) ∧ (1 ≤ 16 ∧ 16 ≤ 16) ∧
    portFree command = false ∧
    (portFree State.reset = true ∧ State.reset.arbiter.waiting = [] ∧ State.reset.resetHeld = true) ∧
    (portFree live = true ∧ live.arbiter.waiting = [] ∧ live.resetHeld = false ∧ live.report.queue = []) ∧
    (portFree (requested 63) = true ∧ (requested 63).arbiter.waiting = [] ∧ (requested 63).resetHeld = false ∧
      (requested 63).arbiter.waitCount < 64) ∧
    (portFree (requested 64) = true ∧ (requested 64).arbiter.waiting = [] ∧ (requested 64).resetHeld = false ∧
      64 ≤ (requested 64).arbiter.waitCount ∧ (requested 64).report.queue = [.status]) := by
  decide +kernel

/-- The end of an access is next, with these accesses waiting, blocks queued and wait count. -/
def ending (w : List Access) (q : List BlockKind) (n : Nat) (s : State) : State :=
  { s with
    report := { s.report with queue := q }
    arbiter := { s.arbiter with owner := .fabric, waitCount := n, current := some ended, waiting := w } }

/-- What `AccessEndGrantsPort` supposes of a released part. -/
abbrev Ends (s : State) : Prop :=
  s.arbiter.current = some ended ∧ ended.length ≤ ended.passed ∧ s.arbiter.burst = none ∧ s.resetHeld = false ∧ s.profiles.swap ≠ .waiting

theorem witness_AccessEndGrantsPort : Ends (ending [] [] 0 live) ∧ Ends (ending [access 1 0 .read] [] 0 live) ∧
    Ends (ending [] [.status] 63 live) ∧ Ends (ending [access 1 0 .read] [.status] 62 live) ∧
    Ends (ending [access 1 0 .read] [.status] 63 live) ∧
    (let s := ending [] [.status] 0 { live with decode := board.decode };
      Ends s ∧ s.decode.pool[0] ≠ s.bank.pool[0]) := by
  decide +kernel

theorem witness_AccessEndGrantsPort_held :
    let s := { State.reset with arbiter := { State.reset.arbiter with current := some ended } }
    s.arbiter.current = some ended ∧ ended.length ≤ ended.passed ∧ s.arbiter.burst = none ∧ s.resetHeld = true ∧ HeldInv s := by
  decide +kernel

/-- A waiting swap of the board, its windows taken out, with these accesses waiting, blocks queued and wait count. -/
def swapEnding (w : List Access) (q : List BlockKind) (n : Nat) : State :=
  ending w q n { holding [mark] with profiles := { board.profiles with swap := .waiting } }

/-- What `WaitingSwapAtAccessEnd` supposes. -/
abbrev EndsSwapping (s : State) : Prop :=
  s.arbiter.current = some ended ∧ ended.length ≤ ended.passed ∧ s.profiles.swap = .waiting ∧ TableInv s ∧ s.arbiter.burst = none ∧
  s.resetHeld = false

theorem witness_WaitingSwapAtAccessEnd : EndsSwapping (swapEnding [] [] 0) ∧ EndsSwapping (swapEnding [access 1 0 .read] [] 0) ∧
    EndsSwapping (swapEnding [access 1 0 .read] [.counters] 62) ∧ EndsSwapping (swapEnding [access 1 0 .read] [.counters] 63) := by
  decide +kernel

/-- What `BurstEndGrantsPort` supposes. -/
abbrev EndsBurst (s : State) : Prop :=
  s.arbiter.burst = some { kind := .status, words := burstWords .status live } ∧ s.arbiter.current = none ∧ s.resetHeld = false

/-- A burst in progress, with these accesses waiting, blocks queued and wait count. -/
def burstingWith (w : List Access) (q : List BlockKind) (n : Nat) : State :=
  { bursting with report := { bursting.report with queue := q }, arbiter := { bursting.arbiter with waiting := w, waitCount := n } }

theorem witness_BurstEndGrantsPort : EndsBurst (burstingWith [] [] 0) ∧ EndsBurst (burstingWith [access 1 0 .read] [.status] 63) ∧
    EndsBurst (burstingWith [access 1 0 .read] [] 64) ∧ EndsBurst (burstingWith [access 1 0 .read] [.status] 64) ∧ EndsBurst (burstingWith [] [.counters] 64) ∧
    (burstWords .status live).getLast? = some (50185, 0) := by
  decide +kernel

theorem witness_StepKeepsBurst : BurstInv bursting ∧
    (stepsOn bursting = true ∧ bursting.arbiter.burst = some { kind := .status, words := burstWords .status live } ∧
      ∀ i rest, bursting.pending = i :: rest → i ≠ .reportBurstEnd ∧ resetRow i = false) ∧
    BurstInv (bursting.withPending [.reportBurstEnd]) ∧ stepsOn (bursting.withPending [.reportBurstEnd]) = true := by
  have words : ∀ n : Fin 18, (((burstWords .status live)[n.val]?).all fun w => w.1.toNat == 50176 + n.val) = true := by
    decide +kernel
  have base : bursting.commandBase = 49152 := by decide +kernel
  have offset : BlockKind.status.offset = 0 := rfl
  have placed : ∀ n : Fin 18, ∀ w, (burstWords .status live)[n.val]? = some w →
      w.1.toNat = bursting.commandBase + 1024 + BlockKind.status.offset + n.val ∧ w.1.toNat < bursting.commandBase + 2048 := by
    intro n w h
    have here := words n
    rw [h] at here
    have address : w.1.toNat = 50176 + n.val := by simpa using here
    rw [base, offset, address]
    constructor <;> omega
  have framed : FramesBlock bursting.commandBase .status bursting.report.generations[BlockKind.status.number] (burstWords .status live) :=
    ⟨by decide +kernel, placed, by decide +kernel, by decide +kernel⟩
  have inv : ∀ b ∈ bursting.arbiter.burst, FramesBlock bursting.commandBase b.kind bursting.report.generations[b.kind.number] b.words := by
    intro b h
    obtain rfl : { kind := .status, words := burstWords .status live } = b := Option.some.inj h
    exact framed
  exact ⟨inv, ⟨by decide +kernel, rfl, fun _ _ h => nomatch h⟩, inv, by decide +kernel⟩

/-- Straps 0 and 255, the ends of R8's range. -/
def strapped (b : BitVec 8) (s : State) : State := { s with straps := { base := b, bypass := false } }

theorem witness_WordsPassAndShadowsMerge :
    AtMemoryOnly (word 1 49152 .write live) (access 1 49152 .write) ∧ AtMemoryOnly (word 0 49279 .read live) (access 0 49279 .read) ∧
    AtMemoryOnly (word 0 50176 .write live) (access 0 50176 .write) ∧ AtMemoryOnly (word 0 51199 .write live) (access 0 51199 .write) ∧
    AtMemoryOnly (word 2 66180 .write board) (access 2 66180 .write) ∧ AtMemoryOnly (word 0 50000 .write board) (access 0 50000 .write) ∧
    AtMemoryOnly (word 0 65920 .read board) (access 0 65920 .read) ∧ AtMemoryOnly (word 0 0 .write State.reset) (access 0 0 .write) ∧
    (AtCommand command commandAccess 2 ∧ (0b0111 : Enables) ≠ 0b1111) ∧
    (Decoding command commandAccess ∧ commandAccess.direction = .write) := by
  repeat' apply And.intro
  all_goals decide +kernel

theorem witness_WordsPassAndShadowsMerge_shadow :
    (AtShadow (word 0 1 .write (strapped 0 live)) (access 0 1 .write) 0 0 ∧ (0b0001 : Enables) ≠ 0) ∧
    (AtShadow (word 0 4178047 .write (strapped 255 live)) (access 0 4178047 .write) 15 6 ∧ (0b1111 : Enables) ≠ 0) := by
  decide +kernel

/-- A written word that is next at a command slot, a shadow word, a pool cell and outside the areas. -/
abbrev WriteNext (s : State) (a : Access) : Prop :=
  s.arbiter.current = some a ∧ a.passed < a.length ∧ a.direction = .write

theorem witness_WrittenWordsAreRows : (AtCommand command commandAccess 2 ∧ WriteNext command commandAccess) ∧
    WriteNext (word 0 1 .write (strapped 0 live)) (access 0 1 .write) ∧ WriteNext (word 2 65920 .write board) (access 2 65920 .write) ∧
    WriteNext (word 0 50000 .write board) (access 0 50000 .write) ∧ WriteNext (word 0 0 .write State.reset) (access 0 0 .write) ∧
    commandWordOf (.restart 9 0) = some 0x7F090000 ∧ commandWordOf (.unknownCommand 0 9 0) = some 0x00090000 := by
  decide +kernel

/-- The next word is word `n` of cell 3. -/
def cellWord (lane : BitVec 4) (n : BitVec 22) (d : Direction) (s : State) : State := word lane (65920 + n) d s

/-- A two-step MARK and an OPEN DETAIL of its exchange in cell 4, whose words are present. -/
def twoStep : Entry := { mark with detailFollows := true }

/-- See `twoStep`. -/
def openDetail : Entry :=
  { mark with order := 1, key := { window := 0, index := 4 }, kind := .detail, state := .opened, snapshot := none }

theorem witness_CellWriteMirrorsHeader :
    let s := cellWord 2 6 .write (holding [mark])
    let s' := cellWord 2 127 .write board
    let s'' := cellWord 2 15 .write opened
    (AtCellWrite s (access 2 65926 .write) 0 ∧ (0b1111 : Enables) ≠ 0 ∧ cellOf s 65926 0 = (cell3, 6) ∧ TableInv s ∧
      (∀ m : Fin 7, ∀ c ∈ s.candidates[m], c.key ≠ cell3) ∧ findLive cell3 s.table.entries = some mark ∧ mark.state = .complete ∧
      HeaderMirrors 6 0b1111 7 mark { mark with copy := mark.copy.set 0 (whole 7) }) ∧
    (AtCellWrite s' (access 2 66047 .write) 0 ∧ cellOf s' 66047 0 = (cell3, 127) ∧ TableInv s' ∧
      (∀ m : Fin 7, ∀ c ∈ s'.candidates[m], c.key ≠ cell3) ∧ findLive cell3 s'.table.entries = none) ∧
    (AtCellWrite s'' (access 2 65935 .write) 0 ∧ cellOf s'' 65935 0 = (cell3, 15) ∧ TableInv s'' ∧ 14 < 15 ∧
      s''.candidates[5] = some candidate) ∧
    (openDetail.state = .opened ∧ Qualifies twoStep openDetail ∧ ¬ Qualifies mark openDetail) := by
  repeat' apply And.intro
  all_goals decide +kernel

/-- The words of the DETAIL are present, and those of a MARK whose word h+2 is not are not. -/
theorem witness_WordsPresent :
    WordsPresent openDetail ∧ ¬ WordsPresent { mark with copy := mark.copy.set 0 CapturedWord.empty } := by
  constructor
  · show ∀ i : Fin 8, i.val < 6 → openDetail.copy[i].present = 0b1111
    decide +kernel
  · show ¬ ∀ i : Fin 8, i.val < 6 → (mark.copy.set 0 CapturedWord.empty)[i].present = 0b1111
    decide +kernel

/-- The board with ports 2 and 4 in delay mode LINK, port 4 upstream-eligible. -/
def linkBoard : State :=
  let ports := boardProfile.ports.set 4 { boardProfile.ports[4] with delayMode := .link, upstreamEligible := true }
  banked { boardProfile with ports := ports.set 2 { ports[2] with delayMode := .link } } board

/-- Candidate `c` of lane `m` on cell 3, whose word `n` a write is next. -/
def judging (m : Fin 7) (c : Candidate) (n : BitVec 22) : State :=
  cellWord 5 n .write { linkBoard with candidates := linkBoard.candidates.set m (some c) }

/-- The candidate after that write, of all octets. -/
def wrote (c : Candidate) (n : Fin 15) (x : Word) : Candidate := { c with words := c.words.set n (whole x) }

/-- What the statements about a candidate suppose, but for its allocation. -/
abbrev Judges (s : State) (m : Fin 7) (c : Candidate) (n : Fin 15) (x : Word) : Prop :=
  AtCellWrite s (access 5 (65920 + n.val) .write) 0 ∧ (0b1111 : Enables) ≠ 0 ∧
  cellOf s (65920 + n.val) 0 = (cell3, n.val) ∧ 1 ≤ n.val ∧ n.val ≤ 14 ∧ CellInv s ∧ TableInv s ∧
  s.candidates[m] = some c ∧ c.key = cell3 ∧ CandidateCaptures n.val 0b1111 x c (wrote c n x)

/-- A candidate with the type 0x88F7 and this word h+0. -/
def heading (x : Word) : Candidate := wrote candidate 4 x

/-- A candidate with an index tag in word 3. -/
def tagged : Candidate := wrote (openedCandidate cell3 0b1111 0 1000) 3 0x00008100

/-- The type decision: it waits for word 3 and for word 4 after a tag, and fails on another type in either. -/
theorem witness_CandidateIsJudged_type :
    let bare := openedCandidate cell3 0b1111 0 1000
    let b := linkBoard.bank
    (bare.allocated = none ∧ bare.header = none ∧ tagged.header = none) ∧
    (Judges (judging 5 bare 14) 5 bare 14 9 ∧ TypeWaits (wrote bare 14 9) b) ∧
    (Judges (judging 5 bare 3) 5 bare 3 0x8100 ∧ TypeWaits (wrote bare 3 0x8100) b) ∧
    (Judges (judging 5 bare 3) 5 bare 3 0x1234 ∧ TypeFails (wrote bare 3 0x1234) b) ∧
    (Judges (judging 5 tagged 4) 5 tagged 4 0x1234 ∧ TypeFails (wrote tagged 4 0x1234) b) ∧
    (Judges (judging 5 tagged 4) 5 tagged 4 0x88F7 ∧ TypeKnown tagged (wrote tagged 4 0x88F7) b .five ∧
      ¬ AllPresent (wrote tagged 4 0x88F7) 5 2) ∧
    (Judges (judging 5 bare 3) 5 bare 3 0x88F7 ∧ TypeKnown bare (wrote bare 3 0x88F7) b .four ∧
      ¬ AllPresent (wrote bare 3 0x88F7) 4 2) := by
  repeat' apply And.intro
  all_goals decide +kernel

/-- The allocation decision: another version, another domain, a kind of none, and a MARK of the processor's lane. -/
theorem witness_CandidateIsJudged_drop :
    let b := linkBoard.bank
    let d := fun x => wrote (heading x) 5 0x04000000
    (Judges (judging 5 (heading 0x01000210) 5) 5 (heading 0x01000210) 5 0x04000000 ∧
      TypeKnown (heading 0x01000210) (d 0x01000210) b .four ∧ AllPresent (d 0x01000210) 4 2 ∧
      ((d 0x01000210).word 4).data.extractLsb' 24 4 ≠ b.version) ∧
    (Judges (judging 5 candidate 5) 5 candidate 5 0x05000000 ∧ TypeKnown candidate (wrote candidate 5 0x05000000) b .four ∧
      AllPresent (wrote candidate 5 0x05000000) 4 2 ∧ ((wrote candidate 5 0x05000000).word 4).data.extractLsb' 24 4 = b.version ∧
      ¬ PassesChecks (wrote candidate 5 0x05000000) b .four) ∧
    (Judges (judging 5 (heading 0x30000210) 5) 5 (heading 0x30000210) 5 0x04000000 ∧ PassesChecks (d 0x30000210) b .four ∧
      wordKind ((d 0x30000210).word 4).data = none) ∧
    (Judges (judging 0 candidate 5) 0 candidate 5 0x04000000 ∧ PassesChecks (d 0x00000210) b .four ∧
      wordKind ((d 0x00000210).word 4).data = some .mark) := by
  repeat' apply And.intro
  all_goals decide +kernel

/-- `s` with a full table, none of whose entries is on cell 3. -/
def full (s : State) : State :=
  { s with
    table := { entries := (List.range 64).map fun i => { mark with order := i, key := { window := 1, index := i } }, nextOrder := 64 } }

/-- What `AllocationMakesEntry` supposes of candidate `heading x` of lane `m`, its word h+1 the next. -/
abbrev Allocates (s : State) (m : Fin 7) (x : Word) (k : FrameKind) : Prop :=
  Judges s m (heading x) 5 0x04000000 ∧ TypeKnown (heading x) (wrote (heading x) 5 0x04000000) linkBoard.bank .four ∧
  PassesChecks (wrote (heading x) 5 0x04000000) linkBoard.bank .four ∧
  wordKind ((wrote (heading x) 5 0x04000000).word 4).data = some k

theorem witness_AllocationMakesEntry :
    Allocates (judging 5 (heading 0x00000210) 5) 5 0x00000210 .mark ∧ Allocates (judging 5 (heading 0x80000210) 5) 5 0x80000210 .detail ∧
    Allocates (judging 5 (heading 0x10000210) 5) 5 0x10000210 .probe ∧ Allocates (judging 5 (heading 0x20000210) 5) 5 0x20000210 .echo ∧
    Allocates (judging 0 (heading 0x10000210) 5) 0 0x10000210 .probe ∧ Allocates (judging 0 (heading 0x20000210) 5) 0 0x20000210 .echo ∧
    (judging 5 (heading 0x00000210) 5).table.entries.length < 64 ∧
    (Allocates (full (judging 5 (heading 0x00000210) 5)) 5 0x00000210 .mark ∧
      64 ≤ (full (judging 5 (heading 0x00000210) 5)).table.entries.length) := by
  repeat' apply And.intro
  all_goals decide +kernel

/-- An allocated candidate with this word h+0, all header words present but h+9. -/
def tracked (x : Word) : Candidate :=
  { heading x with
    words := (List.range 8).foldl (fun v i => v.setIfInBounds (i + 5) (whole 0)) (heading x).words
    header := some .four, allocated := wordKind x }

/-- What `CompletionHandsOff` supposes, with all words present after the write of h+9. -/
abbrev Hands (m : Fin 7) (x : Word) : Prop :=
  Judges (judging m (tracked x) 13) m (tracked x) 13 0 ∧ (tracked x).allocated = wordKind x ∧ (wordKind x).isSome = true ∧
  (tracked x).header = some .four ∧
  AllPresent (wrote (tracked x) 13 0) 4 10

/-- Each kind of each lane class; before the write of h+9 the words of an ECHO are not all present. -/
theorem witness_CompletionHandsOff :
    (Hands 5 0x00000210 ∧ Hands 5 0x80000210 ∧ Hands 5 0x10000210 ∧ Hands 5 0x20000210 ∧ Hands 0 0x10000210 ∧ Hands 0 0x20000210) ∧
    ¬ AllPresent (wrote (tracked 0x20000210) 14 0) 4 10 ∧ originOf 5 = .ingress 4 ∧
    linkBoard.bank.ports[4].upstreamEligible = true ∧ linkBoard.bank.ports[4].delayMode = .link ∧
    (0 : Word) ++ (0 : Word) = linkBoard.bank.localId := by
  repeat' apply And.intro
  all_goals decide +kernel

/-- Port 2 holds one record of each list, taken at reading 0; the raw count stands at the default timeout, 1 s. -/
def listed : State :=
  let s := atRaw 65536000000000 command
  let d := { s.delays[2] with probes := [{ sequence := 0x104, t1 := 0 }], responders := [{ sequence := 0x33, source := 9, t2 := 0 }] }
  { s with delays := s.delays.set 2 d }

/-- The MARK with its slot 1 PATCHED. -/
def patchedMark : Entry := { mark with slots := mark.slots.set 1 (.patched 3276800000 15819674) }

/-- A PROBE in cell 3. -/
def probe : Entry := { mark with kind := .probe }

/-- Lane 11 reads word 0 of the PROBE, `n` records in the list; where it is 1, of the PROBE's sequence. -/
def probing (n : Nat) : State :=
  let s := { linkBoard with table := { entries := [probe], nextOrder := 1 } }
  let l := (List.range n).map fun i => { sequence := BitVec.ofNat 16 (if n = 1 then 0x0210 else i), t1 := 0 }
  cellWord 11 0 .read { s with delays := s.delays.set 2 { s.delays[2] with probes := l } }

theorem witness_CellReadTimesAndSubstitutes :
    (AtCellRead (cellWord 9 0 .read board) (access 9 65920 .read) 0 0 ∧ findLive cell3 board.table.entries = none) ∧
    (AtCellRead (cellWord 14 0 .read (holding [mark])) (access 14 65920 .read) 0 5 ∧
      cellOf (cellWord 14 0 .read (holding [mark])) 65920 0 = (cell3, 0) ∧
      findLive cell3 (holding [mark]).table.entries = some mark ∧ mark.kind ≠ .probe) ∧
    (AtCellRead (cellWord 10 6 .read (holding [patchedMark])) (access 10 65926 .read) 0 1 ∧
      cellOf (cellWord 10 6 .read (holding [patchedMark])) 65926 0 = (cell3, 6) ∧ 6 = mark.header.h + 2 ∧
      findLive cell3 (holding [patchedMark]).table.entries = some patchedMark ∧ patchedMark.slots[1] = .patched 3276800000 15819674) ∧
    (AtCellRead (cellWord 10 7 .read (holding [patchedMark])) (access 10 65927 .read) 0 1 ∧
      cellOf (cellWord 10 7 .read (holding [patchedMark])) 65927 0 = (cell3, 7) ∧ 7 = mark.header.h + 3) ∧
    (AtCellRead (cellWord 10 8 .read (holding [mark])) (access 10 65928 .read) 0 1 ∧
      cellOf (cellWord 10 8 .read (holding [mark])) 65928 0 = (cell3, 8)) ∧
    ∀ n ∈ [0, 1, 3, 4],
      AtCellRead (probing n) (access 11 65920 .read) 0 2 ∧ cellOf (probing n) 65920 0 = (cell3, 0) ∧
        findLive cell3 (probing n).table.entries = some probe ∧ (probing n).bank.ports[2].delayMode = .link ∧
        (probing n).delays[2].probes.length = n ∧ (n = 1 ∨ ∀ r ∈ (probing n).delays[2].probes, r.sequence ≠ probe.sequence) := by
  repeat' apply And.intro
  all_goals decide +kernel

theorem witness_OneStepMarkIsPatched :
    let s := cellWord 10 6 .read (holding [mark])
    let s' := cellWord 10 7 .read (holding [mark])
    (AtCellRead s (access 10 65926 .read) 0 1 ∧ cellOf s 65926 0 = (cell3, 6) ∧ findLive cell3 s.table.entries = some mark ∧
      6 = mark.header.h + 2 ∧ mark.kind = .mark ∧ mark.detailFollows = false ∧ mark.slots[1] = .timed 3276800000 ∧
      mark.cIn = some 2560000 ∧ mark.snapshot = some { latencyIn := 80000, asymmetry := 0xFFFE80, delay := 80904192 } ∧
      (2560000 : BitVec 64) ≠ 0x7FFFFFFFFFFFFFFF) ∧
    (AtCellRead s' (access 10 65927 .read) 0 1 ∧ cellOf s' 65927 0 = (cell3, 7) ∧ findLive cell3 s'.table.entries = some mark ∧
      7 = mark.header.h + 3) ∧
    (((-256 : Int) = 256 * -1 + 0 ∧ (0 : Int) ≤ 0) ∧ ((-1 : Int) = 256 * -1 + 255 ∧ (255 : Int) ≤ 255) ∧
      (-128 : Int) = 256 * -1 + 128) := by
  repeat' apply And.intro
  all_goals decide +kernel

/-- Lane 10 reads a transit word of `e`, the live entry of cell 3. -/
abbrev Settles (es : List Entry) (e : Entry) (n : Nat) : Prop :=
  let s := cellWord 10 (BitVec.ofNat 22 n) .read (holding es)
  AtCellRead s (access 10 (65920 + BitVec.ofNat 22 n) .read) 0 1 ∧ cellOf s (65920 + n) 0 = (cell3, n) ∧
  findLive cell3 s.table.entries = some e ∧ (n = e.header.h + 2 ∨ n = e.header.h + 3)

/-- The MARK's exchange partner, its DETAIL, in cell 3, linked to the MARK of order 1 in cell 4, or with no link. -/
def detailOf (l : Link) : Entry := { mark with kind := .detail, link := l, snapshot := none }

/-- The MARK of order 1 in cell 4 with its slot 1 SUMMED. -/
def summedMark : Entry :=
  { twoStep with order := 1, key := { window := 0, index := 4 }, link := .entry 0, slots := mark.slots.set 1 (.summed 0 7) }

/-- The MARK with slot 1 in this state. -/
def inSlot (x : Slot) : Entry := { mark with slots := mark.slots.set 1 x }

/-- The MARK's words as an ECHO. -/
def echo : Entry := { mark with kind := .echo, copy := tab8 fun _ => whole 0 }

theorem witness_TransitReadSettlesSlot :
    (Settles [probe] probe 6 ∧ Settles [mark] mark 6 ∧ Settles [mark] mark 7 ∧ Settles [twoStep] twoStep 6) ∧
    (Settles [inSlot .idle] (inSlot .idle) 6 ∧ Settles [inSlot (.summed 0 7)] (inSlot (.summed 0 7)) 7 ∧
      Settles [inSlot (.passed none)] (inSlot (.passed none)) 7) ∧
    (let e := { mark with copy := mark.copy.set 0 CapturedWord.empty };
      Settles [e] e 6 ∧ e.cIn = none ∧ e.slots[1] = .timed 3276800000) ∧
    (Settles [detailOf .absent] (detailOf .absent) 6 ∧ (detailOf .absent).cIn = some 2560000) ∧
    (Settles [detailOf (.entry 1), summedMark] (detailOf (.entry 1)) 7 ∧
      findOrder 1 (holding [detailOf (.entry 1), summedMark]).table.entries = some summedMark ∧ summedMark.slots[1] = .summed 0 7) ∧
    (let e := { echo with copy := echo.copy.set 6 CapturedWord.empty };
      Settles [e] e 6 ∧ e.requester = none) ∧
    (Settles [echo] echo 6 ∧ echo.requester = some 0 ∧ DelayInv (holding [echo]) ∧ (holding [echo]).delays[1].responders = []) ∧
    (let d := { listed.delays[2] with responders := [{ sequence := 0x0210, source := 0, t2 := 0 }] };
      let s := cellWord 11 6 .read { listed with decode := board.decode, table := (holding [echo]).table, delays := listed.delays.set 2 d };
      AtCellRead s (access 11 65926 .read) 0 2 ∧ findLive cell3 s.table.entries = some echo ∧ DelayInv s ∧
        s.delays[2].responders = [{ sequence := echo.sequence, source := 0, t2 := 0 }]) := by
  repeat' apply And.intro
  all_goals decide +kernel

/-- A DETAIL with no link has no MARK with a held sum. -/
theorem witness_TransitReadSettlesSlot_noLink : ∀ o m r x, (detailOf .absent).link = .entry o →
    findOrder o (holding [detailOf .absent]).table.entries = some m → m.slots[1] ≠ .summed r x :=
  fun _ _ _ _ h => nomatch h

/-- A rollover is due, with this swap request. -/
def rolling (x : SwapRequest) : State :=
  { command with time := { live.time with secondsSeen := 1 }, profiles := { live.profiles with swap := x } }

theorem witness_RolloverReanchorsAndSwaps :
    ((rolling .none).resetHeld = false ∧ (rolling .none).now.sec ≠ (rolling .none).time.secondsSeen ∧ NoPendingSwap (rolling .none) ∧
      portFree (rolling .none) = false) ∧
    ((rolling (.pending 15)).resetHeld = false ∧ (rolling (.pending 15)).now.sec ≠ (rolling (.pending 15)).time.secondsSeen ∧
      (rolling (.pending 15)).profiles.swap = .pending 15) ∧
    (let s := { rolling (.pending 15) with arbiter := State.reset.arbiter };
      s.resetHeld = false ∧ s.now.sec ≠ s.time.secondsSeen ∧ s.profiles.swap = .pending 15 ∧ portFree s = true) := by
  decide +kernel

theorem witness_RecordsExpire :
    (let s := atRaw 1310720000000 (holding [mark]);
      s.resetHeld = false ∧ PortInv s ∧ TableInv s ∧ mark ∈ s.table.entries ∧
        (s.tickLimits.age : Int) ≤ rawDiff s.time.raw mark.rawIn ∧ (s.bank.ageLimit : Int) * 65536000000 ≤ rawDiff s.time.raw mark.rawIn) ∧
    (listed.resetHeld = false ∧ DelayInv listed ∧ PortInv listed ∧ portFree listed = false ∧
      (listed.tickLimits.probe : Int) ≤ rawDiff listed.time.raw 0 ∧
      (listed.bank.probeTimeout : Int) * 655360000000 ≤ rawDiff listed.time.raw 0 ∧
      listed.delays[2].probes = [{ sequence := 0x104, t1 := 0 }] ∧
      listed.delays[2].responders = [{ sequence := 0x33, source := 9, t2 := 0 }]) ∧
    (let s := { listed with arbiter := State.reset.arbiter };
      s.resetHeld = false ∧ DelayInv s ∧ portFree s = true ∧ (s.tickLimits.probe : Int) ≤ rawDiff s.time.raw 0) := by
  repeat' apply And.intro
  all_goals decide +kernel

/-- A discipline in this state whose missing timer started at 0; the raw count stands at the default timeout, 3 s. -/
def missing (d : DisciplineState) : State :=
  let s := atRaw 196608000000000 command
  { s with disc := { s.disc with state := d, source := .network, missing := some 0 } }

/-- A holdover timer that started at 0, at the default limit, 3,600 s. -/
def holdover : State :=
  let s := atRaw 235929600000000000 command
  { s with disc := { s.disc with state := .holdover, holdover := some 0 } }

/-- The state with the memory port idle. -/
def freed (s : State) : State := { s with arbiter := State.reset.arbiter }

/-- What the clauses for the missing timer suppose. -/
abbrev Misses (s : State) : Prop :=
  s.resetHeld = false ∧ s.disc.missing = some 0 ∧ (s.tickLimits.missing : Int) ≤ rawDiff s.time.raw 0 ∧
  (s.bank.discipline.missingTimeout : Int) * 6553600000000 ≤ rawDiff s.time.raw 0

/-- The source mode NETWORK_THEN_INPUT, in LOCKED. -/
def missingNetwork : State :=
  banked { defaultProfile with discipline := { defaultProfile.discipline with mode := .networkThenInput } } (missing .locked)

theorem witness_DisciplineTimersAct : Misses (missing .acquire) ∧ (Misses (missing .locked) ∧ RateInv (missing .locked)) ∧
    Misses (missing .freeRun) ∧ Misses (missing .holdover) ∧ (missing .locked).bank.discipline.mode ≠ .networkThenInput ∧
    (Misses missingNetwork ∧ missingNetwork.bank.discipline.mode = .networkThenInput ∧ missingNetwork.disc.source = .network) ∧
    (∀ d ∈ [DisciplineState.freeRun, .acquire, .locked, .holdover],
      Misses (freed (missing d)) ∧ portFree (freed (missing d)) = true) ∧ portFree (missing .locked) = false := by
  repeat' apply And.intro
  all_goals decide +kernel

theorem witness_DisciplineTimersAct_holdover :
    (portFree (freed holdover) = true ∧ (freed holdover).disc = holdover.disc) ∧
    (holdover.resetHeld = false ∧ portFree holdover = false ∧ holdover.disc.state = .holdover ∧ holdover.disc.holdover = some 0 ∧
      holdover.tickLimits.holdover = some 235929600000000000 ∧ (235929600000000000 : Int) ≤ rawDiff holdover.time.raw 0 ∧
      holdover.bank.discipline.holdoverLimit ≠ 0 ∧
      (holdover.bank.discipline.holdoverLimit : Int) * 65536000000000 ≤ rawDiff holdover.time.raw 0) ∧
    (banked { defaultProfile with discipline := { defaultProfile.discipline with holdoverLimit := 0 } } holdover).bank.discipline.holdoverLimit = 0 := by
  decide +kernel

/-- Output 1 of section 8.5 at 7 s 150 ms, with an active pulse whose trailing instant is now too. -/
def pulsing : State :=
  let p := { defaultProfile with
    outputs := defaultProfile.outputs.set 1 { period := 100, offset := 250000000, width := 20000, polarity := .activeHigh, gating := .always } }
  let s := banked p (atTime 7 150000000 0 live)
  { s with
    pulses := s.pulses.set 1
      { schedule := some { settings := p.outputs[1].settings, next := { sec := 7, ns := 150000000, frac := 0 } }
        trailing := some { sec := 7, ns := 150000000, frac := 0 } } }

theorem witness_PulseInstantsAct : pulsing.resetHeld = false ∧ PortInv pulsing ∧
    (pulsing.pulses[1].schedule.map fun c => decide (0 ≤ pulsing.now.sub c.next)) = some true ∧
    (pulsing.pulses[1].trailing.map fun x => decide (0 ≤ pulsing.now.sub x)) = some true ∧
    (∀ i ∈ ([(1, 0, 1), (1000, 999999999, 65535)] : List (Nat × Nat × Nat)),
      PulseItems.InRange { period := i.1, offset := i.2.1, width := i.2.2, polarity := .activeLow, gating := .always } ∧ i.1 ≠ 0) := by
  decide +kernel

/-- The discipline of the active bank enabled. -/
def enabled (s : State) : State :=
  banked { defaultProfile with discipline := { defaultProfile.discipline with enable := true } } s

/-- Input 1 enabled, its last level this one. -/
def edged (level : Bool) : State :=
  let p := { defaultProfile with inputs := defaultProfile.inputs.set 1 { enable := true, polarity := .falling, inputDelay := -1000000 } }
  banked p { live with captures := live.captures.set 1 { live.captures[1] with level := level, pending := true } }

theorem witness_InputEdgesAct :
    (live.resetHeld = false ∧ PortInv live ∧ live.captures[0].sampling = .ready ∧
      live.captures[0].level ≠ live.bank.inputs[0].polarity.activeLevel ∧ live.bank.inputs[0].enable = false) ∧
    ((edged true).resetHeld = false ∧ PortInv (edged true) ∧ (edged true).captures[1].sampling = .ready ∧
      (edged true).captures[1].level ≠ (edged true).bank.inputs[1].polarity.activeLevel ∧ (edged true).bank.inputs[1].enable = true ∧
      (edged true).captures[1].pending = true) ∧
    (edged false).captures[1].level = (edged false).bank.inputs[1].polarity.activeLevel ∧
    (AtCommand { command with captures := (edged true).captures } commandAccess 2 ∧
      (1 : Fin 2) = (if (1 : BitVec 16).getLsbD 0 then 1 else 0) ∧ (0 : Fin 2) = (if (0 : BitVec 16).getLsbD 0 then 1 else 0)) ∧
    (let s := enabled { command with disc := { command.disc with source := .input } };
      AtCommand s commandAccess 2 ∧ s.bank.discipline.enable = true ∧ s.disc.source = .input) := by
  repeat' apply And.intro
  all_goals decide +kernel

/-- The commands suppose that the next word is the word-0 write of a slot: slot 2 of the board, and the first and last
slots of the lowest and highest command base (R8). -/
theorem witness_command : AtCommand command commandAccess 2 ∧
    AtCommand (word 0 0 .write (strapped 0 live)) (access 0 0 .write) 0 ∧
    AtCommand (word 0 4178040 .write (strapped 255 live)) (access 0 4178040 .write) 15 := by
  decide +kernel

/-- A swap request stands. -/
def swapping (x : SwapRequest) : State := { command with profiles := { command.profiles with swap := x } }

/-- Station time stays in its second or leaves it, with no swap pending or one; and the discipline is told or not. -/
theorem witness_TimeCommandsStep : AtCommand (operands 1 999999999 0 command) commandAccess 2 ∧
    AtCommand (operands 1 1000000000 0 command) commandAccess 2 ∧ AtCommand (operands 0x80000000 0 0 command) commandAccess 2 ∧
    (NoPendingSwap command ∧ (1 : BitVec 32) ≠ command.time.secondsSeen ∧ (0 : BitVec 32) = command.time.secondsSeen) ∧
    (AtCommand (operands 1 0 0 (swapping (.pending 3))) commandAccess 2 ∧
      (operands 1 0 0 (swapping (.pending 3))).profiles.swap = .pending 3) ∧
    command.disc.state = .freeRun ∧ (AtCommand (missing .locked) commandAccess 2 ∧ (missing .locked).disc.state ≠ .freeRun) := by
  repeat' apply And.intro
  all_goals decide +kernel

theorem witness_RateSetGivesBothRates :
    (AtCommand (operands (-109951162) 0 0 command) commandAccess 2 ∧
      (-109951162 : Int) = ((operands (-109951162) 0 0 command).monitor.shadows[2][0]).toInt ∧
      (operands (-109951162) 0 0 command).bank.discipline.enable = false) ∧
    (AtCommand (enabled command) commandAccess 2 ∧ (enabled command).bank.discipline.enable = true) := by
  decide +kernel

theorem witness_FlushAndRelatchEmptyLists :
    AtCommand { command with table := { entries := [mark], nextOrder := 1 }, disc := { command.disc with latched := some 9 } }
      commandAccess 2 := by
  decide +kernel

theorem witness_PathClearEmptiesPorts : AtCommand listed commandAccess 2 ∧ (0x0004 : BitVec 16).getLsbD 2 = true := by
  decide +kernel

theorem witness_HoldSetsHold : AtCommand (missing .locked) commandAccess 2 ∧ (1 : BitVec 16).getLsbD 0 = true ∧
    (missing .locked).disc.hold = false ∧ (missing .locked).disc.state = .locked ∧ RateInv (missing .locked) ∧
    (0xFFFE : BitVec 16).getLsbD 0 = false := by
  decide +kernel

theorem witness_CaptureAckClearsPending :
    AtCommand { command with captures := (edged true).captures } commandAccess 2 ∧ (edged true).captures[1].pending = true := by
  decide +kernel

theorem witness_ProfileWriteStagesOneItem :
    (AtCommand (operands 0x00020003 0 65540 command) commandAccess 2 ∧ command.profiles.swap = .none ∧
      ((writeItem 0x02 3 65540 defaultProfile).map (·.adjusted)) = some true) ∧
    (writeItem 0x02 4 0 defaultProfile).isNone = true ∧
    (AtCommand (swapping .waiting) commandAccess 2 ∧ (swapping .waiting).profiles.swap ≠ .none) := by
  decide +kernel

theorem witness_ItemsAreStored :
    ((writeItem 0x06 3 1 defaultProfile).isSome = true ∧ (writeItem 0x07 0 1 defaultProfile).isNone = true ∧
      (writeItem 0x4C 3 1 defaultProfile).isSome = true ∧ (writeItem 0x4C 4 1 defaultProfile).isNone = true ∧
      (writeItem 0x24 5 1 defaultProfile).isSome = true ∧ (writeItem 0x3A 1 1 defaultProfile).isNone = true) ∧
    ((15#64).toNat < 16 ∧ 16 ≤ (16#64).toNat ∧ 4194303 < (4194304#64).toNat ∧ 1 ≤ (1#64).toNat ∧ (1#64) ≠ 0) := by
  decide +kernel

theorem witness_ProfileRequestsAct : (AtCommand command commandAccess 2 ∧ command.profiles.swap = .none ∧ NoPendingSwap command) ∧
    (AtCommand (swapping (.pending 2)) commandAccess 2 ∧ (swapping (.pending 2)).profiles.swap = .pending 2) ∧
    (AtCommand (swapping (.pending 0)) commandAccess 2 ∧ (swapping (.pending 0)).profiles.swap ≠ .none) ∧
    (AtCommand (swapping .waiting) commandAccess 2 ∧ NoPendingSwap (swapping .waiting)) := by
  decide +kernel

theorem witness_ReportCommandsAct :
    AtCommand { command with report := { command.report with flags := 0xFFFF } } commandAccess 2 ∧
    (0x00 : BitVec 8) ∉ commandCodes ∧ (0xFF : BitVec 8) ∉ commandCodes := by
  decide +kernel

theorem witness_RestartClearsMeasuring : (AtCommand listed commandAccess 2 ∧ NoPendingSwap listed) ∧
    (AtCommand (swapping (.pending 3)) commandAccess 2 ∧ (swapping (.pending 3)).profiles.swap = .pending 3 ∧ (3 : Fin 16) ≠ 2) ∧
    (AtCommand (swapping (.pending 2)) commandAccess 2 ∧ (swapping (.pending 2)).profiles.swap = .pending 2) ∧
    listed.disc.state = .freeRun ∧ (AtCommand (missing .locked) commandAccess 2 ∧ (missing .locked).disc.state ≠ .freeRun) ∧
    pulsing.bank.outputs[1].period ≠ 0 := by
  decide +kernel

/-- The access at a command word, the discipline LOCKED, and a pulse in progress on output 1 under this gating. -/
def lockedPulse (g : Gating) : State :=
  let i := { pulsing.bank.outputs[1] with gating := g }
  let s := missing .locked
  banked { defaultProfile with outputs := defaultProfile.outputs.set 1 i } { s with pulses := s.pulses.set 1 pulsing.pulses[1] }

/-- RESTART ends a pulse under VALID_ONLY and keeps one under ALWAYS (R151). -/
theorem test_restart_pulse :
    AtCommand (lockedPulse .validOnly) commandAccess 2 ∧
    (after (.restart 9 0) (lockedPulse .validOnly)).pulses[1] = { pulsing.pulses[1] with trailing := none } ∧
    (after (.restart 9 0) (lockedPulse .always)).pulses[1] = pulsing.pulses[1] := by
  decide +kernel

/-- DISCIPLINE_HOLD in LOCKED ends a pulse under LOCKED_ONLY and keeps one under VALID_ONLY (R147), and requests Status,
Discipline and Commands (R173). -/
theorem test_hold_pulse :
    let t := after (.disciplineHold 9 1) (lockedPulse .lockedOnly)
    t.pulses[1] = { pulsing.pulses[1] with trailing := none } ∧
    (after (.disciplineHold 9 1) (lockedPulse .validOnly)).pulses[1] = pulsing.pulses[1] ∧
    t.report.queue = joinAll (lockedPulse .lockedOnly).report.queue [.status, .discipline, .commands] := by
  decide +kernel

/-- The sample an ECHO of transit 0 gives on port 2 of `listed` at reading `t4`. -/
def echoSample (t4 : Raw) : Int :=
  (rawDiff t4 0 + (rawDiff t4 0 * listed.time.rho + 549755813888) / 1099511627776 - (listed.bank.ports[2].latencyIn : Int) * 256 -
    (listed.bank.ports[2].latencyOut : Int) * 256 - (0#64).toInt * 256) / 2

/-- A stray echo, and a record whose sample lies at each end of the gate and one beyond it: readings apart by twice 0, twice
the delay maximum, one and two fn beyond. -/
theorem witness_EchoGivesDelaySample : (∀ r ∈ live.delays[2].probes, r.sequence ≠ (0x104 : BitVec 16)) ∧
    ({ sequence := 0x104, t1 := 0 } : ProbeRecord) ∈ listed.delays[2].probes ∧ DelayInv listed ∧ (0 : BitVec 64) ≠ 0x7FFFFFFFFFFFFFFF ∧
    echoSample 0 = 0 ∧ echoSample 1310720000 = (listed.bank.delayMax : Int) * 65536 ∧ echoSample (-1) < 0 ∧
    (listed.bank.delayMax : Int) * 65536 < echoSample 1310720002 ∧
    1 ≤ listed.bank.windowLength := by
  decide +kernel

/-- A ring below the window length and at it; transit unknown under either policy. -/
theorem witness_EchoGivesDelaySample_ring :
    (listed.delays[2].ring.length < listed.bank.windowLength) ∧
    (let s := { listed with delays := listed.delays.set 2 { listed.delays[2] with ring := [7, 9, 8, 7], delay := 7, valid := true } };
      DelayInv s ∧ ¬ s.delays[2].ring.length < s.bank.windowLength) ∧
    listed.bank.unordered = .signal ∧ (banked { listed.bank with unordered := .quiet } listed).bank.unordered = .quiet := by
  decide +kernel

/-- A last sample and a latched source, the largest counts and an offset at the ends of its range, and one record of a ring. -/
def reporting : State :=
  { listed with
    disc :=
      { listed.disc with
        lockCount := 7, rejectCount := 3, latched := some 0x8000000000000001
        last := some { cls := .unordered, theta := -9223372036854775809, origin := .network 5 } }
    delays := listed.delays.set 2 { listed.delays[2] with ring := [65536000000], delay := 65536000000, valid := true } }

theorem witness_ReportBlocksHold : (CountInv reporting ∧ DelayInv reporting ∧ TableInv reporting ∧ RateInv reporting) ∧
    reporting.disc.last ≠ none ∧ live.disc.last = none ∧ reporting.disc.latched ≠ none := by
  repeat' apply And.intro
  all_goals decide +kernel

theorem witness_ReportBlocksHold_profiles : ProfileInv reporting := by
  constructor
  all_goals
    unfold Profile.InRange
    decide +kernel

/-- A one-step MARK's hand-off in domain 0 from port 4. -/
def handoff : NetworkHandoff :=
  { port := 4, rawIn := 1000, detail := false, detailFollows := false, sequence := 0x0210, domain := 0, transit := 0,
    originSec := 0, originNs := 0, source := 7 }

/-- The discipline listening to domain 0, with this mode and expected source, and this latched source. -/
def listening (mode : SourceMode) (expected : Ident) (latched : Option Ident) : State :=
  let s := banked
    { defaultProfile with
      domains := defaultProfile.domains.set 0 { value := 0, enable := true }
      discipline := { defaultProfile.discipline with enable := true, mode := mode, expected := expected } } live
  { s with disc := { s.disc with latched := latched } }

/-- What the source test supposes. -/
abbrev Listens (s : State) : Prop :=
  s.bank.discipline.enable = true ∧ s.bank.discipline.mode ≠ .input ∧ s.bank.domains[0].enable = true ∧
  s.bank.domains[0].value = handoff.domain

theorem witness_NetworkHandoffIsTested :
    live.bank.discipline.enable = false ∧ (listening .input 0 none).bank.discipline.mode = .input ∧
    (enabled live).bank.domains[0].enable = false ∧ (listening .network 0 none).bank.domains[0].value ≠ ({ handoff with domain := 1 }).domain ∧
    (Listens (listening .network 7 none) ∧ handoff.source = (listening .network 7 none).bank.discipline.expected ∧
      (listening .network 7 none).bank.discipline.expected ≠ 0) ∧
    (Listens (listening .networkThenInput 0 (some 7)) ∧ (listening .networkThenInput 0 (some 7)).disc.latched = some handoff.source) ∧
    (Listens (listening .network 0 none) ∧ (listening .network 0 none).disc.latched = none) ∧
    (Listens (listening .network 8 none) ∧ handoff.source ≠ (listening .network 8 none).bank.discipline.expected) ∧
    (Listens (listening .network 0 (some 8)) ∧ (8 : Ident) ≠ handoff.source) := by
  decide +kernel

/-- A record of the Seen-Mark list. -/
def seenMark (sequence : BitVec 16) (awaiting : Bool) : SeenMark :=
  { source := 7, sequence := sequence, port := 4, tw := .zero, cIn := 0, asymmetry := 0, delay := 0, awaiting := awaiting }

/-- The Seen-Mark list with these sequences, all awaiting. -/
def seeing (l : List Nat) : State :=
  let s := listening .network 7 none
  { s with disc := { s.disc with seen := l.map fun n => seenMark (BitVec.ofNat 16 n) true } }

/-- A duplicate; a new record in a list of 7 and in a full one; a DETAIL that finds its record and one that does not. -/
theorem witness_NetworkSampleIsFormed :
    handoff.detail = false ∧ (∃ r ∈ (seeing [1, 0x0210]).disc.seen, r.source = handoff.source ∧ r.sequence = handoff.sequence) ∧
    (∀ l ∈ [List.range 7, List.range 8], ∀ r ∈ (seeing l).disc.seen, ¬ (r.source = handoff.source ∧ r.sequence = handoff.sequence)) ∧
    ({ handoff with detail := true }).detail = true ∧ CountInv (seeing [1, 0x0210]) ∧
    (seenMark 0x0210 true ∈ (seeing [1, 0x0210]).disc.seen ∧ (seenMark 0x0210 true).port = handoff.port ∧
      (seenMark 0x0210 true).awaiting = true) ∧
    ∀ r ∈ (seeing []).disc.seen,
      ¬ (r.source = handoff.source ∧ r.sequence = handoff.sequence ∧ r.port = handoff.port ∧ r.awaiting = true) := by
  decide +kernel

/-- There is an offset function of the form supposed. -/
theorem witness_NetworkSampleIsFormed_offset (m : NetworkHandoff) : ∃ offset : SeenMark → Int → Int, ∀ r c, offset r c =
    (r.tw.sec - m.originSec).toInt * 65536000000000 + ((r.tw.ns.val : Int) - m.originNs.toNat) * 65536 + r.tw.frac.toNat -
      c * 256 - r.asymmetry.toInt * 256 - r.delay := ⟨_, fun _ _ => rfl⟩

theorem witness_LockedSampleUpdatesOrRejects : (missing .locked).disc.state = .locked ∧ (missing .locked).disc.hold = false ∧
    (-((missing .locked).bank.discipline.gateLimit : Int) * 65536 ≤ -6553600000 ∧
      (6553600000 : Int) ≤ ((missing .locked).bank.discipline.gateLimit : Int) * 65536) ∧
    ((-6553600001 : Int) < -((missing .locked).bank.discipline.gateLimit : Int) * 65536 ∧
      ((missing .locked).bank.discipline.gateLimit : Int) * 65536 < 6553600001) ∧
    (missing .locked).disc.rejectCount < 3 ∧ 3 ≤ ({ (missing .locked).disc with rejectCount := 3 }).rejectCount := by
  decide +kernel

/-- The discipline in this state with these counts. -/
def counting (d : DisciplineState) (lock reject : Nat) : State :=
  let s := missing d
  { s with disc := { s.disc with lockCount := lock, rejectCount := reject } }

/-- The step threshold (1,000,000 ns by default, or 0), the lock threshold (1,000 ns) and the lock count at their limits. -/
theorem witness_AcquireSampleStepsOrUpdates :
    let p := (missing .acquire).bank.discipline
    (∀ d ∈ [DisciplineState.freeRun, .acquire, .holdover], (missing d).disc.hold = false ∧ (missing d).disc.state ≠ .locked) ∧
    (p.stepThreshold ≠ 0 ∧ (p.stepThreshold : Int) * 65536 < max 65536000001 (-65536000001) ∧
      max (-65536000000) 65536000000 ≤ (p.stepThreshold : Int) * 65536) ∧
    ((p.lockThreshold : Int) * 65536 ≤ max 65536000 (-65536000) ∧ max (-65535999) 65535999 < (p.lockThreshold : Int) * 65536) ∧
    (counting .acquire 6 0).disc.lockCount < 7 ∧ 7 ≤ (counting .acquire 7 0).disc.lockCount ∧
    ({ p with stepThreshold := 0 }).stepThreshold = 0 := by
  decide +kernel

theorem witness_UnorderedAndHeldSamples :
    (∀ d ∈ [DisciplineState.freeRun, .acquire, .locked, .holdover], (missing d).disc.hold = false ∧ (missing d).disc.state = d) ∧
    ({ (missing .locked).disc with hold := true }).hold = true ∧
    ((counting .locked 0 2).disc.state = .locked ∧ (counting .locked 0 2).disc.rejectCount < 3) ∧
    ((counting .locked 0 3).disc.state = .locked ∧ 3 ≤ (counting .locked 0 3).disc.rejectCount) := by
  decide +kernel

/-- The invariants on a state with a two-step MARK and its DETAIL, and a step from it. -/
def linked : State :=
  let m := { mark with detailFollows := true, link := .entry 1 }
  let d := { mark with order := 1, key := { window := 0, index := 4 }, kind := .detail, link := .entry 0, snapshot := none }
  holding [m, d]

/-- The lane's write of word 0 of the MARK's cell, or of its DETAIL's, is next in a table of the two linked entries. -/
def rewriting (lane : BitVec 4) (cell : BitVec 22) : State := cellWord lane (128 * cell) .write linked

/-- What `CellRewriteOpensCandidate` supposes. -/
abbrev Rewrites (lane : BitVec 4) (cell : BitVec 22) : Prop :=
  AtCellWrite (rewriting lane cell) (access lane (65920 + 128 * cell) .write) 0 ∧ (0b1000 : Enables) ≠ 0 ∧
  cellOf (rewriting lane cell) (65920 + 128 * cell).toNat 0 = ({ window := 0, index := 3 + cell.toNat }, 0) ∧
  CellInv (rewriting lane cell) ∧ TableInv (rewriting lane cell)

/-- A COMPLETE two-step MARK with a link to its DETAIL, which detaches; that DETAIL, which ends; a cell with no
entry; an ingress lane, which the window tracks, and the processor's, which it does not. -/
theorem witness_CellRewriteOpensCandidate : (Rewrites 2 0 ∧ Rewrites 2 1 ∧ Rewrites 2 3 ∧ Rewrites 0 0) ∧
    (∃ e ∈ (rewriting 2 0).table.entries,
      e.live = true ∧ e.key = cell3 ∧ e.state = .complete ∧ e.kind = .mark ∧ e.detailFollows = true ∧ e.link = .entry 1) ∧
    (∃ e ∈ (rewriting 2 1).table.entries, ∃ f ∈ (rewriting 2 1).table.entries,
      e.live = true ∧ e.key = { window := 0, index := 4 } ∧ e.kind = .detail ∧ e.link = .entry f.order ∧ f.state ≠ .detached) ∧
    (∀ e ∈ (rewriting 2 3).table.entries, e.live = true → e.key ≠ { window := 0, index := 6 }) ∧
    (rewriting 2 0).decode.pool[0].ingressTracking = true ∧ (rewriting 0 0).decode.pool[0].processorTracking = false := by
  repeat' apply And.intro
  all_goals decide +kernel

/-- What the clause of `RecordsExpire` for entries supposes. -/
abbrev Expires (s : State) (e : Entry) : Prop :=
  s.resetHeld = false ∧ PortInv s ∧ TableInv s ∧ e ∈ s.table.entries ∧
  (s.tickLimits.age : Int) ≤ rawDiff s.time.raw e.rawIn ∧ (s.bank.ageLimit : Int) * 65536000000 ≤ rawDiff s.time.raw e.rawIn

/-- A MARK linked to its DETAIL, a DETAIL linked to its MARK, and one linked to its DETACHED MARK. -/
theorem witness_RecordsExpire_linked :
    let m := { twoStep with link := .entry 1 }
    let d := { mark with order := 1, key := { window := 0, index := 4 }, kind := .detail, link := .entry 0, snapshot := none }
    Expires (atRaw 1310720000000 linked) m ∧ Expires (atRaw 1310720000000 linked) d ∧ m.link = .entry d.order ∧ d.link = .entry m.order ∧
    Expires (atRaw 1310720000000 (holding [{ m with state := .detached }, d])) d := by
  repeat' apply And.intro
  all_goals decide +kernel

theorem witness_StepKeepsMemory :
    let s := { command with memory := State.reset.memory.writeWord 5 0b1111 7, pending := [.tableFlush 0 0] }
    MemoryInv s ∧ stepsOn s = true := by
  decide +kernel

theorem witness_StepKeepsPort : PortInv (ending [access 1 0 .read] [.status] 64 live) ∧ PortInv command ∧ stepsOn command = true := by
  repeat' apply And.intro
  all_goals decide +kernel

theorem witness_StepKeepsRanges :
    let s := atRaw 0xFFFFFFFFFFF80000
      { live with time := { live.time with rho := -109951162 }, disc := { live.disc with rhoI := 109951162 } }
    RateInv s ∧ RawInv s ∧ stepsOn s = true := by
  decide +kernel

theorem witness_StepKeepsCounts :
    let s := { live with disc := { live.disc with lockCount := 7, rejectCount := 3 } }
    CountInv s ∧ stepsOn s = true := by
  decide +kernel

theorem witness_StepKeepsDelays : DelayInv listed ∧ stepsOn listed = true := by decide +kernel

/-- A DETAIL in cell 3 whose word h+7 is not written yet: its candidate of lane 5, whose word h+0 now says `x`, and its entry. -/
def halfway (x : Word) : State :=
  let c := { tracked 0x80000210 with words := ((tracked 0x80000210).words.set 4 (whole x)).set 11 CapturedWord.empty }
  let e : Entry :=
    { detailOf .absent with state := .opened, copy := tab8 fun i => c.word (6 + i.val), slots := tab6 fun _ => .idle }
  let s := judging 5 c 11
  { s with table := { entries := [e], nextOrder := 1 } }

/-- After the write of h+7 the candidate is gone and the entry COMPLETE. -/
def completesBoth (x : Word) : Bool :=
  match exec (.cellWordWrite 0b1111 7) (halfway x) with
  | .next t => t.candidates[5].isNone && t.table.entries.all (·.state == .complete)
  | _ => false

/-- The write of h+7 completes entry and candidate, whatever h+0 was rewritten to after the allocation (R30, R32). -/
theorem test_completes_together : completesBoth 0x80000210 = true ∧ completesBoth 0x20000210 = true ∧
    completesBoth 0x30000210 = true := by
  decide +kernel

theorem witness_StepKeepsTable : (TableInv linked ∧ CellInv linked ∧ stepsOn linked = true) ∧
    (TableInv (halfway 0x20000210) ∧ CellInv (halfway 0x20000210) ∧ OriginInv (halfway 0x20000210) ∧
      stepsOn ((halfway 0x20000210).withPending [.cellWordWrite 0b1111 7]) = true) := by
  repeat' apply And.intro
  all_goals decide +kernel

/-- A table of a two-step MARK and its DETAIL, each naming the other, keeps the law of links. -/
theorem linkInv_pair {s : State} {m d : Entry} (h : s.table.entries = [m, d])
    (hm : m.order = 0 ∧ m.state ≠ .opened ∧ m.kind = .mark ∧ m.detailFollows = true ∧ m.link = .entry 1)
    (hd : d.order = 1 ∧ d.state = .complete ∧ d.kind = .detail ∧ d.link = .entry 0) : LinkInv s := by
  obtain ⟨m0, m1, m2, m3, m4⟩ := hm
  obtain ⟨d0, d1, d2, d3⟩ := hd
  intro e he
  rw [h] at he ⊢
  simp only [List.mem_cons, List.not_mem_nil, or_false] at he
  rcases he with rfl | rfl
  · refine ⟨fun h => absurd h m1, fun _ => ⟨m2, m3⟩, fun o ho => ⟨d, by simp, ?_, by rw [d3, m0], .inl ⟨m2, m3, d2⟩⟩⟩
    exact d0.trans (Link.entry.inj (m4.symm.trans ho))
  · refine ⟨fun h => absurd (d1.symm.trans h) (by decide), fun h => absurd (d1.symm.trans h) (by decide),
      fun o ho => ⟨m, by simp, ?_, by rw [m4, d0], .inr ⟨d2, m2, m3⟩⟩⟩
    exact m0.trans (Link.entry.inj (d3.symm.trans ho))

theorem witness_StepKeepsLinks : TableInv linked ∧ LinkInv linked ∧ stepsOn linked = true :=
  ⟨by decide +kernel, linkInv_pair rfl (by decide) (by decide), by decide +kernel⟩

/-- At the end of an access the decode still lacks the board's window 1, in which a DETAIL lies whose MARK, in this state, lies in
window 0. -/
def parting (x : EntryState) : State :=
  let m := { mark with detailFollows := true, state := x, link := .entry 1 }
  let d := { mark with order := 1, key := { window := 1, index := 4 }, kind := .detail, link := .entry 0, snapshot := none }
  let s := ending [] [] 0 (holding [m, d])
  { s with decode := { s.decode with pool := s.decode.pool.set 1 defaultProfile.pool[1] } }

/-- The MARK COMPLETE and DETACHED. -/
theorem witness_AccessEndGrantsPort_links : (Ends (parting .complete) ∧ TableInv (parting .complete) ∧ LinkInv (parting .complete)) ∧
    (Ends (parting .detached) ∧ TableInv (parting .detached) ∧ LinkInv (parting .detached)) ∧
    (parting .complete).decode.pool[1] ≠ (parting .complete).bank.pool[1] ∧
    (parting .complete).decode.pool[0] = (parting .complete).bank.pool[0] :=
  ⟨⟨by decide +kernel, by decide +kernel, linkInv_pair rfl (by decide) (by decide)⟩,
    ⟨by decide +kernel, by decide +kernel, linkInv_pair rfl (by decide) (by decide)⟩, by decide +kernel, by decide +kernel⟩

/-- The MARK's link is ended, or the MARK goes with its DETAIL (R66, R72). -/
theorem test_parting : (after .fabricAccessEnd (parting .complete)).table.entries.map (·.link) = [.ended] ∧
    (after .fabricAccessEnd (parting .detached)).table.entries = [] := by
  decide +kernel

theorem witness_StepKeepsPulses : PulseInv pulsing ∧ stepsOn pulsing = true := by
  refine ⟨?_, by decide +kernel⟩
  decide +kernel

theorem witness_StepKeepsRanges_profiles : ProfileInv board ∧ stepsOn board = true := by
  refine ⟨⟨?_, ?_⟩, by decide +kernel⟩
  all_goals
    unfold Profile.InRange
    decide +kernel

/-- The part released in bypass. -/
def bypassing : State := { live with straps := { base := 3, bypass := true } }

theorem witness_StepKeepsHeldAndBypass : (HeldInv heldPresented ∧ BypassInv heldPresented ∧ stepsOn heldPresented = true) ∧
    (HeldInv bypassing ∧ BypassInv bypassing ∧ stepsOn bypassing = true) := by
  decide +kernel

theorem witness_OnlyStepsMoveStationTime : resetRow (.activeEdge 1) = false ∧ goesOn (.activeEdge 1) live = true ∧
    resetRow .rollover = false ∧ goesOn .rollover (rolling .none) = true := by
  decide +kernel

/-- The last tick that the clause about ticks covers, at the lowest rate. -/
def farTick : State :=
  { live with time := { live.time with raw := 4611686018427387904 - 524288, rho := -109951162, secondsSeen := 70361 } }

theorem witness_OnlyStepsMoveStationTime_tick : farTick.pending = [] ∧ farTick.resetHeld = false ∧ dueEvent farTick = none ∧
    RateInv farTick ∧ ProfileInv farTick ∧ 0 ≤ rawDiff farTick.time.raw farTick.time.anchorRaw ∧
    rawDiff farTick.time.raw farTick.time.anchorRaw < 4611686018427387904 ∧ stepsOn farTick = true := by
  refine ⟨by decide +kernel, by decide +kernel, by decide +kernel, by decide +kernel, ⟨?_, ?_⟩, by decide +kernel⟩
  all_goals
    unfold Profile.InRange
    decide +kernel

theorem witness_MemoryHoldsOnlyItsWrites : MemoryInv command ∧ goesOn (.tableFlush 0 0) command = true ∧
    (MemoryInv bursting ∧ goesOn .reportBurstEnd bursting = true ∧ ((burstWords .status live).map (·.1)).Nodup) := by
  decide +kernel

theorem witness_ReadsDifferOnlyInTransit : goesOn .cellWordRead (cellWord 10 6 .read (holding [mark])) = true := by decide +kernel

theorem witness_FlagsAreSticky : resetRow (.restart 0 0) = false ∧
    goesOn (.restart 0 0) { command with report := { command.report with flags := 0xFFFF } } = true := by
  decide +kernel

theorem witness_OnlyProcessorGivesCommands :
    (Instr.reportNow 0 0).commandCode.isSome = true ∧ (Instr.shadowWrite 0b1111 0).commandCode.isSome = false ∧
    ((word 1 49168 .write live).arbiter.current = some (access 1 49168 .write) ∧ (access 1 49168 .write).lane ≠ 0) ∧
    ((word 0 49168 .write bypassing).arbiter.current = some commandAccess ∧ (word 0 49168 .write bypassing).straps.bypass = true) ∧
    (heldPresented.arbiter.current = some (access 0 0 .read) ∧ heldPresented.resetHeld = true) ∧
    ((word 0 49168 .read live).arbiter.current = some (access 0 49168 .read) ∧ (access 0 49168 .read).direction = .read) ∧
    ({ commandAccess with passed := 1, length := 2, passThrough := true }).passThrough = true ∧
    (∀ slot : Fin 16, (access 0 49169 .write).next.toNat ≠ live.commandBase + 8 * slot.val) ∧
    (∀ (slot : Fin 16) (n : Fin 7), commandAccess.next.toNat ≠ live.commandBase + 8 * slot.val + 1 + n.val) := by
  decide +kernel

theorem witness_PinsFollowState : PulseInv pulsing ∧ pulsing.pulsePin 1 = true ∧ pulsing.bank.outputs[1].polarity = .activeHigh ∧
    (pulsing.resetHeld = false ∧ pulsing.straps.bypass = false) ∧ (missing .locked).timeValidPin = true ∧
    bypassing.straps.bypass = true ∧ State.reset.resetHeld = true ∧
    (let s := banked { defaultProfile with outputs := defaultProfile.outputs.set 0 { defaultProfile.outputs[0] with polarity := .activeLow } } live;
      PulseInv s ∧ s.bank.outputs[0].polarity = .activeLow ∧ s.bank.outputs[0].gating.holds s.disc.state = false ∧ s.pulsePin 0 = true) ∧
    (let s := { live with report := { live.report with flags := 0x8001, enables := 0x8000 } };
      PulseInv s ∧ s.report.flags.getLsbD 15 = true ∧ s.report.enables.getLsbD 15 = true ∧ s.attentionPin = true) := by
  decide +kernel

theorem witness_PinsFollowState_wait :
    (let s := burstingWith [access 1 0 .read] [] 0; PortInv s ∧ s.waitPin = true ∧ s.arbiter.waiting = [access 1 0 .read]) ∧
    (PortInv bursting ∧ bursting.waitPin = false) ∧ (PortInv heldPresented ∧ heldPresented.resetHeld = true) ∧
    (PortInv bypassing ∧ bypassing.straps.bypass = true ∧ BypassInv bypassing) := by
  repeat' apply And.intro
  all_goals decide +kernel

end Sys2Proof.Tests
end

section
/-! RATE_SET (03 R50): the command as its row takes it, what it does to ρ, ρ_i and the conversion record, and its
statement. -/

namespace Sys2Proof.Machine

/-- A taken command whose owner keeps the part out of bypass answers in its slot (R165). -/
theorem takeCommand_eq_answered {s : State} {a : Access} {slot : Fin 16} (h : AtCommand s a slot) (code tag : BitVec 8)
    (imm : BitVec 16) (act : Fin 16 → State → State × CommandResult)
    (hact : (act slot (written a 0b1111 (commandWord code tag imm) s)).1.straps = s.straps) :
    takeCommand code tag imm act s =
      answered slot (act slot (written a 0b1111 (commandWord code tag imm) s)).2 tag code
        (act slot (written a 0b1111 (commandWord code tag imm) s)).1 := by
  have ⟨⟨_, _, _, hbypass, _⟩, _⟩ := h
  rw [takeCommand_eq h, finishCommand_eq (by rw [hact, hbypass])]

/-- A clamped rate, by the two ends of its range (R44). -/
theorem clampRate_eq (limit r : Int) :
    clampRate limit r = if r < -limit then -limit else if limit < r then limit else r := rfl

/-- ρ and ρ_i given one rate: the record is re-anchored, both take the clamped rate, and the rest stays (R43, R44). -/
theorem giveRhoI_giveRho (r : Int) (s : State) :
    giveRhoI r (giveRho r s) =
      { s with
        time := { s.time with anchorRaw := s.time.raw, anchorStation := s.now, rho := clampRate s.rateLimit r }
        disc := { s.disc with rhoI := clampRate s.rateLimit r } } := rfl

/-- RATE_SET is refused while the discipline is enabled (R50). -/
theorem rateSet_of_enabled {s : State} (h : s.bank.discipline.enable = true) (slot : Fin 16) :
    rateSet slot s = (s, .wrongState) :=
  if_pos h

/-- RATE_SET while the discipline is disabled gives ρ and ρ_i the shadow's rate (R50). -/
theorem rateSet_of_disabled {s : State} (h : s.bank.discipline.enable = false) (slot : Fin 16) :
    rateSet slot s =
      (giveRhoI (s.monitor.shadows[slot][0]).toInt (giveRho (s.monitor.shadows[slot][0]).toInt s),
        if clampRate s.rateLimit (s.monitor.shadows[slot][0]).toInt = (s.monitor.shadows[slot][0]).toInt then .done
        else .clamped) :=
  if_neg (by rw [h]; exact Bool.false_ne_true)

/-- RATE_SET leaves the straps as they are. -/
@[simp] theorem rateSet_straps (slot : Fin 16) (s : State) : (rateSet slot s).1.straps = s.straps := by
  cases h : s.bank.discipline.enable with
  | true => rw [rateSet_of_enabled h]
  | false => rw [rateSet_of_disabled h, giveRhoI_giveRho]

/-- A RATE_SET that is taken: its word passes, the Time Base acts, the slot is answered (R50, R165). -/
theorem exec_rateSet_of_atCommand {s : State} {a : Access} {slot : Fin 16} (h : AtCommand s a slot) (tag : BitVec 8)
    (imm : BitVec 16) :
    exec (.rateSet tag imm) s = .next
      (answered slot (rateSet slot (written a 0b1111 (commandWord 0x03 tag imm) s)).2 tag 0x03
        (rateSet slot (written a 0b1111 (commandWord 0x03 tag imm) s)).1) :=
  congrArg Host.Outcome.next (takeCommand_eq_answered h 0x03 tag imm rateSet (rateSet_straps _ _))

/-- Settles O30: the word that passes changes neither the bank, the shadow nor the Time Base, so RATE_SET acts on what the
state before the word shows. -/
theorem rateSetGivesBothRates : Obligations.RateSetGivesBothRates := by
  intro s a slot tag imm r hat hr
  subst hr
  rw [exec_rateSet_of_atCommand hat]
  refine ⟨fun henabled => ?_, fun hdisabled => ⟨_, (clampRate_eq _ _).symm, ?_⟩⟩
  · have hw : (written a 0b1111 (commandWord 0x03 tag imm) s).bank.discipline.enable = true := henabled
    rw [rateSet_of_enabled hw]
  · have hw : (written a 0b1111 (commandWord 0x03 tag imm) s).bank.discipline.enable = false := hdisabled
    rw [rateSet_of_disabled hw, giveRhoI_giveRho]
    rfl

end Sys2Proof.Machine
end


section
/-! TABLE_FLUSH (04 R71) and DISCIPLINE_RELATCH (07 R117): what each does to its unit, and their statement. -/

namespace Sys2Proof.Machine

/-- The emptied table: the entries in every state go, the order of the next one stays (R71). -/
theorem emptyTable_eq (s : State) : emptyTable s = { s with table := { s.table with entries := [] } } := rfl

/-- The Discipline Unit after DISCIPLINE_RELATCH, and the rest of the state as it was (R117). -/
theorem relatch_eq (s : State) :
    relatch s =
      { s with
        disc :=
          { s.disc with seen := [], latched := if s.bank.discipline.expected = 0 then none else s.disc.latched } } := rfl

/-- A TABLE_FLUSH that is taken: its word passes, the table is emptied, the slot is answered DONE (R71, R165). -/
theorem exec_tableFlush_of_atCommand {s : State} {a : Access} {slot : Fin 16} (h : AtCommand s a slot) (tag : BitVec 8)
    (imm : BitVec 16) :
    exec (.tableFlush tag imm) s = .next
      (answered slot .done tag 0x10 (emptyTable (written a 0b1111 (commandWord 0x10 tag imm) s))) :=
  congrArg Host.Outcome.next
    (takeCommand_eq_answered h 0x10 tag imm (fun _ s => (emptyTable s, .done)) (by rw [emptyTable_eq]; rfl))

/-- A DISCIPLINE_RELATCH that is taken: its word passes, the Discipline Unit acts, the slot is answered DONE
(R117, R165). -/
theorem exec_disciplineRelatch_of_atCommand {s : State} {a : Access} {slot : Fin 16} (h : AtCommand s a slot)
    (tag : BitVec 8) (imm : BitVec 16) :
    exec (.disciplineRelatch tag imm) s = .next
      (answered slot .done tag 0x30 (relatch (written a 0b1111 (commandWord 0x30 tag imm) s))) :=
  congrArg Host.Outcome.next
    (takeCommand_eq_answered h 0x30 tag imm (fun _ s => (relatch s, .done)) (by rw [relatch_eq]; rfl))

/-- Settles O31: the word that passes changes neither the table, the Discipline Unit nor the bank, so each command acts on
what the state before the word shows. -/
theorem flushAndRelatchEmptyLists : Obligations.FlushAndRelatchEmptyLists := by
  intro s a slot tag imm hat
  constructor
  · rw [exec_tableFlush_of_atCommand hat, emptyTable_eq]
    rfl
  · rw [exec_disciplineRelatch_of_atCommand hat, relatch_eq]
    rfl

end Sys2Proof.Machine
end

section
/-! The Delay Unit's operations (06 R93 to R112): what each does to a port's lists, ring and D(p), and to the report
queue. -/

namespace Sys2Proof.Machine

/-! ## The bank -/

/-- The bank in force follows from the Profile Store alone (R152). -/
theorem bank_eq_of_profiles {s t : State} (h : t.profiles = s.profiles) : t.bank = s.bank := by
  unfold State.bank
  rw [h]

/-- A write into the staged bank leaves the bank in force (R156, R157). -/
@[simp] theorem setStaged_bank (p : Profile) (s : State) : (setStaged p s).bank = s.bank := by
  cases h : s.profiles.active <;> simp [State.bank, setStaged, ProfileStore.withStaged, h]

/-! ## Replacing and settling a port -/

/-- The list of the ports leaves none out. -/
theorem mem_allPorts (p : Port) : p ∈ allPorts := by
  revert p
  decide

/-- Every port after one is replaced. -/
theorem setDelay_delays_get (p q : Port) (d : PortDelay) (s : State) :
    (setDelay p d s).delays[q] = if p = q then d else s.delays[q] := by
  simp [setDelay, Vector.getElem_set, Fin.ext_iff]

/-- Every port after one is settled: its D(p) and delay valid follow its ring (R105). -/
theorem settleDelay_delays_get (p q : Port) (d : PortDelay) (s : State) :
    (settleDelay p d s).delays[q] = if p = q then d.settle s.bank.defaultDelay else s.delays[q] := by
  have h : (settleDelay p d s).delays = (setDelay p (d.settle s.bank.defaultDelay) s).delays := by
    simp only [settleDelay, apply_ite State.delays, request_delays, ite_self]
  rw [h, setDelay_delays_get]

/-- The state of a port with nothing listed: D(p) is the default delay, given in ns, and delay valid is clear (R105,
R111). -/
def emptiedPort (defaultNs : Nat) : PortDelay :=
  { probes := [], responders := [], ring := [], delay := defaultNs * 65536, valid := false }

/-- A cleared port, settled, is the emptied one (R107). -/
@[simp] theorem settle_cleared (d : PortDelay) (ns : Nat) : d.cleared.settle ns = emptiedPort ns := rfl

/-- Every port after one is cleared (R107). -/
theorem clearPort_delays_get (p q : Port) (s : State) :
    (clearPort p s).delays[q] = if p = q then emptiedPort s.bank.defaultDelay else s.delays[q] := by
  rw [clearPort, settleDelay_delays_get, settle_cleared]

/-- Every port after several are cleared (R107). -/
theorem clearPorts_delays_get (ps : List Port) (q : Port) :
    ∀ s : State, (clearPorts ps s).delays[q] = if q ∈ ps then emptiedPort s.bank.defaultDelay else s.delays[q] := by
  induction ps with
  | nil => exact fun s => rfl
  | cons p ps ih =>
    intro s
    have hbank : (clearPort p s).bank = s.bank := bank_eq_of_profiles (clearPort_profiles p s)
    have hstep : clearPorts (p :: ps) s = clearPorts ps (clearPort p s) := rfl
    rw [hstep, ih, clearPort_delays_get, hbank]
    by_cases hp : p = q
    · simp [hp]
    · simp [hp, Ne.symm hp]

/-! ## The report queue -/

/-- What is queued after a kind joins (R171). -/
theorem mem_joinQueue {q : List BlockKind} {j k : BlockKind} : k ∈ joinQueue q j ↔ k ∈ q ∨ k = j := by
  unfold joinQueue
  split
  next h =>
    have hj : j ∈ q := by simpa using h
    exact ⟨.inl, fun hk => hk.elim id fun e => e ▸ hj⟩
  next => simp

/-- The kinds that were queued keep their places (R171). -/
theorem joinQueue_extends (q : List BlockKind) (j : BlockKind) : q <+: joinQueue q j := by
  unfold joinQueue
  split
  · exact ⟨[], List.append_nil _⟩
  · exact ⟨[j], rfl⟩

/-- What a port shows of the two differs: D(p) or delay valid (R106). -/
abbrev PortDelay.ShowsOther (d e : PortDelay) : Prop := d.delay ≠ e.delay ∨ d.valid ≠ e.valid

/-- Showing other values goes both ways. -/
theorem PortDelay.showsOther_comm {d e : PortDelay} : d.ShowsOther e ↔ e.ShowsOther d :=
  or_congr ne_comm ne_comm

/-- All that clearing a port does in a part that is not in bypass (R106, R107). -/
theorem clearPort_eq {s : State} (h : s.straps.bypass = false) (p : Port) :
    clearPort p s =
      { s with
        delays := s.delays.set p (emptiedPort s.bank.defaultDelay)
        report :=
          { s.report with
            queue :=
              if s.delays[p].ShowsOther (emptiedPort s.bank.defaultDelay) then joinQueue s.report.queue (.port p)
              else s.report.queue } } := by
  have hset : (setDelay p (emptiedPort s.bank.defaultDelay) s).straps.bypass = false := h
  have hclear : clearPort p s =
      if s.delays[p].ShowsOther (emptiedPort s.bank.defaultDelay) then
        request [.port p] (setDelay p (emptiedPort s.bank.defaultDelay) s)
      else setDelay p (emptiedPort s.bank.defaultDelay) s := rfl
  by_cases hother : s.delays[p].ShowsOther (emptiedPort s.bank.defaultDelay)
  · rw [hclear, if_pos hother, if_pos hother, request_eq hset]
    rfl
  · rw [hclear, if_neg hother, if_neg hother]
    rfl

/-- Clearing ports touches the Delay Unit and the report queue alone (R107). -/
theorem clearPorts_frame (ps : List Port) :
    ∀ {s : State}, s.straps.bypass = false →
      ∃ ds q, clearPorts ps s = { s with delays := ds, report := { s.report with queue := q } } := by
  induction ps with
  | nil => exact fun _ => ⟨_, _, rfl⟩
  | cons p ps ih =>
    intro s h
    have hone := clearPort_eq h p
    obtain ⟨ds, q, hrest⟩ := ih (s := clearPort p s) (by rw [hone]; exact h)
    exact ⟨ds, q, hrest.trans (by rw [hone])⟩

/-- The kinds that were queued keep their places when ports are cleared (R107, R171). -/
theorem clearPorts_queue_extends (ps : List Port) :
    ∀ {s : State}, s.straps.bypass = false → s.report.queue <+: (clearPorts ps s).report.queue := by
  induction ps with
  | nil => exact fun _ => ⟨[], List.append_nil _⟩
  | cons p ps ih =>
    intro s h
    have hone := clearPort_eq h p
    have hrest := ih (s := clearPort p s) (by rw [hone]; exact h)
    have hfirst : s.report.queue <+: (clearPort p s).report.queue := by
      rw [hone]
      dsimp only
      split
      · exact joinQueue_extends _ _
      · exact ⟨[], List.append_nil _⟩
    exact hfirst.trans hrest

/-- Clearing a port requests its block when what it shows changes, and no other (R106). -/
theorem mem_clearPort_queue {s : State} (h : s.straps.bypass = false) (p : Port) (k : BlockKind) :
    k ∈ (clearPort p s).report.queue ↔
      k ∈ s.report.queue ∨ k = .port p ∧ s.delays[p].ShowsOther (emptiedPort s.bank.defaultDelay) := by
  rw [clearPort_eq h]
  dsimp only
  split
  next hother => simp only [mem_joinQueue, hother, and_true]
  next hsame => simp only [hsame, and_false, or_false]

/-- Clearing ports requests the block of each one of which what it shows changes, and no other: a port cleared already
shows no change (R106, R107). -/
theorem mem_clearPorts_queue (ps : List Port) (k : BlockKind) :
    ∀ {s : State}, s.straps.bypass = false →
      (k ∈ (clearPorts ps s).report.queue ↔
        k ∈ s.report.queue ∨
          ∃ p ∈ ps, k = .port p ∧ s.delays[p].ShowsOther (emptiedPort s.bank.defaultDelay)) := by
  induction ps with
  | nil => exact fun _ => by simp [clearPorts]
  | cons p ps ih =>
    intro s h
    have hbypass : (clearPort p s).straps.bypass = false := by rw [clearPort_eq h]; exact h
    have hbank : (clearPort p s).bank = s.bank := bank_eq_of_profiles (clearPort_profiles p s)
    have hother (q : Port) : (clearPort p s).delays[q].ShowsOther (emptiedPort s.bank.defaultDelay) ↔
        p ≠ q ∧ s.delays[q].ShowsOther (emptiedPort s.bank.defaultDelay) := by
      rw [clearPort_delays_get]
      by_cases hp : p = q
      · simp [hp]
      · simp only [hp, if_false, ne_eq, not_false_eq_true, true_and]
    have hstep : clearPorts (p :: ps) s = clearPorts ps (clearPort p s) := rfl
    rw [hstep, ih hbypass, mem_clearPort_queue h, hbank]
    simp only [hother, List.mem_cons, exists_eq_or_imp]
    constructor
    · rintro ((hk | hk) | ⟨q, hq, hkq, -, hs⟩)
      · exact .inl hk
      · exact .inr (.inl hk)
      · exact .inr (.inr ⟨q, hq, hkq, hs⟩)
    · rintro (hk | hk | ⟨q, hq, hkq, hs⟩)
      · exact .inl (.inl hk)
      · exact .inl (.inr hk)
      · by_cases hp : p = q
        · exact .inl (.inr ⟨hp ▸ hkq, hp ▸ hs⟩)
        · exact .inr ⟨q, hq, hkq, hp, hs⟩

end Sys2Proof.Machine
end

section
/-! PATH_CLEAR (06 R107): the command as its row takes it, and its statement. -/

namespace Sys2Proof.Machine

/-- The ports of a mask (R107). -/
theorem mem_maskPorts {mask : BitVec 16} {p : Port} : p ∈ maskPorts mask ↔ mask.getLsbD p.val = true := by
  simp [maskPorts, mem_allPorts]

/-- A PATH_CLEAR that is taken: its word passes, the masked ports are cleared, the slot is answered DONE (R107, R165). -/
theorem exec_pathClear_of_atCommand {s : State} {a : Access} {slot : Fin 16} (h : AtCommand s a slot) (tag : BitVec 8)
    (imm : BitVec 16) :
    exec (.pathClear tag imm) s = .next
      (answered slot .done tag 0x20 (clearPorts (maskPorts imm) (written a 0b1111 (commandWord 0x20 tag imm) s))) := by
  have ⟨⟨_, _, _, hbypass, _⟩, _⟩ := h
  obtain ⟨ds, q, hframe⟩ :=
    clearPorts_frame (maskPorts imm) (s := written a 0b1111 (commandWord 0x20 tag imm) s) hbypass
  exact congrArg Host.Outcome.next
    (takeCommand_eq_answered h 0x20 tag imm (fun _ s => (clearPorts (maskPorts imm) s, .done))
      (by dsimp only; rw [hframe]; rfl))

/-- Settles O32: the word that passes changes neither the ports' delays, the bank nor the report queue, so the masked ports
are cleared from what the state before the word shows, and the Commands request of the answer comes last. -/
theorem pathClearEmptiesPorts : Obligations.PathClearEmptiesPorts := by
  intro s a slot tag imm hat
  have ⟨⟨_, _, _, hbypass, _⟩, _⟩ := hat
  let w := written a 0b1111 (commandWord 0x20 tag imm) s
  have hw : w.straps.bypass = false := hbypass
  have hget (p : Port) : (clearPorts (maskPorts imm) w).delays[p] =
      if imm.getLsbD p.val then emptiedPort s.bank.defaultDelay else s.delays[p] :=
    (clearPorts_delays_get (maskPorts imm) p w).trans (by simp only [mem_maskPorts]; rfl)
  refine ⟨_, exec_pathClear_of_atCommand hat tag imm, ?_, hget, ?_, fun k => ?_⟩
  · obtain ⟨ds, q, hframe⟩ := clearPorts_frame (maskPorts imm) hw
    rw [hframe]
    rfl
  · exact (clearPorts_queue_extends (maskPorts imm) hw).trans (joinQueue_extends _ _)
  · have hchanged (p : Port) :
        (clearPorts (maskPorts imm) w).delays[p].ShowsOther s.delays[p] ↔
          p ∈ maskPorts imm ∧ s.delays[p].ShowsOther (emptiedPort s.bank.defaultDelay) := by
      rw [hget, mem_maskPorts]
      cases imm.getLsbD p.val
      · simp
      · simpa using PortDelay.showsOther_comm
    calc k ∈ joinQueue (clearPorts (maskPorts imm) w).report.queue .commands
        ↔ k ∈ (clearPorts (maskPorts imm) w).report.queue ∨ k = .commands := mem_joinQueue
      _ ↔ (k ∈ s.report.queue ∨
            ∃ p ∈ maskPorts imm, k = .port p ∧ s.delays[p].ShowsOther (emptiedPort s.bank.defaultDelay)) ∨
            k = .commands := or_congr_left (mem_clearPorts_queue (maskPorts imm) k hw)
      _ ↔ k ∈ s.report.queue ∨ k = .commands ∨
            ∃ p : Port, k = .port p ∧ (clearPorts (maskPorts imm) w).delays[p].ShowsOther s.delays[p] := by
          simp only [hchanged, and_left_comm]
          exact or_right_comm.trans or_assoc

end Sys2Proof.Machine
end

section
/-! The laws of the Delay Unit (06 R93, R96, R97, R104, R105), operation by operation: a list of at most 4 distinct records
stays one, a settled port keeps D(p) and delay valid with its ring, and a swap settles every port under the new bank. -/

namespace Sys2Proof.Machine

/-! ## Lists of distinct records -/

/-- A list that holds at most 4 records, any two of them in relation `R`, the older first (R97). -/
structure SmallDistinct {α : Type} (R : α → α → Prop) (l : List α) : Prop where
  short : l.length ≤ listCapacity
  distinct : l.Pairwise R

/-- A list after a record joins: the one it replaces leaves, and otherwise a full list loses its head (R93, R96). -/
def joinRecord {α : Type} (same : α → Bool) (l : List α) (r : α) : List α :=
  if l.any same then l.filter (fun x => !same x) ++ [r]
  else if l.length < listCapacity then l ++ [r]
  else l.drop 1 ++ [r]

section
variable {α : Type} {R : α → α → Prop} {l k : List α} {same : α → Bool} {r : α}

/-- Records that leave the list leave it small and distinct. -/
theorem SmallDistinct.sublist (h : SmallDistinct R l) (hk : k.Sublist l) : SmallDistinct R k :=
  ⟨hk.length_le.trans h.short, h.distinct.sublist hk⟩

/-- A record unlike those of a list with room may join its tail. -/
theorem SmallDistinct.append (h : SmallDistinct R l) (hroom : l.length < listCapacity) (hr : ∀ x ∈ l, R x r) :
    SmallDistinct R (l ++ [r]) :=
  ⟨by simpa using hroom, List.pairwise_append.2 ⟨h.distinct, List.pairwise_singleton R r, by simpa using hr⟩⟩

/-- The records that stay when `r` joins are unlike `r` and leave it room. -/
theorem SmallDistinct.joinRecord (h : SmallDistinct R l) (hR : ∀ x, same x = false → R x r) :
    SmallDistinct R (joinRecord same l r) := by
  unfold Machine.joinRecord
  split
  next hany =>
    have hfewer : (l.filter fun x => !same x).length < l.length :=
      List.length_filter_lt_length_iff_exists.2 (by simpa using hany)
    have hother : ∀ x ∈ l.filter fun x => !same x, R x r := fun x hx => hR x (by simpa using (List.mem_filter.1 hx).2)
    exact (h.sublist List.filter_sublist).append (hfewer.trans_le h.short) hother
  next hnone =>
    have hother : ∀ x ∈ l, R x r := fun x hx => hR x (by simpa using fun hs => hnone (List.any_eq_true.2 ⟨x, hx, hs⟩))
    split
    next hroom => exact h.append hroom hother
    next hfull =>
      have hroom : (l.drop 1).length < listCapacity := by
        have hle := h.short
        simp only [listCapacity, List.length_drop] at *
        omega
      exact (h.sublist (List.drop_sublist 1 l)).append hroom fun x hx => hother x (List.mem_of_mem_drop hx)

end

/-! ## The laws of one port -/

/-- The laws of a port's lists alone, which no bank has a part in (R93, R96, R97). -/
structure PortDelay.ListLaws (d : PortDelay) : Prop where
  probes : SmallDistinct (fun x y : ProbeRecord => x.sequence ≠ y.sequence) d.probes
  responders : SmallDistinct (fun x y : ResponderRecord => ¬ (x.sequence = y.sequence ∧ x.source = y.source)) d.responders

/-- A probe record replaces that of its sequence (R93). -/
theorem addProbe_eq_joinRecord (l : List ProbeRecord) (r : ProbeRecord) :
    addProbe l r = joinRecord (·.sequence == r.sequence) l r := rfl

/-- A responder record replaces that of its sequence and source (R96). -/
theorem addResponder_eq_joinRecord (l : List ResponderRecord) (r : ResponderRecord) :
    addResponder l r = joinRecord (·.matches r.sequence r.source) l r := rfl

/-- A Probe List keeps its laws when a record joins (R93, R97). -/
theorem PortDelay.ListLaws.addProbe {d : PortDelay} (h : d.ListLaws) (r : ProbeRecord) :
    PortDelay.ListLaws { d with probes := addProbe d.probes r } where
  probes := by
    rw [addProbe_eq_joinRecord]
    exact h.probes.joinRecord fun x hx => by simpa using hx
  responders := h.responders

/-- A Responder List keeps its laws when a record joins (R96, R97). -/
theorem PortDelay.ListLaws.addResponder {d : PortDelay} (h : d.ListLaws) (r : ResponderRecord) :
    PortDelay.ListLaws { d with responders := addResponder d.responders r } where
  probes := h.probes
  responders := by
    rw [addResponder_eq_joinRecord]
    exact h.responders.joinRecord fun x hx => by simpa [ResponderRecord.matches] using hx

/-- The laws of a port say of its lists what their own laws say (R97). -/
theorem PortDelay.Inv.listLaws {d : PortDelay} {p : Profile} (h : d.Inv p) : d.ListLaws :=
  have ⟨hprobes, hsequences, hresponders, hpairs, _⟩ := h
  ⟨⟨hprobes, hsequences⟩, ⟨hresponders, hpairs⟩⟩

/-- The laws of the lists have no part in the ring. -/
theorem PortDelay.ListLaws.withRing {d : PortDelay} (h : d.ListLaws) (ring : List Nat) :
    PortDelay.ListLaws { d with ring := ring } :=
  ⟨h.probes, h.responders⟩

/-- Lists that keep their laws and a ring that fits make a port that keeps its laws, once settled (R105). -/
theorem PortDelay.inv_settle {d : PortDelay} {p : Profile} (h : d.ListLaws) (hring : d.ring.length ≤ p.windowLength) :
    (d.settle p.defaultDelay).Inv p :=
  ⟨h.probes.short, h.probes.distinct, h.responders.short, h.responders.distinct, hring, rfl, rfl⟩

/-- Lists changed under their laws leave the ring and what follows it (R105). -/
theorem PortDelay.Inv.withLists {d : PortDelay} {p : Profile} (h : d.Inv p) {ps : List ProbeRecord}
    {rs : List ResponderRecord} (hl : PortDelay.ListLaws { d with probes := ps, responders := rs }) :
    PortDelay.Inv { d with probes := ps, responders := rs } p :=
  have ⟨_, _, _, _, hring⟩ := h
  ⟨hl.probes.short, hl.probes.distinct, hl.responders.short, hl.responders.distinct, hring⟩

/-- A port with nothing listed keeps its laws (R105, R111). -/
theorem emptiedPort_inv (p : Profile) : (emptiedPort p.defaultDelay).Inv p := by
  simp [PortDelay.Inv, emptiedPort, ringDelay]

/-- A ring that a sample joined holds the window length at most (R104). -/
theorem joinRing_length_le (ring : List Nat) (x window : Nat) : (joinRing ring x window).length ≤ window := by
  simp only [joinRing, List.length_drop]
  omega

/-! ## Every port -/

/-- The laws of the ports speak of the Delay Unit and the bank in force alone. -/
theorem delayInv_of_bank {s t : State} (hd : t.delays = s.delays) (hb : t.bank = s.bank) (h : DelayInv s) :
    DelayInv t := by
  intro p
  rw [hd, hb]
  exact h p

/-- What leaves the Delay Unit and the Profile Store keeps the laws of the ports. -/
theorem delayInv_of_eq {s t : State} (hd : t.delays = s.delays) (hp : t.profiles = s.profiles) (h : DelayInv s) :
    DelayInv t :=
  delayInv_of_bank hd (bank_eq_of_profiles hp) h

/-- A request changes no port (R171). -/
theorem delayInv_request (ks : List BlockKind) {s : State} (h : DelayInv s) : DelayInv (request ks s) :=
  delayInv_of_eq (request_delays ks s) (request_profiles ks s) h

/-- A port replaced by one that keeps its laws. -/
theorem delayInv_setDelay {s : State} {p : Port} {d : PortDelay} (h : DelayInv s) (hd : d.Inv s.bank) :
    DelayInv (setDelay p d s) := by
  intro q
  rw [bank_eq_of_profiles (setDelay_profiles p d s), setDelay_delays_get]
  split
  · exact hd
  · exact h q

/-- A port settled from lists that keep their laws and a ring that fits (R105). -/
theorem delayInv_settleDelay {s : State} {p : Port} {d : PortDelay} (h : DelayInv s) (hl : d.ListLaws)
    (hring : d.ring.length ≤ s.bank.windowLength) : DelayInv (settleDelay p d s) := by
  intro q
  rw [bank_eq_of_profiles (settleDelay_profiles p d s), settleDelay_delays_get]
  split
  · exact PortDelay.inv_settle hl hring
  · exact h q

/-! ## Hand-offs and expiries -/

/-- A transmit hand-off (R92 to R94). -/
theorem delayInv_transmitHandoff (q : Port) (seq : BitVec 16) (t1 : Raw) {s : State} (h : DelayInv s) :
    DelayInv (transmitHandoff q seq t1 s) := by
  unfold transmitHandoff
  split
  next => exact h
  next =>
    exact delayInv_of_eq (raiseIf_delays _ _ _) (raiseIf_profiles _ _ _)
      (delayInv_setDelay h ((h q).withLists ((h q).listLaws.addProbe { sequence := seq, t1 := t1 })))

/-- A responder hand-off (R96). -/
theorem delayInv_responderHandoff (p : Port) (r : ResponderRecord) {s : State} (h : DelayInv s) :
    DelayInv (responderHandoff p r s) :=
  delayInv_setDelay h ((h p).withLists ((h p).listLaws.addResponder r))

/-- A responder record that leaves (R98, R99). -/
theorem delayInv_removeResponder (q : Port) (seq : BitVec 16) (src : Ident) {s : State} (h : DelayInv s) :
    DelayInv (removeResponder q seq src s) :=
  delayInv_setDelay h ((h q).withLists ⟨(h q).listLaws.probes, (h q).listLaws.responders.sublist List.filter_sublist⟩)

/-- A probe record that leaves (R95, R100). -/
theorem delayInv_removeProbe (p : Port) (seq : BitVec 16) {s : State} (h : DelayInv s) : DelayInv (removeProbe p seq s) :=
  delayInv_setDelay h ((h p).withLists ⟨(h p).listLaws.probes.sublist List.filter_sublist, (h p).listLaws.responders⟩)

/-- A rejected sample changes no port (R103). -/
theorem delayInv_rejectDelay (p : Port) (c : DelayClass) {s : State} (h : DelayInv s) : DelayInv (rejectDelay p c s) :=
  delayInv_of_eq (rejectDelay_delays p c s) (rejectDelay_profiles p c s) h

/-- An accepted sample joins the ring, which keeps to the window length (R104). -/
theorem delayInv_acceptDelay (p : Port) (x : Nat) {s : State} (h : DelayInv s) : DelayInv (acceptDelay p x s) :=
  delayInv_settleDelay (delayInv_of_eq (countPort_delays p .delayAccepted s) (countPort_profiles p .delayAccepted s) h)
    ((h p).listLaws.withRing _) (joinRing_length_le _ _ _)

/-- A delay sample, of whatever class (R101 to R104). -/
theorem delayInv_takeDelaySample (p : Port) (t1 t4 : Raw) (c : BitVec 64) {s : State} (h : DelayInv s) :
    DelayInv (takeDelaySample p t1 t4 c s) := by
  unfold takeDelaySample
  split
  next => exact delayInv_rejectDelay p .unordered h
  next =>
    dsimp only
    split
    next => exact delayInv_acceptDelay p _ h
    next => exact delayInv_rejectDelay p _ h

/-- An echo hand-off, matched or stray (R100). -/
theorem delayInv_echoHandoff (p : Port) (seq : BitVec 16) (c : BitVec 64) (t4 : Raw) {s : State} (h : DelayInv s) :
    DelayInv (echoHandoff p seq c t4 s) := by
  unfold echoHandoff
  split
  next => exact delayInv_of_eq (raise_delays _ _) (raise_profiles _ _) h
  next => exact delayInv_takeDelaySample p _ t4 c (delayInv_removeProbe p seq h)

/-- Cleared ports (R107, R112). -/
theorem delayInv_clearPorts (ps : List Port) {s : State} (h : DelayInv s) : DelayInv (clearPorts ps s) := by
  intro q
  rw [bank_eq_of_profiles (clearPorts_profiles ps s), clearPorts_delays_get]
  split
  · exact emptiedPort_inv s.bank
  · exact h q

/-! ## The swap -/

/-- One port at a swap keeps its laws under the new bank, whatever its ring and D(p) were under the old one (R108, R109). -/
theorem swapDelay_inv {s : State} (p : Port) (old : Profile) (h : s.delays[p].ListLaws) :
    (swapDelay old s p).delays[p].Inv s.bank := by
  unfold swapDelay
  split
  next =>
    rw [clearPort_delays_get, if_pos rfl]
    exact emptiedPort_inv s.bank
  next =>
    rw [settleDelay_delays_get, if_pos rfl]
    refine PortDelay.inv_settle (h.withRing _) ?_
    simp only [List.length_drop]
    omega

/-- A port at a swap leaves the other ports as they are. -/
theorem swapDelay_delays_ne {s : State} {p q : Port} (old : Profile) (h : p ≠ q) :
    (swapDelay old s p).delays[q] = s.delays[q] := by
  unfold swapDelay
  split
  · rw [clearPort_delays_get, if_neg h]
  · rw [settleDelay_delays_get, if_neg h]

/-- Ports taken one after the other at a swap: those still to come need the laws of their lists alone, for the swap settles
each of them (R108, R109). -/
theorem delayInv_foldl_swapDelay (old : Profile) (ps : List Port) :
    ∀ {s : State}, (∀ q : Port, s.delays[q].ListLaws) → (∀ q : Port, q ∉ ps → s.delays[q].Inv s.bank) →
      DelayInv (ps.foldl (swapDelay old) s) := by
  induction ps with
  | nil => exact fun _ hdone q => hdone q List.not_mem_nil
  | cons p ps ih =>
    intro s hlists hdone
    have hbank : (swapDelay old s p).bank = s.bank := bank_eq_of_profiles (swapDelay_profiles old s p)
    have htaken := swapDelay_inv p old (hlists p)
    refine ih (s := swapDelay old s p) (fun q => ?_) fun q hq => ?_
    · by_cases hp : p = q
      · exact hp ▸ htaken.listLaws
      · rw [swapDelay_delays_ne old hp]
        exact hlists q
    · rw [hbank]
      by_cases hp : p = q
      · exact hp ▸ htaken
      · rw [swapDelay_delays_ne old hp]
        exact hdone q (by simp [Ne.symm hp, hq])

/-- The Delay Unit at a swap settles every port under the bank now in force (R108, R109). -/
theorem delayInv_swapDelays (old : Profile) {s : State} (h : ∀ q : Port, s.delays[q].ListLaws) :
    DelayInv (swapDelays old s) :=
  delayInv_foldl_swapDelay old allPorts h fun q hq => absurd (mem_allPorts q) hq

/-- A swap (R162): after the banks are exchanged only the lists keep their laws, and the Delay Unit's part restores the
rest. -/
theorem delayInv_performSwap {s : State} (h : DelayInv s) : DelayInv (performSwap s) := by
  have hlists : ∀ q : Port, (decodeChange (exchangeBanks s)).delays[q].ListLaws := by
    simpa only [decodeChange_delays, exchangeBanks_delays] using fun q => (h q).listLaws
  exact delayInv_of_eq (by simp only [performSwap, swapDiscipline_delays, swapPulses_delays, clampRates_delays])
    (by simp only [performSwap, swapDiscipline_profiles, swapPulses_profiles, clampRates_profiles])
    (delayInv_swapDelays s.bank hlists)

/-- A pending swap at a rollover, or none (R159). -/
theorem delayInv_swapAtRollover {s : State} (h : DelayInv s) : DelayInv (swapAtRollover s) := by
  unfold swapAtRollover
  split
  next => exact delayInv_of_eq (rewriteSwapStatus_delays _ _ _) (rewriteSwapStatus_profiles _ _ _) (delayInv_performSwap h)
  next => exact h

/-- A swap that waits for the end of its access (R158). -/
theorem delayInv_swapAtEnd {s : State} (h : DelayInv s) : DelayInv (swapAtEnd s) := by
  unfold swapAtEnd
  split
  next => exact delayInv_performSwap h
  next => exact h

/-- A swap that is requested or cancelled changes no bank (R152). -/
theorem delayInv_withSwap {s : State} (r : SwapRequest) (h : DelayInv s) :
    DelayInv (request [.status] (s.withProfiles { s.profiles with swap := r })) :=
  delayInv_request [.status] (s := s.withProfiles { s.profiles with swap := r }) h

/-- A pending swap cancelled (R161, R163). -/
theorem delayInv_cancelSwap {s : State} (h : DelayInv s) : DelayInv (cancelSwap s) := by
  unfold cancelSwap
  split
  next =>
    exact delayInv_of_eq (rewriteSwapStatus_delays _ _ _) (rewriteSwapStatus_profiles _ _ _) (delayInv_withSwap .none h)
  next => exact h

end Sys2Proof.Machine
end

section
/-! The laws of the Delay Unit through the owners that reach it: a step of station time, a sample, a frame's decisions, an
egress read, and every row of the table. -/

namespace Sys2Proof.Machine

/-! ## Rollover, step and samples -/

/-- A rollover, with the pending swap it may bring (R45, R159). -/
theorem delayInv_giveRollover {s : State} (h : DelayInv s) : DelayInv (giveRollover s) :=
  delayInv_swapAtRollover (delayInv_request rolloverBlocks (s := s.withTime _) h)

/-- A step of station time, with the rollover it may bring (R46). -/
theorem delayInv_stepTime (a : Int) {s : State} (h : DelayInv s) : DelayInv (stepTime a s) := by
  have hmoved : DelayInv (shiftWaiting a (raise .stepped (s.withTime (s.time.step a)))) :=
    delayInv_of_eq (by simp only [shiftWaiting_delays, raise_delays, State.withTime_delays])
      (by simp only [shiftWaiting_profiles, raise_profiles, State.withTime_profiles]) h
  unfold stepTime
  refine delayInv_of_eq (stepPulses_delays _) (stepPulses_profiles _) ?_
  split
  · exact delayInv_giveRollover hmoved
  · exact hmoved

/-- A sample in ACQUIRE, which may step station time (R123). -/
theorem delayInv_answerAcquire (theta : Int) (o : SampleOrigin) {s : State} (h : DelayInv s) :
    DelayInv (answerAcquire theta o s) := by
  unfold answerAcquire
  split
  · exact delayInv_stepTime _ (delayInv_of_eq (by simp only [count_delays, recordSample_delays, State.withDisc_delays])
      (by simp only [count_profiles, recordSample_profiles, State.withDisc_profiles]) h)
  · exact delayInv_of_eq (by simp only [setLockCount_delays, count_delays, recordSample_delays, piUpdate_delays])
      (by simp only [setLockCount_profiles, count_profiles, recordSample_profiles, piUpdate_profiles]) h

/-- A sample with a value, in every state (R122 to R125). -/
theorem delayInv_answerValue (theta : Int) (o : SampleOrigin) {s : State} (h : DelayInv s) :
    DelayInv (answerValue theta o s) := by
  have hentered : DelayInv (enterAcquire s) := delayInv_of_eq (enterAcquire_delays s) (enterAcquire_profiles s) h
  unfold answerValue
  split
  · exact delayInv_answerAcquire theta o hentered
  · exact delayInv_answerAcquire theta o h
  · exact delayInv_of_eq (answerLocked_delays theta o s) (answerLocked_profiles theta o s) h
  · exact delayInv_answerAcquire theta o hentered

/-- A sample that the tests of R115 let through. -/
theorem delayInv_takeSample (theta : Option Int) (o : SampleOrigin) {s : State} (h : DelayInv s) :
    DelayInv (takeSample theta o s) := by
  unfold takeSample
  split
  · exact delayInv_of_eq (count_delays _ _) (count_profiles _ _) h
  · dsimp only
    have hstarted (x : ActiveSource) : DelayInv (startMissing (s.withDisc { s.disc with source := x })) :=
      delayInv_of_eq (startMissing_delays _) (startMissing_profiles _) h
    cases theta with
    | some x => exact delayInv_answerValue x o (hstarted _)
    | none => exact delayInv_of_eq (answerUnordered_delays _ _) (answerUnordered_profiles _ _) (hstarted _)

/-- A MARK or DETAIL at test 4 (R118, R119). -/
theorem delayInv_takeHandoff (m : NetworkHandoff) {s : State} (h : DelayInv s) : DelayInv (takeHandoff m s) := by
  unfold takeHandoff
  split
  · unfold takeDetail
    split
    · exact h
    · exact delayInv_takeSample _ _ h
  · unfold takeMark
    dsimp only
    split
    · exact delayInv_of_eq (count_delays _ _) (count_profiles _ _) h
    · split
      · exact h
      · exact delayInv_takeSample _ _ h

/-- A network hand-off, discarded or taken by the tests of R115 and R116. -/
theorem delayInv_networkHandoff (m : NetworkHandoff) {s : State} (h : DelayInv s) : DelayInv (networkHandoff m s) := by
  have hforeign : DelayInv (raise .foreignSource s) := delayInv_of_eq (raise_delays _ _) (raise_profiles _ _) h
  have htested : DelayInv (testSource m s) := by
    unfold testSource
    dsimp only
    split
    · split
      · exact delayInv_takeHandoff m h
      · exact hforeign
    · split
      · split
        · exact h
        · exact delayInv_takeHandoff m (s := s.withDisc _) h
      · split
        · exact delayInv_takeHandoff m h
        · exact hforeign
  unfold networkHandoff
  split
  · exact h
  · split
    · exact htested
    · exact h

/-- A capture, with the hand-off of input 0 (R138, R139). -/
theorem delayInv_capture (n : Fin 2) {s : State} (h : DelayInv s) : DelayInv (capture n s) := by
  have hcaptured (x : Vector CaptureInput 2) (c : Bool) :
      DelayInv (request [.captures] (raiseIf c .captureOverrun (s.withCaptures x))) :=
    delayInv_of_eq (by simp only [request_delays, raiseIf_delays, State.withCaptures_delays])
      (by simp only [request_profiles, raiseIf_profiles, State.withCaptures_profiles]) h
  unfold capture
  dsimp only
  split
  · unfold inputHandoff
    split
    · exact delayInv_takeSample _ _ (hcaptured _ _)
    · exact hcaptured _ _
  · exact hcaptured _ _

/-- An active edge, captured when the input is enabled (R137). -/
theorem delayInv_takeEdge (n : Fin 2) {s : State} (h : DelayInv s) : DelayInv (takeEdge n s) := by
  have hrecorded : DelayInv (recordLevel n (activeLevelOf n s) s) :=
    delayInv_of_eq (recordLevel_delays _ _ _) (recordLevel_profiles _ _ _) h
  unfold takeEdge
  dsimp only
  split
  · exact delayInv_capture n hrecorded
  · exact hrecorded

/-! ## Frames and egress reads -/

/-- The hand-offs of a completed candidate, of every lane and kind (R34 to R36). -/
theorem delayInv_completionHandoffs (o : Origin) (k : FrameKind) (c : Candidate) (n : Nat) {s : State} (h : DelayInv s) :
    DelayInv (completionHandoffs o k c n s) := by
  cases o with
  | processor => exact h
  | ingress p =>
    unfold completionHandoffs
    cases k with
    | mark =>
      dsimp only
      split
      · exact delayInv_networkHandoff _ h
      · exact h
    | detail =>
      dsimp only
      split
      · exact delayInv_networkHandoff _ h
      · exact h
    | probe =>
      dsimp only
      split
      · exact delayInv_responderHandoff p _ h
      · exact h
    | echo =>
      dsimp only
      split
      · exact delayInv_echoHandoff p _ _ _ h
      · exact h

/-- The completion decision (R32). -/
theorem delayInv_decideCompletion (n : Fin 7) (c : Candidate) {s : State} (h : DelayInv s) :
    DelayInv (decideCompletion n c s) := by
  unfold decideCompletion
  split
  · dsimp only
    split
    · exact h
    · split
      · exact delayInv_completionHandoffs _ _ c _
          (delayInv_of_eq (setCandidate_delays _ _ _) (setCandidate_profiles _ _ _) h)
      · exact h
  · exact h

/-- The decisions of a candidate: only the completion hands anything to the Delay Unit (R30). -/
theorem delayInv_takeDecisions (n : Fin 7) (c : Candidate) {s : State} (h : DelayInv s) :
    DelayInv (takeDecisions n c s) := by
  have htype := delayInv_of_eq (decideType_delays n c s) (decideType_profiles n c s) h
  unfold takeDecisions
  split
  next ht =>
    rw [ht] at htype
    exact htype
  next u d ht =>
    rw [ht] at htype
    have halloc := delayInv_of_eq (decideAllocation_delays n d u) (decideAllocation_profiles n d u) htype
    split
    next ha =>
      rw [ha] at halloc
      exact halloc
    next ha =>
      rw [ha] at halloc
      exact delayInv_decideCompletion n _ halloc

/-- A write that one lane's candidate may capture (R28 to R30). -/
theorem delayInv_captureWrite (k : CellKey) (w : Nat) (en : Enables) (data : Word) (n : Fin 7) {s : State} (h : DelayInv s) :
    DelayInv (captureWrite k w en data s n) := by
  unfold captureWrite
  split
  · exact h
  · split
    · exact delayInv_takeDecisions n _ (delayInv_of_eq (setCandidate_delays _ _ _) (setCandidate_profiles _ _ _) h)
    · exact h

/-- A write word to a pool cell (R5). -/
theorem delayInv_cellWrite (k : CellKey) (n : Nat) (l : LaneClass) (en : Enables) (data : Word) {s : State}
    (h : DelayInv s) : DelayInv (cellWrite k n l en data s) := by
  have hlanes (ns : List (Fin 7)) : ∀ {u : State}, DelayInv u → DelayInv (ns.foldl (captureWrite k n en data) u) := by
    induction ns with
    | nil => exact id
    | cons m ns ih => exact fun hu => ih (delayInv_captureWrite k n en data m hu)
  unfold cellWrite
  split
  · exact delayInv_of_eq (by simp only [openWrite_delays, rewriteCell_delays])
      (by simp only [openWrite_profiles, rewriteCell_profiles]) h
  · exact hlanes allLanes (delayInv_of_eq (mirrorWrite_delays _ _ _ _ s) (mirrorWrite_profiles _ _ _ _ s) h)

/-- The computation of a slot: an ECHO's takes its responder record (R64, R98). -/
theorem delayInv_computeSlot (e : Entry) (q : Port) (rawOut : Raw) (cIn : BitVec 64) {s : State} (h : DelayInv s) :
    DelayInv (computeSlot e q rawOut cIn s) := by
  have hpassed (f : Flag) : DelayInv (passSlot e q (some rawOut) f s) :=
    delayInv_of_eq (passSlot_delays _ _ _ _ s) (passSlot_profiles _ _ _ _ s) h
  have hpatched (c : Computed) : DelayInv (patchSlot e q rawOut c s) :=
    delayInv_of_eq (patchSlot_delays _ _ _ _ s) (patchSlot_profiles _ _ _ _ s) h
  unfold computeSlot
  dsimp only
  split
  · exact h
  · split
    · exact delayInv_of_eq (setSlot_delays _ _ _ s) (setSlot_profiles _ _ _ s) h
    · exact hpatched _
  · split
    · exact hpassed _
    · exact hpatched _
  · split
    · exact hpassed _
    · exact delayInv_removeResponder q _ _ (hpatched _)

/-- A first transit-word read (R60). -/
theorem delayInv_settleSlot (e : Entry) (q : Port) {s : State} (h : DelayInv s) : DelayInv (settleSlot e q s) := by
  have hpassed (r : Option Raw) : DelayInv (passSlot e q r .order s) :=
    delayInv_of_eq (passSlot_delays _ _ _ _ s) (passSlot_profiles _ _ _ _ s) h
  unfold settleSlot
  split
  · exact h
  · split
    · exact hpassed _
    · split
      · exact hpassed _
      · exact delayInv_computeSlot e q _ _ h
    · exact h

/-- A read of a cell word by an egress lane: a PROBE's word 0 gives the transmit hand-off (R58 to R62). -/
theorem delayInv_egressRead (k : CellKey) (n : Nat) (q : Port) {s : State} (h : DelayInv s) :
    DelayInv (egressRead k n q s) := by
  have htimed (e : Entry) : DelayInv (timeSlot e q s) := by
    have hset : DelayInv (setSlot e.order q (.timed s.time.raw) s) :=
      delayInv_of_eq (setSlot_delays _ _ _ s) (setSlot_profiles _ _ _ s) h
    unfold timeSlot
    dsimp only
    split
    · exact delayInv_transmitHandoff q _ _ hset
    · exact hset
  unfold egressRead
  split
  · exact h
  · split
    · exact htimed _
    · split
      · exact delayInv_settleSlot _ q h
      · exact h

/-! ## The rows -/

/-- The outcome of a row, when it is a next state, keeps the laws of the ports. -/
def LeavesDelayInv (o : Host.Outcome State Fault Refusal) : Prop := ∀ t, o = .next t → DelayInv t

/-- A next state under the laws is such an outcome. -/
theorem leavesDelayInv_next {t : State} (h : DelayInv t) : LeavesDelayInv (.next t) :=
  fun _ ht => Host.Outcome.next.inj ht ▸ h

/-- The Delay Unit of State.reset under the default profile, under which the part is held and brought up (R111, R155). -/
theorem delayInv_of_resetValues {t : State} (hd : t.delays = State.reset.delays) (hp : t.profiles = State.reset.profiles) :
    DelayInv t := by
  have hports : ∀ p : Port, State.reset.delays[p] = emptiedPort State.reset.bank.defaultDelay := by decide
  have hreset : DelayInv State.reset := fun p => hports p ▸ emptiedPort_inv State.reset.bank
  exact delayInv_of_eq hd hp hreset

/-- A grant reaches no port of the Delay Unit (R12). -/
theorem delayInv_grantIfFree {s : State} (h : DelayInv s) : DelayInv (grantIfFree s) :=
  delayInv_of_eq (grantIfFree_delays s) (grantIfFree_profiles s) h

/-- RESET_RELEASE (R18). -/
theorem leavesDelayInv_resetRelease (base : BitVec 8) (bypass level0 level1 : Bool) {s : State} (h : DelayInv s) :
    LeavesDelayInv (execResetRelease base bypass level0 level1 s) := by
  unfold execResetRelease
  split
  · exact leavesDelayInv_next (delayInv_grantIfFree (delayInv_of_resetValues rfl rfl))
  · exact leavesDelayInv_next h

/-- FABRIC_ACCESS_REQUEST (R2, R4). -/
theorem leavesDelayInv_fabricAccessRequest (address : BitVec 26) (direction : Direction) (length : Nat) {s : State}
    (h : DelayInv s) : LeavesDelayInv (execFabricAccessRequest address direction length s) := by
  unfold execFabricAccessRequest
  split
  · exact leavesDelayInv_next (delayInv_grantIfFree (s := s.withArbiter _) h)
  · exact fun t ht => nomatch ht

/-- FABRIC_WORD_PASS (R3). -/
theorem leavesDelayInv_fabricWordPass (en : Enables) (data : Word) {s : State} (h : DelayInv s) :
    LeavesDelayInv (execFabricWordPass en data s) := by
  unfold execFabricWordPass
  split
  · exact leavesDelayInv_next (delayInv_of_eq (passPlain_delays _ _ _ s) (passPlain_profiles _ _ _ s) h)
  · exact leavesDelayInv_next h

/-- SHADOW_WRITE (R164). -/
theorem leavesDelayInv_shadowWrite (en : Enables) (data : Word) {s : State} (h : DelayInv s) :
    LeavesDelayInv (execShadowWrite en data s) := by
  unfold execShadowWrite
  split
  · exact leavesDelayInv_next h
  · exact leavesDelayInv_next h

/-- CELL_WORD_WRITE (R5). -/
theorem leavesDelayInv_cellWordWrite (en : Enables) (data : Word) {s : State} (h : DelayInv s) :
    LeavesDelayInv (execCellWordWrite en data s) := by
  unfold execCellWordWrite
  split
  · exact leavesDelayInv_next (delayInv_cellWrite _ _ _ en data (s := passWrite _ en data s) h)
  · exact leavesDelayInv_next h

/-- CELL_WORD_READ (R61). -/
theorem leavesDelayInv_cellWordRead {s : State} (h : DelayInv s) : LeavesDelayInv (execCellWordRead s) := by
  unfold execCellWordRead
  split
  · exact leavesDelayInv_next
      (delayInv_of_eq (passRead_delays _ _ _) (passRead_profiles _ _ _) (delayInv_egressRead _ _ _ h))
  · exact leavesDelayInv_next h

/-- FABRIC_ACCESS_END, with the swap that waited for it (R13, R158). -/
theorem leavesDelayInv_fabricAccessEnd {s : State} (h : DelayInv s) : LeavesDelayInv (execFabricAccessEnd s) := by
  have hswapped : DelayInv (swapAtEnd (s.withArbiter { s.arbiter with current := none })) :=
    delayInv_swapAtEnd (s := s.withArbiter _) h
  have hended : DelayInv (endAccess s) :=
    delayInv_grantIfFree (delayInv_of_eq (by simp only [countWait_delays, decodeChange_delays])
      (by simp only [countWait_profiles, decodeChange_profiles]) hswapped)
  unfold execFabricAccessEnd
  split
  · exact leavesDelayInv_next h
  · split
    · exact leavesDelayInv_next hended
    · exact leavesDelayInv_next h

/-- REPORT_BURST_END (R12). -/
theorem leavesDelayInv_reportBurstEnd {s : State} (h : DelayInv s) : LeavesDelayInv (execReportBurstEnd s) := by
  unfold execReportBurstEnd
  split
  · exact leavesDelayInv_next h
  · exact leavesDelayInv_next (delayInv_of_eq (endBurst_delays _ s) (endBurst_profiles _ s) h)

/-- An event of time or of a pin whose own work keeps the laws; the grant that may follow changes no port (R12). -/
theorem leavesDelayInv_happens (c : Bool) {f : State → State} {s : State} (h : DelayInv s) (hf : DelayInv (f s)) :
    LeavesDelayInv (.next (happens c f s)) := by
  refine leavesDelayInv_next ?_
  unfold happens
  split
  · exact delayInv_grantIfFree hf
  · exact h

/-- A software command whose owner keeps the laws; its word and its answer change no port (R165). -/
theorem leavesDelayInv_takeCommand (code tag : BitVec 8) (imm : BitVec 16) {act : Fin 16 → State → State × CommandResult}
    (hact : ∀ slot u, DelayInv u → DelayInv (act slot u).1) {s : State} (h : DelayInv s) :
    LeavesDelayInv (.next (takeCommand code tag imm act s)) := by
  refine leavesDelayInv_next ?_
  unfold takeCommand
  split
  · exact h
  next a slot _ =>
    have hpassed : DelayInv (passWrite a.next 0b1111 (commandWord code tag imm) s) := h
    exact delayInv_of_eq (by simp only [finishCommand, request_delays, setStatus_delays])
      (by simp only [finishCommand, request_profiles, setStatus_profiles]) (hact slot _ hpassed)

/-! ## What each command's owner does -/

/-- The Discipline Unit told of a step changes no port (R131). -/
theorem delayInv_toldOfStep {s : State} (h : DelayInv s) : DelayInv (toldOfStep s) :=
  delayInv_of_eq (toldOfStep_delays s) (toldOfStep_profiles s) h

/-- TIME_SET's effect (R48). -/
theorem delayInv_timeSet (slot : Fin 16) {s : State} (h : DelayInv s) : DelayInv (timeSet slot s).1 := by
  unfold timeSet
  exact delayInv_toldOfStep (delayInv_stepTime _ h)

/-- TIME_STEP's effect (R49). -/
theorem delayInv_timeStep (imm : BitVec 16) (slot : Fin 16) {s : State} (h : DelayInv s) :
    DelayInv (timeStep imm slot s).1 := by
  unfold timeStep
  exact delayInv_toldOfStep (delayInv_stepTime _ h)

/-- RATE_SET's effect (R50). -/
theorem delayInv_rateSet (slot : Fin 16) {s : State} (h : DelayInv s) : DelayInv (rateSet slot s).1 := by
  unfold rateSet
  split
  · exact h
  · exact delayInv_of_eq (by simp only [giveRhoI_delays, giveRho_delays])
      (by simp only [giveRhoI_profiles, giveRho_profiles]) h

/-- DISCIPLINE_HOLD's effect (R130). -/
theorem delayInv_setHold (on : Bool) {s : State} (h : DelayInv s) : DelayInv (setHold on s) := by
  unfold setHold
  dsimp only
  split
  · exact delayInv_of_eq (enterHoldover_delays _) (enterHoldover_profiles _) h
  · exact h

/-- CAPTURE_ACK's effect (R140). -/
theorem delayInv_acknowledge (mask : BitVec 16) {s : State} (h : DelayInv s) : DelayInv (acknowledge mask s) := by
  unfold acknowledge
  dsimp only
  split
  · exact delayInv_request [.captures] (s := s.withCaptures _) h
  · exact h

/-- The staged bank written: the ports go by the bank in force (R152, R156). -/
theorem delayInv_setStaged (p : Profile) {s : State} (h : DelayInv s) : DelayInv (setStaged p s) :=
  delayInv_of_bank (s := s) rfl (setStaged_bank p s) h

/-- PROFILE_WRITE's effect (R156). -/
theorem delayInv_profileWrite (slot : Fin 16) {s : State} (h : DelayInv s) : DelayInv (profileWrite slot s).1 := by
  unfold profileWrite
  split
  · exact h
  · dsimp only
    split
    · exact h
    · exact delayInv_setStaged _ h

/-- PROFILE_COPY's effect (R157). -/
theorem delayInv_profileCopy {s : State} (h : DelayInv s) : DelayInv (profileCopy s).1 := by
  unfold profileCopy
  split
  · exact h
  · exact delayInv_setStaged _ h

/-- PROFILE_SWAP's effect in both modes: the request alone (R158, R159). -/
theorem delayInv_requestSwap (r : SwapRequest) (x : CommandResult) {s : State} (h : DelayInv s) :
    DelayInv (requestSwap r x s).1 := by
  unfold requestSwap
  split
  · exact h
  · exact delayInv_withSwap r h

/-- PROFILE_CANCEL's effect (R161). -/
theorem delayInv_profileCancel {s : State} (h : DelayInv s) : DelayInv (profileCancel s).1 := by
  unfold profileCancel
  split
  · exact delayInv_cancelSwap h
  · exact h
  · exact h

/-- FLAG_CLEAR's effect (R169). -/
theorem delayInv_clearFlags (mask : BitVec 16) {s : State} (h : DelayInv s) : DelayInv (clearFlags mask s) :=
  delayInv_request [.status] (s := s.withReport { s.report with flags := s.report.flags &&& ~~~mask }) h

/-- FLAG_ENABLE's effect (R169). -/
theorem delayInv_enableFlags (mask : BitVec 16) {s : State} (h : DelayInv s) : DelayInv (enableFlags mask s) :=
  delayInv_request [.status] (s := s.withReport { s.report with enables := mask }) h

/-- RESTART's effect: every port is cleared (R112, R175). -/
theorem delayInv_restartPart {s : State} (h : DelayInv s) : DelayInv (restartPart s) := by
  have hemptied : DelayInv (emptyTable (dropCandidates (request allBlocks s))) :=
    delayInv_request allBlocks h
  have hcleared := delayInv_clearPorts allPorts hemptied
  have hrestarted := delayInv_of_eq (restartDiscipline_delays _) (restartDiscipline_profiles _) hcleared
  exact delayInv_of_eq (State.withReport_delays _ _) (State.withReport_profiles _ _) (delayInv_cancelSwap hrestarted)

/-! ## Every row and every step -/

/-- Every row of the table keeps the laws of the ports. -/
theorem leavesDelayInv_exec (i : Instr) {s : State} (h : DelayInv s) : LeavesDelayInv (exec i s) := by
  cases i with
  | hardwareReset => exact leavesDelayInv_next (delayInv_of_resetValues rfl rfl)
  | resetRelease base bypass level0 level1 => exact leavesDelayInv_resetRelease base bypass level0 level1 h
  | fabricAccessRequest address direction length => exact leavesDelayInv_fabricAccessRequest address direction length h
  | fabricWordPass en data => exact leavesDelayInv_fabricWordPass en data h
  | shadowWrite en data => exact leavesDelayInv_shadowWrite en data h
  | cellWordWrite en data => exact leavesDelayInv_cellWordWrite en data h
  | cellWordRead => exact leavesDelayInv_cellWordRead h
  | fabricAccessEnd => exact leavesDelayInv_fabricAccessEnd h
  | reportBurstEnd => exact leavesDelayInv_reportBurstEnd h
  | rollover => exact leavesDelayInv_happens _ h (delayInv_giveRollover h)
  | entryAgeExpiry order =>
    exact leavesDelayInv_happens _ h (delayInv_of_eq (s := s) (by simp only [expireEntry, count_delays, setEntries_delays])
      (by simp only [expireEntry, count_profiles, setEntries_profiles]) h)
  | probeRecordExpiry p sequence =>
    exact leavesDelayInv_happens _ h
      (delayInv_of_eq (raise_delays _ _) (raise_profiles _ _) (delayInv_removeProbe p sequence h))
  | responderRecordExpiry p sequence source =>
    exact leavesDelayInv_happens _ h (delayInv_removeResponder p sequence source h)
  | missingTimerExpiry =>
    exact leavesDelayInv_happens _ h (delayInv_of_eq (expireMissing_delays s) (expireMissing_profiles s) h)
  | holdoverTimerExpiry =>
    exact leavesDelayInv_happens _ h (delayInv_of_eq (fallFreeRun_delays s) (fallFreeRun_profiles s) h)
  | pulseLeadingInstant n =>
    exact leavesDelayInv_happens _ h (delayInv_of_eq (leadPulse_delays n s) (leadPulse_profiles n s) h)
  | pulseTrailingInstant n =>
    exact leavesDelayInv_happens _ h (delayInv_of_eq (trailPulse_delays n s) (trailPulse_profiles n s) h)
  | activeEdge n => exact leavesDelayInv_happens _ h (delayInv_takeEdge n h)
  | inputLevelChange n =>
    exact leavesDelayInv_happens _ h (delayInv_of_eq (recordLevel_delays n _ s) (recordLevel_profiles n _ s) h)
  | timeSet tag imm => exact leavesDelayInv_takeCommand _ tag imm (fun slot _ => delayInv_timeSet slot) h
  | timeStep tag imm => exact leavesDelayInv_takeCommand _ tag imm (fun slot _ => delayInv_timeStep imm slot) h
  | rateSet tag imm => exact leavesDelayInv_takeCommand _ tag imm (fun slot _ => delayInv_rateSet slot) h
  | tableFlush tag imm => exact leavesDelayInv_takeCommand _ tag imm (fun _ _ hu => hu) h
  | pathClear tag imm => exact leavesDelayInv_takeCommand _ tag imm (fun _ _ => delayInv_clearPorts _) h
  | disciplineRelatch tag imm => exact leavesDelayInv_takeCommand _ tag imm (fun _ _ hu => hu) h
  | disciplineHold tag imm => exact leavesDelayInv_takeCommand _ tag imm (fun _ _ => delayInv_setHold _) h
  | captureAck tag imm => exact leavesDelayInv_takeCommand _ tag imm (fun _ _ => delayInv_acknowledge imm) h
  | captureTest tag imm => exact leavesDelayInv_takeCommand _ tag imm (fun _ _ => delayInv_capture _) h
  | profileWrite tag imm => exact leavesDelayInv_takeCommand _ tag imm (fun slot _ => delayInv_profileWrite slot) h
  | profileCopy tag imm => exact leavesDelayInv_takeCommand _ tag imm (fun _ _ => delayInv_profileCopy) h
  | profileSwapImmediate tag high => exact leavesDelayInv_takeCommand _ tag _ (fun _ _ => delayInv_requestSwap _ _) h
  | profileSwapAtSecond tag high => exact leavesDelayInv_takeCommand _ tag _ (fun _ _ => delayInv_requestSwap _ _) h
  | profileCancel tag imm => exact leavesDelayInv_takeCommand _ tag imm (fun _ _ => delayInv_profileCancel) h
  | flagClear tag imm =>
    exact leavesDelayInv_takeCommand _ tag imm (fun _ _ => delayInv_clearFlags imm) h
  | flagEnable tag imm =>
    exact leavesDelayInv_takeCommand _ tag imm (fun _ _ => delayInv_enableFlags imm) h
  | reportNow tag imm => exact leavesDelayInv_takeCommand _ tag imm (fun _ _ => delayInv_request allBlocks) h
  | restart tag imm =>
    exact leavesDelayInv_takeCommand 0x7F tag imm (act := fun _ u => (restartPart u, .done))
      (fun _ _ hu => delayInv_restartPart hu) h
  | unknownCommand code tag imm =>
    have htaken := leavesDelayInv_takeCommand code tag imm (act := fun _ u => (u, .unknownCommand)) (fun _ _ hu => hu) h
    change LeavesDelayInv (execUnknownCommand code tag imm s)
    unfold execUnknownCommand
    split
    · exact leavesDelayInv_next h
    · exact htaken

/-- Settles O50: a step is a row of the table, a tick, which touches neither a port nor a bank, or rest. -/
theorem stepKeepsDelays : Obligations.StepKeepsDelays := by
  intro s t h hstep
  have hleaves : LeavesDelayInv (step s) := by
    unfold step
    split
    next i rest _ => exact leavesDelayInv_exec i (s := s.withPending rest) h
    next =>
      split
      · exact leavesDelayInv_next h
      · exact leavesDelayInv_exec _ h
      · exact leavesDelayInv_next (delayInv_of_eq (s := s) (by rw [tick_eq]) (by rw [tick_eq]) h)
  exact hleaves t hstep

end Sys2Proof.Machine
end

section
/-! CAPTURE_ACK (08 R140): what it does to the records and to the report queue, the command as its row takes it, and its
statement. -/

namespace Sys2Proof.Machine

/-- The entry of each index in a table of two. -/
theorem tab2_get {α : Type} (f : Fin 2 → α) (n : Fin 2) : (tab2 f)[n] = f n :=
  match n with
  | 0 => rfl
  | 1 => rfl

/-- Every record after an acknowledge: pending clears where the mask names the input, and the rest stays (R140). -/
theorem acknowledge_captures_get (mask : BitVec 16) (s : State) (n : Fin 2) :
    (acknowledge mask s).captures[n] =
      { s.captures[n] with pending := if mask.getLsbD n.val then false else s.captures[n].pending } := by
  have hrecords : (acknowledge mask s).captures =
      tab2 fun n => { s.captures[n] with pending := s.captures[n].pending && !mask.getLsbD n.val } := by
    simp only [acknowledge, apply_ite State.captures, request_captures, State.withCaptures_captures, ite_self]
  rw [hrecords, tab2_get]
  cases mask.getLsbD n.val <;> simp

/-- Some record shows another pending after an acknowledge exactly when the mask names an input whose pending is set
(R140). -/
theorem acknowledge_changes_pending_iff (mask : BitVec 16) (s : State) :
    (∃ n : Fin 2, (acknowledge mask s).captures[n].pending ≠ s.captures[n].pending) ↔
      ((mask.getLsbD 0 && s.captures[0].pending) || (mask.getLsbD 1 && s.captures[1].pending)) = true := by
  have hone (n : Fin 2) : (acknowledge mask s).captures[n].pending ≠ s.captures[n].pending ↔
      (mask.getLsbD n.val && s.captures[n].pending) = true := by
    rw [acknowledge_captures_get]
    cases mask.getLsbD n.val <;> simp
  simp only [hone, Fin.exists_fin_two, Bool.or_eq_true]
  rfl

/-- An acknowledge in a part that is not in bypass touches the records and the report queue alone, which the Captures block
joins when some pending changed (R140). -/
theorem acknowledge_eq {s : State} (h : s.straps.bypass = false) (mask : BitVec 16) :
    acknowledge mask s =
      { s with
        captures := (acknowledge mask s).captures
        report :=
          { s.report with
            queue :=
              if ∃ n : Fin 2, (acknowledge mask s).captures[n].pending ≠ s.captures[n].pending then
                joinQueue s.report.queue .captures
              else s.report.queue } } := by
  have hset (x : Vector CaptureInput 2) : (s.withCaptures x).straps.bypass = false := h
  simp only [acknowledge_changes_pending_iff]
  unfold acknowledge
  dsimp only
  split
  · rw [request_eq (hset _)]
    rfl
  · rfl

/-- A CAPTURE_ACK that is taken: its word passes, the records are acknowledged, the slot is answered DONE (R140, R165). -/
theorem exec_captureAck_of_atCommand {s : State} {a : Access} {slot : Fin 16} (h : AtCommand s a slot) (tag : BitVec 8)
    (imm : BitVec 16) :
    exec (.captureAck tag imm) s = .next
      (answered slot .done tag 0x40 (acknowledge imm (written a 0b1111 (commandWord 0x40 tag imm) s))) := by
  have ⟨⟨_, _, _, hbypass, _⟩, _⟩ := h
  have hw : (written a 0b1111 (commandWord 0x40 tag imm) s).straps.bypass = false := hbypass
  exact congrArg Host.Outcome.next
    (takeCommand_eq_answered h 0x40 tag imm (fun _ s => (acknowledge imm s, .done))
      (by dsimp only; rw [acknowledge_eq hw]; rfl))

/-- Settles O34: the word that passes changes neither the records nor the report queue, so the acknowledge acts on what the
state before the word shows, and the Commands request of the answer comes after that of Captures. -/
theorem captureAckClearsPending : Obligations.CaptureAckClearsPending := by
  intro s a slot tag imm hat
  have ⟨⟨_, _, _, hbypass, _⟩, _⟩ := hat
  let w := written a 0b1111 (commandWord 0x40 tag imm) s
  have hw : w.straps.bypass = false := hbypass
  refine ⟨_, exec_captureAck_of_atCommand hat tag imm, ?_, acknowledge_captures_get imm w⟩
  calc answered slot .done tag 0x40 (acknowledge imm w)
      = answered slot .done tag 0x40
          { w with
            captures := (acknowledge imm w).captures
            report :=
              { w.report with
                queue :=
                  if ∃ n : Fin 2, (acknowledge imm w).captures[n].pending ≠ w.captures[n].pending then
                    joinQueue w.report.queue .captures
                  else w.report.queue } } := congrArg _ (acknowledge_eq hw imm)
    _ = _ := by
      simp only [answered, apply_ite (joinQueue · .commands)]
      rfl

end Sys2Proof.Machine
end

section
/-! The entries of the Residence Table as a list in allocation order (04 R53): what the table's operations do to an entry, and
that they keep the order and the pairs of links (04 R65, R66). -/

namespace Sys2Proof.Machine

/-! ## Allocation order -/

/-- Entries in allocation order, oldest first (R53). -/
abbrev InOrder (es : List Entry) : Prop := es.Pairwise fun e f => e.order < f.order

/-- The laws that the table keeps of the order of its entries (R53). -/
abbrev ResidenceTable.Ordered (t : ResidenceTable) : Prop :=
  t.entries.length ≤ 64 ∧ InOrder t.entries ∧ ∀ e ∈ t.entries, e.order < t.nextOrder

/-- Entries are in order when their orders are. -/
theorem inOrder_iff {es : List Entry} : InOrder es ↔ (es.map (·.order)).Pairwise (· < ·) := List.pairwise_map.symm

/-- Entries in order have an order each. -/
theorem InOrder.inj {es : List Entry} (h : InOrder es) {e f : Entry} (he : e ∈ es) (hf : f ∈ es) (ho : e.order = f.order) :
    e = f := by
  have hnodup : (es.map (·.order)).Nodup := (inOrder_iff.1 h).imp fun hlt => Nat.ne_of_lt hlt
  exact List.inj_on_of_nodup_map hnodup he hf ho

/-- A table some of whose entries are left, changed but for their order, keeps its order. -/
theorem ResidenceTable.Ordered.sublist {t : ResidenceTable} (h : t.Ordered) {es : List Entry}
    (hs : (es.map (·.order)).Sublist (t.entries.map (·.order))) : ResidenceTable.Ordered { t with entries := es } := by
  obtain ⟨hlength, horder, hnext⟩ := h
  refine ⟨?_, inOrder_iff.2 ((inOrder_iff.1 horder).sublist hs), fun e he => ?_⟩
  · have := hs.length_le
    simp only [List.length_map] at this
    exact Nat.le_trans this hlength
  · obtain ⟨f, hf, hfe⟩ := List.mem_map.1 (hs.subset (List.mem_map_of_mem (f := (·.order)) he))
    exact hfe ▸ hnext f hf

/-- The entry found by its order. -/
theorem findOrder_some {o : Nat} {es : List Entry} {e : Entry} (h : findOrder o es = some e) : e ∈ es ∧ e.order = o :=
  ⟨List.mem_of_find?_eq_some h, by simpa using List.find?_some h⟩

/-- The entry of a table in order is found by its order. -/
theorem findOrder_eq {es : List Entry} (h : InOrder es) {e : Entry} (he : e ∈ es) : findOrder e.order es = some e := by
  cases hf : findOrder e.order es with
  | none => exact absurd (List.find?_eq_none.1 hf e he) (by simp)
  | some f =>
    obtain ⟨hmem, ho⟩ := findOrder_some hf
    rw [h.inj hmem he ho]

/-- The live entry found on a cell. -/
theorem findLive_some {k : CellKey} {es : List Entry} {e : Entry} (h : findLive k es = some e) :
    e ∈ es ∧ e.live = true ∧ e.key = k := by
  refine ⟨List.mem_of_find?_eq_some h, ?_⟩
  simpa using List.find?_some h

/-- No live entry is found on a cell that has none. -/
theorem findLive_none {k : CellKey} {es : List Entry} : findLive k es = none ↔ ∀ e ∈ es, e.live = true → e.key ≠ k := by
  simp [findLive, List.find?_eq_none]

/-! ## Entries changed -/

/-- Entries after one is changed. -/
theorem mem_changeEntry {o : Nat} {f : Entry → Entry} {es : List Entry} {x : Entry} :
    x ∈ changeEntry o f es ↔ ∃ e ∈ es, (if e.order = o then f e else e) = x := by
  simp [changeEntry]

/-- A change that keeps an entry's order keeps all orders. -/
theorem changeEntry_orders (o : Nat) {f : Entry → Entry} (hf : ∀ e, (f e).order = e.order) (es : List Entry) :
    (changeEntry o f es).map (·.order) = es.map (·.order) := by
  unfold changeEntry
  rw [List.map_map]
  refine List.map_congr_left fun e _ => ?_
  dsimp only [Function.comp]
  split
  · exact hf e
  · rfl

/-! ## Pairs of links -/

/-- The laws of links, of a list of entries (R65, R66, R68). -/
abbrev LinksPaired (es : List Entry) : Prop :=
  ∀ e ∈ es,
    (e.state = .opened → e.link = .absent) ∧
    (e.state = .detached → e.kind = .mark ∧ e.detailFollows = true) ∧
    (∀ o, e.link = .entry o → ∃ f ∈ es, f.order = o ∧ f.link = .entry e.order ∧
      ((e.kind = .mark ∧ e.detailFollows = true ∧ f.kind = .detail) ∨
        (e.kind = .detail ∧ f.kind = .mark ∧ f.detailFollows = true)))

/-- What becomes of an entry when the entry of order `o` is retired (R66, R67): that entry goes; linked to it, a DETAIL loses its
link, and a MARK's link is ended, or a DETACHED MARK goes too. -/
def retiredBy (o : Nat) (x : Entry) : Option Entry :=
  if x.order = o then none
  else if x.link = .entry o then
    if x.kind = .detail then some { x with link := .absent }
    else if x.state = .detached then none
    else some { x with link := .ended }
  else some x

/-- The pair of a linked entry (R65). -/
theorem LinksPaired.partner {es : List Entry} (h : LinksPaired es) {e : Entry} (he : e ∈ es) {o : Nat} (hl : e.link = .entry o) :
    ∃ f ∈ es, f.order = o ∧ f.link = .entry e.order ∧
      ((e.kind = .mark ∧ e.detailFollows = true ∧ f.kind = .detail) ∨
        (e.kind = .detail ∧ f.kind = .mark ∧ f.detailFollows = true)) := (h e he).2.2 o hl

/-- Of two paired entries one links to the other exactly when the other links to it. -/
theorem LinksPaired.link_comm {es : List Entry} (h : LinksPaired es) (horder : InOrder es) {e f : Entry} (he : e ∈ es)
    (hf : f ∈ es) : e.link = .entry f.order ↔ f.link = .entry e.order := by
  have hone {x y : Entry} (hx : x ∈ es) (hy : y ∈ es) (hl : x.link = .entry y.order) : y.link = .entry x.order := by
    obtain ⟨z, hz, ho, hz', -⟩ := h.partner hx hl
    rwa [horder.inj hz hy ho] at hz'
  exact ⟨hone he hf, hone hf he⟩

/-- A retirement entry by entry. -/
theorem retireEntry_eq {es : List Entry} (horder : InOrder es) (hlinks : LinksPaired es) (o : Nat) :
    retireEntry o es = es.filterMap (retiredBy o) := by
  unfold retireEntry
  cases hfound : findOrder o es with
  | none =>
    have hnot : ∀ x ∈ es, x.order ≠ o := fun x hx => by simpa using List.find?_eq_none.1 hfound x hx
    have hsame : ∀ x ∈ es, retiredBy o x = some x := by
      intro x hx
      have hlink : x.link ≠ .entry o := fun hl =>
        have ⟨f, hf, hfo, _⟩ := hlinks.partner hx hl
        hnot f hf hfo
      rw [retiredBy, if_neg (hnot x hx), if_neg hlink]
    rw [List.filterMap_congr hsame, List.filterMap_some]
  | some e =>
    obtain ⟨he, rfl⟩ := findOrder_some hfound
    have hlinked (x : Entry) (hx : x ∈ es) : x.link = .entry e.order ↔ e.link = .entry x.order := hlinks.link_comm horder hx he
    dsimp only
    unfold endLink changeEntry
    cases hl : e.link with
    | absent =>
      rw [← List.filterMap_eq_filter]
      refine List.filterMap_congr fun x hx => ?_
      have hno : x.link ≠ .entry e.order := fun h => by simp [(hlinked x hx).1 h] at hl
      by_cases ho : x.order = e.order <;> simp [retiredBy, Option.guard, ho, hno]
    | ended =>
      rw [← List.filterMap_eq_filter]
      refine List.filterMap_congr fun x hx => ?_
      have hno : x.link ≠ .entry e.order := fun h => by simp [(hlinked x hx).1 h] at hl
      by_cases ho : x.order = e.order <;> simp [retiredBy, Option.guard, ho, hno]
    | entry p =>
      have hlink (x : Entry) (hx : x ∈ es) : x.link = .entry e.order ↔ x.order = p := by
        rw [hlinked x hx, hl, Link.entry.injEq, eq_comm]
      have hkind (x : Entry) (hx : x ∈ es) (hp : x.order = p) : x.kind = .detail ↔ e.kind ≠ .detail := by
        obtain ⟨f, hf, hfo, -, hkinds⟩ := hlinks.partner he hl
        obtain rfl := horder.inj hf hx (hfo.trans hp.symm)
        rcases hkinds with ⟨hmark, -, hdetail⟩ | ⟨hdetail, hmark, -⟩
        · simp [hmark, hdetail]
        · simp [hmark, hdetail]
      dsimp only
      split
      next hdetail =>
        rw [← List.filterMap_eq_map, List.filterMap_filter, List.filterMap_filter]
        refine List.filterMap_congr fun x hx => ?_
        by_cases ho : x.order = e.order
        · simp [retiredBy, ho]
        · by_cases hp : x.order = p
          · have hk : x.kind ≠ .detail := fun h => (hkind x hx hp).1 h hdetail
            by_cases hs : x.state = .detached <;> simp [retiredBy, (hlink x hx).2 hp, hk, hs, hp]
          · have hno : x.link ≠ .entry e.order := fun h => hp ((hlink x hx).1 h)
            simp [retiredBy, ho, hno, hp]
      next hdetail =>
        rw [← List.filterMap_eq_map, List.filterMap_filter]
        refine List.filterMap_congr fun x hx => ?_
        by_cases ho : x.order = e.order
        · simp [retiredBy, ho]
        · by_cases hp : x.order = p
          · simp [retiredBy, (hlink x hx).2 hp, (hkind x hx hp).2 hdetail, hp]
          · have hno : x.link ≠ .entry e.order := fun h => hp ((hlink x hx).1 h)
            simp [retiredBy, ho, hno, hp]

/-- What is left of an entry keeps its order. -/
theorem retiredBy_order {o : Nat} {x y : Entry} (h : retiredBy o x = some y) : y.order = x.order := by
  unfold retiredBy at h
  split at h
  · cases h
  · split at h
    · split at h
      · exact Option.some.inj h ▸ rfl
      · split at h
        · cases h
        · exact Option.some.inj h ▸ rfl
    · exact Option.some.inj h ▸ rfl

/-- Entries left, changed but for their order, keep their orders. -/
theorem filterMap_orders {f : Entry → Option Entry} (hf : ∀ {x y}, f x = some y → y.order = x.order) (es : List Entry) :
    ((es.filterMap f).map (·.order)).Sublist (es.map (·.order)) := by
  induction es with
  | nil => exact .slnil
  | cons e es ih =>
    cases hx : f e with
    | none => simpa [hx] using ih.cons _
    | some y => simpa [hx, hf hx] using ih

/-- An entry that neither ends nor is linked to the one that ends stays. -/
theorem retiredBy_of_unlinked {o : Nat} {x : Entry} (ho : x.order ≠ o) (hl : x.link ≠ .entry o) : retiredBy o x = some x := by
  rw [retiredBy, if_neg ho, if_neg hl]

/-- What is left of an entry is the entry, with its link cut where it was linked to the one that ended (R66). -/
theorem retiredBy_some {o : Nat} {x y : Entry} (h : retiredBy o x = some y) :
    x.order ≠ o ∧ ((x.link ≠ .entry o ∧ y = x) ∨
      (x.link = .entry o ∧ (y = { x with link := .absent } ∨ y = { x with link := .ended }))) := by
  unfold retiredBy at h
  split at h
  · cases h
  next ho =>
    refine ⟨ho, ?_⟩
    split at h
    next hl =>
      refine .inr ⟨hl, ?_⟩
      split at h
      · exact .inl (Option.some.inj h).symm
      · split at h
        · cases h
        · exact .inr (Option.some.inj h).symm
    next hl => exact .inl ⟨hl, (Option.some.inj h).symm⟩

/-- A retirement keeps links in pairs (R66). -/
theorem linksPaired_retired {es : List Entry} (h : LinksPaired es) (o : Nat) : LinksPaired (es.filterMap (retiredBy o)) := by
  intro y hy
  obtain ⟨x, hx, hxy⟩ := List.mem_filterMap.1 hy
  obtain ⟨hopened, hdetached, hlink⟩ := h x hx
  obtain ⟨ho, ⟨hl, rfl⟩ | ⟨hl, hcut⟩⟩ := retiredBy_some hxy
  · refine ⟨hopened, hdetached, fun p hp => ?_⟩
    obtain ⟨f, hf, hfo, hfl, hkinds⟩ := hlink p hp
    have hstays : retiredBy o f = some f := by
      refine retiredBy_of_unlinked (fun hfo' => hl ?_) (fun hfl' => ho ?_)
      · rw [hp, ← hfo, hfo']
      · simpa [hfl] using hfl'
    exact ⟨f, List.mem_filterMap.2 ⟨f, hf, hstays⟩, hfo, hfl, hkinds⟩
  · have hnot : x.state ≠ .opened := fun hs => by simp [hopened hs] at hl
    rcases hcut with rfl | rfl
    · exact ⟨fun hs => absurd hs hnot, hdetached, nofun⟩
    · exact ⟨fun hs => absurd hs hnot, hdetached, nofun⟩

/-- The laws of the table: its order, and links in pairs. -/
abbrev ResidenceTable.Laws (t : ResidenceTable) : Prop := t.Ordered ∧ LinksPaired t.entries

/-- A retirement keeps the laws of the table (R66, R67). -/
theorem ResidenceTable.Laws.retire {t : ResidenceTable} (h : t.Laws) (o : Nat) :
    ResidenceTable.Laws { t with entries := retireEntry o t.entries } := by
  rw [retireEntry_eq h.1.2.1 h.2]
  exact ⟨h.1.sublist (filterMap_orders retiredBy_order _), linksPaired_retired h.2 o⟩

/-- Several retirements keep the laws of the table. -/
theorem ResidenceTable.Laws.retireAll (os : List Nat) :
    ∀ {t : ResidenceTable}, t.Laws → ResidenceTable.Laws { t with entries := retireEntries os t.entries } := by
  induction os with
  | nil => exact fun h => h
  | cons o os ih => exact fun h => ih (h.retire o)

/-- A change of an entry that keeps what its order and its link rest on. -/
structure KeepsLink (f : Entry → Entry) : Prop where
  order : ∀ e, (f e).order = e.order
  state : ∀ e, (f e).state = e.state
  kind : ∀ e, (f e).kind = e.kind
  follows : ∀ e, (f e).detailFollows = e.detailFollows
  link : ∀ e, (f e).link = e.link

/-- Such a change keeps the laws of the table. -/
theorem ResidenceTable.Laws.change {t : ResidenceTable} (h : t.Laws) (o : Nat) {f : Entry → Entry} (hf : KeepsLink f) :
    ResidenceTable.Laws { t with entries := changeEntry o f t.entries } := by
  refine ⟨h.1.sublist (by rw [changeEntry_orders o hf.order]), fun y hy => ?_⟩
  have hkeeps (e : Entry) : let e' := if e.order = o then f e else e
      e'.order = e.order ∧ e'.state = e.state ∧ e'.kind = e.kind ∧ e'.detailFollows = e.detailFollows ∧ e'.link = e.link := by
    dsimp only
    split
    · exact ⟨hf.order e, hf.state e, hf.kind e, hf.follows e, hf.link e⟩
    · exact ⟨rfl, rfl, rfl, rfl, rfl⟩
  obtain ⟨x, hx, rfl⟩ := mem_changeEntry.1 hy
  obtain ⟨horder, hstate, hkind, hfollows, hlink⟩ := hkeeps x
  obtain ⟨hopened, hdetached, hpartner⟩ := h.2 x hx
  rw [hstate, hkind, hfollows, hlink, horder]
  refine ⟨hopened, hdetached, fun p hp => ?_⟩
  obtain ⟨g, hg, hgo, hgl, hkinds⟩ := hpartner p hp
  obtain ⟨horder', -, hkind', hfollows', hlink'⟩ := hkeeps g
  refine ⟨_, mem_changeEntry.2 ⟨g, hg, rfl⟩, horder'.trans hgo, hlink'.trans hgl, ?_⟩
  rw [hkind', hfollows']
  exact hkinds

/-- The table emptied keeps its laws. -/
theorem ResidenceTable.Laws.empty (t : ResidenceTable) : ResidenceTable.Laws { t with entries := [] } :=
  ⟨⟨Nat.zero_le _, .nil, fun _ he => absurd he List.not_mem_nil⟩, fun _ he => absurd he List.not_mem_nil⟩

/-! ## Completion and linking -/

/-- The younger of the first two goes on (R65). -/
theorem youngest_cons_cons (b e : Entry) (es : List Entry) :
    youngest (b :: e :: es) = if b.order < e.order then youngest (e :: es) else youngest (b :: es) := by
  unfold youngest
  simp only [List.foldl_cons]
  split <;> rfl

/-- The youngest of some entries is one of them, none allocated after it (R65). -/
theorem youngest_cons (es : List Entry) :
    ∀ b : Entry, ∃ m, youngest (b :: es) = some m ∧ m ∈ b :: es ∧ ∀ e ∈ b :: es, e.order ≤ m.order := by
  induction es with
  | nil => exact fun b => ⟨b, rfl, List.mem_singleton_self b, fun e he => by rw [List.mem_singleton.1 he]⟩
  | cons e es ih =>
    intro b
    rw [youngest_cons_cons]
    split
    next hlt =>
      obtain ⟨m, hm, hmem, hle⟩ := ih e
      refine ⟨m, hm, List.mem_cons_of_mem _ hmem, fun x hx => ?_⟩
      rcases List.mem_cons.1 hx with rfl | hx
      · exact Nat.le_trans (Nat.le_of_lt hlt) (hle e List.mem_cons_self)
      · exact hle x hx
    next hge =>
      obtain ⟨m, hm, hmem, hle⟩ := ih b
      refine ⟨m, hm, ?_, fun x hx => ?_⟩
      · rcases List.mem_cons.1 hmem with rfl | hmem
        · exact List.mem_cons_self
        · exact List.mem_cons_of_mem _ (List.mem_cons_of_mem _ hmem)
      · rcases List.mem_cons.1 hx with rfl | hx
        · exact hle _ List.mem_cons_self
        · rcases List.mem_cons.1 hx with rfl | hx
          · exact Nat.le_trans (Nat.not_lt.1 hge) (hle b List.mem_cons_self)
          · exact hle x (List.mem_cons_of_mem _ hx)

/-- The youngest, if there is one (R65). -/
theorem youngest_cases (es : List Entry) : (youngest es = none ∧ es = []) ∨
    ∃ m, youngest es = some m ∧ m ∈ es ∧ ∀ e ∈ es, e.order ≤ m.order := by
  cases es with
  | nil => exact .inl ⟨rfl, rfl⟩
  | cons b es => exact .inr (youngest_cons es b)

/-- A MARK that may be linked to a DETAIL (R65). -/
theorem linkable_iff {m d : Entry} : m.linkable d = true ↔ Qualifies m d := by
  simp only [Entry.linkable, Bool.and_eq_true, beq_iff_eq, bne_iff_ne, ne_eq]
  tauto

/-- What becomes of an entry when DETAIL `d` and MARK `m` are linked (R65). -/
def linkedWith (m d : Entry) (x : Entry) : Entry :=
  if x.order = m.order then { x with link := .entry d.order }
  else if x.order = d.order then { x with state := .complete, link := .entry m.order }
  else x

/-- A DETAIL is no MARK: its own change leaves the MARKs that qualify (R65). -/
theorem filter_linkable_changeEntry {es : List Entry} (horder : InOrder es) {e : Entry} (he : e ∈ es) (hk : e.kind = .detail)
    {f : Entry → Entry} (hf : ∀ x, (f x).kind = x.kind) :
    (changeEntry e.order f es).filter (·.linkable e) = es.filter (·.linkable e) := by
  have hnot {x : Entry} (hx : x.kind = .detail) : x.linkable e = false := by simp [Entry.linkable, hx]
  have hsame : ∀ x ∈ es, (if x.order = e.order then f x else x).linkable e = x.linkable e := by
    intro x hx
    split
    next ho =>
      obtain rfl := horder.inj hx he ho
      rw [hnot hk, hnot ((hf x).trans hk)]
    next => rfl
  unfold changeEntry
  rw [List.filter_map, List.filter_congr (q := (·.linkable e)) hsame]
  refine (List.map_congr_left fun x hx => ?_).trans (List.map_id _)
  obtain ⟨hx, hl⟩ := List.mem_filter.1 hx
  refine if_neg fun ho => ?_
  obtain rfl := horder.inj hx he ho
  simp [hnot hk] at hl

/-- The entries after OPEN entry `e` became COMPLETE, a DETAIL without a MARK that qualifies or another kind (R57). -/
theorem completeEntry_unlinked {es : List Entry} (horder : InOrder es) {e : Entry} (he : e ∈ es) (hs : e.state = .opened)
    (hc : e.copyComplete = true) (hk : e.kind ≠ .detail ∨ ∀ m ∈ es, ¬ Qualifies m e) :
    completeEntry e.order es = changeEntry e.order (fun x => { x with state := .complete }) es := by
  unfold completeEntry
  rw [findOrder_eq horder he]
  dsimp only
  rw [if_pos ⟨hs, hc⟩]
  split
  next hdetail =>
    have hnone : es.filter (·.linkable e) = [] :=
      List.filter_eq_nil_iff.2 fun m hm hl => hk.resolve_left (fun h => h hdetail) m hm (linkable_iff.1 hl)
    unfold linkDetail
    rw [filter_linkable_changeEntry horder he hdetail (f := fun x => { x with state := .complete }) fun _ => rfl, hnone]
    rfl
  next => rfl

/-- The entries after DETAIL `e` became COMPLETE and is linked with MARK `m` (R57, R65). -/
theorem completeEntry_linked {es : List Entry} (horder : InOrder es) {e : Entry} (he : e ∈ es) (hs : e.state = .opened)
    (hc : e.copyComplete = true) (hk : e.kind = .detail) {m : Entry} (hm : m ∈ es) (hq : Qualifies m e)
    (hy : ∀ m' ∈ es, Qualifies m' e → m'.order ≤ m.order) :
    completeEntry e.order es = es.map (linkedWith m e) := by
  have hmember : m ∈ es.filter (·.linkable e) := List.mem_filter.2 ⟨hm, linkable_iff.2 hq⟩
  have hyoungest : youngest (es.filter (·.linkable e)) = some m := by
    rcases youngest_cases (es.filter (·.linkable e)) with ⟨-, hnil⟩ | ⟨x, hx, hmem, hle⟩
    · rw [hnil] at hmember
      exact absurd hmember List.not_mem_nil
    · obtain ⟨hmem, hl⟩ := List.mem_filter.1 hmem
      rw [hx, horder.inj hmem hm (Nat.le_antisymm (hy x hmem (linkable_iff.1 hl)) (hle m hmember))]
  have hne : m.order ≠ e.order := fun ho => by
    obtain rfl := horder.inj hm he ho
    have hmark : m.kind = .mark := hq.1
    simp [hk] at hmark
  unfold completeEntry
  rw [findOrder_eq horder he]
  dsimp only
  rw [if_pos ⟨hs, hc⟩, if_pos hk]
  unfold linkDetail
  rw [filter_linkable_changeEntry horder he hk (f := fun x => { x with state := .complete }) fun _ => rfl, hyoungest]
  simp only [changeEntry, List.map_map]
  refine List.map_congr_left fun x _ => ?_
  dsimp only [Function.comp, linkedWith]
  by_cases ho : x.order = e.order
  · simp [ho, hne.symm]
  · by_cases hmo : x.order = m.order <;> simp [ho, hmo, hne]

/-- An entry that is not OPEN, or whose words are not all present, stays as it is (R57). -/
theorem completeEntry_waits {es : List Entry} (horder : InOrder es) {e : Entry} (he : e ∈ es)
    (h : e.state ≠ .opened ∨ e.copyComplete = false) : completeEntry e.order es = es := by
  unfold completeEntry
  rw [findOrder_eq horder he]
  rcases h with h | h <;> simp [h]

/-- What looking at an entry for its completion can do (R57, R65). -/
theorem completeEntry_cases {es : List Entry} (horder : InOrder es) {e : Entry} (he : e ∈ es) :
    completeEntry e.order es = es ∨
      (e.state = .opened ∧ completeEntry e.order es = changeEntry e.order (fun x => { x with state := .complete }) es) ∨
      ∃ m ∈ es, e.state = .opened ∧ e.kind = .detail ∧ Qualifies m e ∧ completeEntry e.order es = es.map (linkedWith m e) := by
  by_cases hs : e.state = .opened
  · cases hc : e.copyComplete with
    | false => exact .inl (completeEntry_waits horder he (.inr hc))
    | true =>
      refine .inr ?_
      by_cases hk : e.kind = .detail
      · rcases youngest_cases (es.filter (·.linkable e)) with ⟨-, hnil⟩ | ⟨m, -, hmem, hle⟩
        · refine .inl ⟨hs, completeEntry_unlinked horder he hs hc (.inr fun m hm hq => ?_)⟩
          have hmember : m ∈ es.filter (·.linkable e) := List.mem_filter.2 ⟨hm, linkable_iff.2 hq⟩
          rw [hnil] at hmember
          exact absurd hmember List.not_mem_nil
        · obtain ⟨hm, hl⟩ := List.mem_filter.1 hmem
          have hq := linkable_iff.1 hl
          refine .inr ⟨m, hm, hs, hk, hq, completeEntry_linked horder he hs hc hk hm hq fun m' hm' hq' => ?_⟩
          exact hle m' (List.mem_filter.2 ⟨hm', linkable_iff.2 hq'⟩)
      · exact .inl ⟨hs, completeEntry_unlinked horder he hs hc (.inl hk)⟩
  · exact .inl (completeEntry_waits horder he (.inl hs))

/-- An OPEN entry that becomes COMPLETE keeps links in pairs, for it has none (R57, R68). -/
theorem linksPaired_complete {es : List Entry} (horder : InOrder es) (h : LinksPaired es) {e : Entry} (he : e ∈ es)
    (hs : e.state = .opened) : LinksPaired (changeEntry e.order (fun x => { x with state := .complete }) es) := by
  intro y hy
  obtain ⟨x, hx, rfl⟩ := mem_changeEntry.1 hy
  have hstays {f : Entry} (hf : f ∈ es) {p : Nat} (hl : f.link = .entry p) :
      f ∈ changeEntry e.order (fun x => { x with state := .complete }) es := by
    refine mem_changeEntry.2 ⟨f, hf, if_neg fun ho => ?_⟩
    obtain rfl := horder.inj hf he ho
    simp [(h f hf).1 hs] at hl
  split
  next ho =>
    obtain rfl := horder.inj hx he ho
    have habsent := (h x hx).1 hs
    exact ⟨nofun, nofun, fun p hp => by simp [habsent] at hp⟩
  next ho =>
    obtain ⟨hopened, hdetached, hpartner⟩ := h x hx
    refine ⟨hopened, hdetached, fun p hp => ?_⟩
    obtain ⟨f, hf, hfo, hfl, hkinds⟩ := hpartner p hp
    exact ⟨f, hstays hf hfl, hfo, hfl, hkinds⟩

/-- A DETAIL and its MARK linked are a pair (R65). -/
theorem linksPaired_linked {es : List Entry} (horder : InOrder es) (h : LinksPaired es) {d m : Entry} (hd : d ∈ es) (hm : m ∈ es)
    (hs : d.state = .opened) (hk : d.kind = .detail) (hq : Qualifies m d) : LinksPaired (es.map (linkedWith m d)) := by
  obtain ⟨hmark, hfollows, hms, hml, -⟩ := hq
  have hne : d.order ≠ m.order := fun ho => by
    obtain rfl := horder.inj hd hm ho
    simp [hk] at hmark
  have hlinkedM : linkedWith m d m = { m with link := .entry d.order } := if_pos rfl
  have hlinkedD : linkedWith m d d = { d with state := .complete, link := .entry m.order } := by
    rw [linkedWith, if_neg hne, if_pos rfl]
  intro y hy
  obtain ⟨x, hx, rfl⟩ := List.mem_map.1 hy
  by_cases hxm : x.order = m.order
  · obtain rfl := horder.inj hx hm hxm
    rw [hlinkedM]
    refine ⟨fun ho => absurd ho hms, (h x hx).2.1, fun p hp => ?_⟩
    obtain rfl : d.order = p := by simpa using hp
    exact ⟨_, List.mem_map_of_mem hd, by rw [hlinkedD], by rw [hlinkedD], .inl ⟨hmark, hfollows, by rw [hlinkedD]; exact hk⟩⟩
  · by_cases hxd : x.order = d.order
    · obtain rfl := horder.inj hx hd hxd
      rw [hlinkedD]
      refine ⟨nofun, nofun, fun p hp => ?_⟩
      obtain rfl : m.order = p := by simpa using hp
      exact ⟨_, List.mem_map_of_mem hm, by rw [hlinkedM], by rw [hlinkedM],
        .inr ⟨hk, by rw [hlinkedM]; exact hmark, by rw [hlinkedM]; exact hfollows⟩⟩
    · have hsame {z : Entry} (hzm : z.order ≠ m.order) (hzd : z.order ≠ d.order) : linkedWith m d z = z := by
        rw [linkedWith, if_neg hzm, if_neg hzd]
      rw [hsame hxm hxd]
      obtain ⟨hopened, hdetached, hpartner⟩ := h x hx
      refine ⟨hopened, hdetached, fun p hp => ?_⟩
      obtain ⟨f, hf, hfo, hfl, hkinds⟩ := hpartner p hp
      have hfm : f.order ≠ m.order := fun ho => by
        obtain rfl := horder.inj hf hm ho
        simp [hml] at hfl
      have hfd : f.order ≠ d.order := fun ho => by
        obtain rfl := horder.inj hf hd ho
        simp [(h f hf).1 hs] at hfl
      exact ⟨f, List.mem_map.2 ⟨f, hf, hsame hfm hfd⟩, hfo, hfl, hkinds⟩

/-- A completion keeps the laws of the table (R57, R65). -/
theorem ResidenceTable.Laws.complete {t : ResidenceTable} (h : t.Laws) {e : Entry} (he : e ∈ t.entries) :
    ResidenceTable.Laws { t with entries := completeEntry e.order t.entries } := by
  obtain ⟨hordered, hlinks⟩ := h
  have horder := hordered.2.1
  rcases completeEntry_cases horder he with hsame | ⟨hs, hcomplete⟩ | ⟨m, hm, hs, hk, hq, hlinked⟩
  · rw [hsame]
    exact ⟨hordered, hlinks⟩
  · rw [hcomplete]
    exact ⟨hordered.sublist (by rw [changeEntry_orders _ (f := fun x => { x with state := .complete }) fun _ => rfl]),
      linksPaired_complete horder hlinks he hs⟩
  · rw [hlinked]
    refine ⟨hordered.sublist ?_, linksPaired_linked horder hlinks he hm hs hk hq⟩
    have horders : (linkedWith m e · |>.order) = (·.order) := by
      funext x
      unfold linkedWith
      split
      · rfl
      · split <;> rfl
    rw [List.map_map]
    exact (congrArg (List.map · t.entries) horders) ▸ List.Sublist.refl _

/-- A change of one entry's state to DETACHED, where it is a two-step MARK no longer OPEN, keeps the laws of the table (R66). -/
theorem ResidenceTable.Laws.detach {t : ResidenceTable} (h : t.Laws) {e : Entry} (he : e ∈ t.entries) (hd : e.detaches = true) :
    ResidenceTable.Laws { t with entries := changeEntry e.order (fun x => { x with state := .detached }) t.entries } := by
  obtain ⟨hordered, hlinks⟩ := h
  have hmark : e.kind = .mark ∧ e.detailFollows = true := by
    simp only [Entry.detaches, Bool.and_eq_true, beq_iff_eq] at hd
    exact ⟨hd.1.1.2, hd.1.2⟩
  refine ⟨hordered.sublist (by rw [changeEntry_orders _ (f := fun x => { x with state := .detached }) fun _ => rfl]), ?_⟩
  intro y hy
  obtain ⟨x, hx, rfl⟩ := mem_changeEntry.1 hy
  obtain ⟨hopened, hdetached, hpartner⟩ := hlinks x hx
  have hpair {o p : Nat} {k : FrameKind} {follows : Bool} (hl : ∃ f ∈ t.entries, f.order = o ∧ f.link = .entry p ∧
      ((k = .mark ∧ follows = true ∧ f.kind = .detail) ∨ (k = .detail ∧ f.kind = .mark ∧ f.detailFollows = true))) :
      ∃ f ∈ changeEntry e.order (fun x => { x with state := .detached }) t.entries, f.order = o ∧ f.link = .entry p ∧
      ((k = .mark ∧ follows = true ∧ f.kind = .detail) ∨ (k = .detail ∧ f.kind = .mark ∧ f.detailFollows = true)) := by
    obtain ⟨f, hf, hrest⟩ := hl
    refine ⟨_, mem_changeEntry.2 ⟨f, hf, rfl⟩, ?_⟩
    split <;> exact hrest
  split
  next ho =>
    obtain rfl := hordered.2.1.inj hx he ho
    exact ⟨nofun, fun _ => hmark, fun p hp => hpair (hpartner p hp)⟩
  next => exact ⟨hopened, hdetached, fun p hp => hpair (hpartner p hp)⟩

/-- A new entry, OPEN and without a link, keeps the laws of a table that has room (R54). -/
theorem ResidenceTable.Laws.append {t : ResidenceTable} (h : t.Laws) (hroom : t.entries.length < 64) {e : Entry}
    (ho : e.order = t.nextOrder) (hs : e.state = .opened) (hl : e.link = .absent) :
    ResidenceTable.Laws { entries := t.entries ++ [e], nextOrder := t.nextOrder + 1 } := by
  obtain ⟨⟨-, horder, hnext⟩, hlinks⟩ := h
  refine ⟨⟨by simp only [List.length_append, List.length_singleton]; omega, ?_, fun x hx => ?_⟩, fun x hx => ?_⟩
  · exact List.pairwise_append.2 ⟨horder, List.pairwise_singleton _ _, fun x hx y hy => by
      rw [List.mem_singleton.1 hy, ho]
      exact hnext x hx⟩
  · rcases List.mem_append.1 hx with hx | hx
    · exact Nat.lt_succ_of_lt (hnext x hx)
    · rw [List.mem_singleton.1 hx, ho]
      exact Nat.lt_succ_self _
  · rcases List.mem_append.1 hx with hx | hx
    · obtain ⟨hopened, hdetached, hpartner⟩ := hlinks x hx
      refine ⟨hopened, hdetached, fun p hp => ?_⟩
      obtain ⟨f, hf, hrest⟩ := hpartner p hp
      exact ⟨f, List.mem_append_left _ hf, hrest⟩
    · obtain rfl := List.mem_singleton.1 hx
      exact ⟨fun _ => hl, fun hd => by simp [hs] at hd, fun p hp => by simp [hl] at hp⟩

/-- What a word mirrored into an entry leaves (R56). -/
theorem keepsLink_mirror (n : Nat) (en : Enables) (w : Word) : KeepsLink (·.mirror n en w) := by
  constructor <;> intro e <;> dsimp only [Entry.mirror] <;> split <;> rfl

/-- What a slot of an entry leaves (R60). -/
theorem keepsLink_setSlot (q : Port) (x : Slot) : KeepsLink (·.setSlot q x) :=
  ⟨fun _ => rfl, fun _ => rfl, fun _ => rfl, fun _ => rfl, fun _ => rfl⟩

/-- A word mirrored into an entry, which may complete, keeps the laws of the table (R56, R57). -/
theorem ResidenceTable.Laws.mirror {t : ResidenceTable} (h : t.Laws) {e : Entry} (he : e ∈ t.entries) (n : Nat) (en : Enables)
    (w : Word) :
    ResidenceTable.Laws { t with entries := completeEntry e.order (changeEntry e.order (·.mirror n en w) t.entries) } := by
  have hmember : e.mirror n en w ∈ changeEntry e.order (·.mirror n en w) t.entries := mem_changeEntry.2 ⟨e, he, if_pos rfl⟩
  have horder := (keepsLink_mirror n en w).order e
  have hcomplete := (h.change e.order (keepsLink_mirror n en w)).complete hmember
  rwa [horder] at hcomplete

end Sys2Proof.Machine
end

section
/-! What a row does to the blocks: every row but those of the reset pin is a run of a few acts of the owners, between
moves of the arbiter and of the word that touch no block. A law of the part that each act keeps is kept by every row. -/

namespace Sys2Proof.Machine

/-! ## The acts -/

/-- The blocks of the part, the Report Writer apart. -/
def State.blocks (s : State) : WindowSet × Vector (Option Candidate) 7 × ResidenceTable × Vector PortDelay 6 × TimeBase ×
    Discipline × Vector CaptureInput 2 × Vector PulseOutput 4 × ProfileStore × CommandMonitor :=
  (s.decode, s.candidates, s.table, s.delays, s.time, s.disc, s.captures, s.pulses, s.profiles, s.monitor)

/-- Equal blocks are equal one by one. -/
theorem blocks_fields {s t : State} (h : t.blocks = s.blocks) :
    t.decode = s.decode ∧ t.candidates = s.candidates ∧ t.table = s.table ∧ t.delays = s.delays ∧ t.time = s.time ∧
    t.disc = s.disc ∧ t.captures = s.captures ∧ t.pulses = s.pulses ∧ t.profiles = s.profiles ∧ t.monitor = s.monitor := by
  simpa only [State.blocks, Prod.mk.injEq] using h

/-- Every flag raised in `s` is raised in `t`. -/
def FlagsStay (s t : State) : Prop := s.report.flags &&& t.report.flags = s.report.flags

/-- The laws that the counts and the Seen-Mark list of a Discipline Unit keep (R118, R123, R124). -/
abbrev Discipline.Counts (d : Discipline) : Prop :=
  d.lockCount < 8 ∧ d.rejectCount < 4 ∧ d.seen.length ≤ 8 ∧
  d.seen.Pairwise fun m n => ¬ (m.source = n.source ∧ m.sequence = n.sequence)

/-- What a row may do that no other row may: lower flags, step station time, write to a cell. -/
structure Powers where
  clears : Prop
  steps : Prop
  writes : Prop

/-- One act of an owner, of a row with powers `w`. -/
inductive Act (w : Powers) (s : State) : State → Prop
  | request (ks : List BlockKind) : Act w s (request ks s)
  | report (r : ReportWriter) (queue : r.queue = s.report.queue) (generations : r.generations = s.report.generations)
      (flags : w.clears ∨ s.report.flags &&& r.flags = s.report.flags) : Act w s (s.withReport r)
  | delays (x : Vector PortDelay 6) : Act w s (s.withDelays x)
  | captures (x : Vector CaptureInput 2) : Act w s (s.withCaptures x)
  | monitor (x : CommandMonitor) : Act w s (s.withMonitor x)
  | giveRho (r : Int) : Act w s (giveRho r s)
  | giveRhoI (r : Int) : Act w s (giveRhoI r s)
  | reanchor (sec : BitVec 32) : Act w s (s.withTime { s.time.reanchor with secondsSeen := sec })
  | stepClock (allowed : w.steps) (a : Int) : Act w s (s.withTime (s.time.step a))
  | disc (d : Discipline) (state : d.state = s.disc.state) (rhoI : d.rhoI = s.disc.rhoI)
      (counts : s.disc.Counts → d.Counts) : Act w s (s.withDisc d)
  | setDiscState (d : DisciplineState) : Act w s (setDiscState d s)
  | stepPulses : Act w s (stepPulses s)
  | leadPulse (n : Fin 4) : Act w s (leadPulse n s)
  | trailPulse (n : Fin 4) : Act w s (trailPulse n s)
  | exchange : Act w s (swapPulses s.bank (clampRates (swapDelays s.bank (decodeChange (exchangeBanks s)))))
  | swapRequest (r : SwapRequest) : Act w s (s.withProfiles { s.profiles with swap := r })
  | stage (p : Profile)
      (source : p = s.bank ∨ ∃ code n v x, writeItem code n v s.staged = some x ∧ x.value = p) : Act w s (setStaged p s)
  | decodeChange : Act w s (decodeChange s)
  | setSlot (o : Nat) (q : Port) (x : Slot) : Act w s (setSlot o q x s)
  | retire (o : Nat) : Act w s (setEntries (retireEntry o s.table.entries) s)
  | emptyTable : Act w s (emptyTable s)
  | dropCandidates : Act w s (dropCandidates s)
  | frames (allowed : w.writes) (x : ResidenceTable) (y : Vector (Option Candidate) 7) (laws : s.table.Laws → x.Laws) :
      Act w s ((s.withTable x).withCandidates y)

/-- A run of acts of a row with powers `w`. -/
abbrev Work (w : Powers) : State → State → Prop := Relation.ReflTransGen (Act w)

/-- One act is a run. -/
theorem Work.single {w : Powers} {s t : State} (h : Act w s t) : Work w s t := Relation.ReflTransGen.single h

/-- An act after a run. -/
theorem Work.act {w : Powers} {s t u : State} (h : Work w s t) (ha : Act w t u) : Work w s u := h.tail ha

/-- A run after a run. -/
theorem Work.trans {w : Powers} {s t u : State} (h : Work w s t) (hu : Work w t u) : Work w s u :=
  Relation.ReflTransGen.trans h hu

/-- A law that every act keeps is kept by a run. -/
theorem Work.keeps {w : Powers} {I : State → Prop} (hact : ∀ {s t}, Act w s t → I s → I t) {s t : State}
    (h : Work w s t) (hs : I s) : I t := by
  induction h with
  | refl => exact hs
  | tail _ ha ih => exact hact ha ih

/-! ## What every act does outside its own block -/

/-- An act touches nothing outside the blocks. -/
theorem Act.outside_eq {w : Powers} {s t : State} (h : Act w s t) : t.outside = s.outside := by
  cases h with
  | exchange =>
    simp only [swapPulses_outside, clampRates_outside, swapDelays_outside, decodeChange_outside, exchangeBanks_outside]
  | stage p => rfl
  | _ => simp

/-- A run of acts touches nothing outside the blocks. -/
theorem Work.outside_eq {w : Powers} {s t : State} (h : Work w s t) : t.outside = s.outside :=
  h.keeps (I := fun u => u.outside = s.outside) (fun ha hs => ha.outside_eq.trans hs) rfl

/-! ## The owners' operations as runs of acts -/

section
variable {w : Powers} (s : State)

/-- A raise sets its flag beside those that are set (R167). -/
theorem flags_and_or (x b : BitVec 16) : x &&& (x ||| b) = x := by
  ext i
  simp only [BitVec.getElem_and, BitVec.getElem_or]
  cases x[i] <;> rfl

theorem work_raise (f : Flag) : Work w s (raise f s) :=
  (Work.act .refl (.report { s.report with flags := s.report.flags ||| f.bit } rfl rfl (.inr (flags_and_or _ _)))).act
    (.request [.status])

theorem work_raiseIf (c : Bool) (f : Flag) : Work w s (raiseIf c f s) := by
  unfold raiseIf
  split
  · exact work_raise s f
  · exact .refl

theorem work_count (c : GlobalCounter) : Work w s (count c s) :=
  .single (.report _ rfl rfl (.inr BitVec.and_self))

theorem work_countPort (p : Port) (c : PortCounter) : Work w s (countPort p c s) :=
  .single (.report _ rfl rfl (.inr BitVec.and_self))

theorem work_setStatus (slot : Fin 16) (x : SlotStatus) : Work w s (setStatus slot x s) := .single (.monitor _)

/-! ### The Delay Unit -/

theorem work_setDelay (p : Port) (d : PortDelay) : Work w s (setDelay p d s) := .single (.delays _)

theorem work_settleDelay (p : Port) (d : PortDelay) : Work w s (settleDelay p d s) := by
  unfold settleDelay
  dsimp only
  split
  · exact (work_setDelay s p _).act (.request _)
  · exact work_setDelay s p _

theorem work_transmitHandoff (q : Port) (seq : BitVec 16) (t1 : Raw) : Work w s (transmitHandoff q seq t1 s) := by
  unfold transmitHandoff
  split
  · exact .refl
  · exact (work_setDelay s q _).trans (work_raiseIf _ _ _)

theorem work_rejectDelay (p : Port) (c : DelayClass) : Work w s (rejectDelay p c s) :=
  (work_countPort s p _).trans (work_raiseIf _ _ _)

theorem work_acceptDelay (p : Port) (x : Nat) : Work w s (acceptDelay p x s) :=
  (work_countPort s p .delayAccepted).trans (work_settleDelay _ p _)

theorem work_takeDelaySample (p : Port) (t1 t4 : Raw) (c : BitVec 64) : Work w s (takeDelaySample p t1 t4 c s) := by
  unfold takeDelaySample
  split
  · exact work_rejectDelay s p _
  · dsimp only
    split
    · exact work_acceptDelay s p _
    · exact work_rejectDelay s p _

theorem work_echoHandoff (p : Port) (seq : BitVec 16) (c : BitVec 64) (t4 : Raw) : Work w s (echoHandoff p seq c t4 s) := by
  unfold echoHandoff
  split
  · exact work_raise s _
  · exact (work_setDelay s p _).trans (work_takeDelaySample _ p _ t4 c)

theorem work_clearPorts (ps : List Port) : Work w s (clearPorts ps s) := by
  induction ps generalizing s with
  | nil => exact .refl
  | cons p ps ih => exact (work_settleDelay s p _).trans (ih _)

/-! ### The Discipline Unit -/

theorem work_startMissing : Work w s (startMissing s) := .single (.disc _ rfl rfl id)

/-- Counts set to 0 keep their laws. -/
theorem Discipline.Counts.zeroed {d : Discipline} (h : d.Counts) :
    Discipline.Counts { d with lockCount := 0, rejectCount := 0 } :=
  ⟨Nat.succ_pos _, Nat.succ_pos _, h.2.2⟩

theorem work_enterAcquire : Work w s (enterAcquire s) :=
  (Work.act .refl (.disc { s.disc with lockCount := 0, rejectCount := 0, holdover := none, missing := some s.time.raw } rfl rfl
    fun h => h.zeroed)).act (.setDiscState _)

theorem work_enterHoldover : Work w s (enterHoldover s) :=
  ((((Work.act .refl (.disc { s.disc with holdover := some s.time.raw } rfl rfl id)).act
    (.setDiscState .holdover)).act (.giveRho _)).trans (work_raise _ _))

theorem work_fallFreeRun : Work w s (fallFreeRun s) :=
  (((Work.act .refl (.disc { s.disc with holdover := none } rfl rfl id)).act (.setDiscState .freeRun)).trans
    (work_raise _ _))

theorem work_toldOfStep : Work w s (toldOfStep s) := by
  unfold toldOfStep
  split
  · exact .refl
  · exact work_enterAcquire s

/-- An emptied Seen-Mark list and counts of 0 keep the laws. -/
theorem Discipline.counts_of_empty {d : Discipline} (hl : d.lockCount < 8) (hr : d.rejectCount < 4) (hs : d.seen = []) :
    d.Counts := ⟨hl, hr, by simp [hs], by simp [hs]⟩

theorem work_disciplineOff : Work w s (disciplineOff s) :=
  (Work.act .refl (.disc
      { s.disc with source := .none, missing := none, holdover := none, seen := [], lockCount := 0, rejectCount := 0 } rfl rfl
    fun _ => Discipline.counts_of_empty (Nat.succ_pos _) (Nat.succ_pos _) rfl)).act (.setDiscState _)

theorem work_disciplineOn : Work w s (disciplineOn s) :=
  (Work.act .refl (.disc
      { s.disc with
        source := s.bank.discipline.mode.source, lockCount := 0, rejectCount := 0, missing := some s.time.raw } rfl rfl
    fun h => h.zeroed)).act (.setDiscState _)

theorem work_disciplineMode : Work w s (disciplineMode s) := by
  unfold disciplineMode
  dsimp only
  split
  · exact .refl
  · exact (Work.act .refl (.disc { s.disc with source := s.bank.discipline.mode.source } rfl rfl id)).trans
      (work_startMissing _)

theorem work_disciplineExpected : Work w s (disciplineExpected s) :=
  .single (.disc _ rfl rfl fun h => Discipline.counts_of_empty h.1 h.2.1 rfl)

theorem work_swapDiscipline (old : Profile) : Work w s (swapDiscipline old s) := by
  have hswitched : Work w s
      (if old.discipline.enable && !s.bank.discipline.enable then disciplineOff s
      else if !old.discipline.enable && s.bank.discipline.enable then disciplineOn s
      else if s.bank.discipline.enable && old.discipline.mode != s.bank.discipline.mode then disciplineMode s else s) := by
    split
    · exact work_disciplineOff s
    · split
      · exact work_disciplineOn s
      · split
        · exact work_disciplineMode s
        · exact .refl
  unfold swapDiscipline
  dsimp only
  split
  · exact hswitched
  · exact hswitched.trans (work_disciplineExpected _)

theorem work_restartDiscipline : Work w s (restartDiscipline s) := by
  refine Work.act ?_ (.setDiscState .freeRun)
  exact .single (.disc _ rfl rfl fun _ => Discipline.counts_of_empty (Nat.succ_pos _) (Nat.succ_pos _) rfl)

theorem work_expireMissing : Work w s (expireMissing s) := by
  unfold expireMissing
  dsimp only
  split
  · refine Work.trans ?_ (work_fallFreeRun _)
    exact .single (.disc _ rfl rfl id)
  · refine Work.trans ?_ (work_enterHoldover _)
    exact .single (.disc _ rfl rfl id)
  · exact .single (.disc _ rfl rfl id)
  · exact .single (.disc _ rfl rfl id)

/-! ### The swap, the rollover and the step -/

theorem work_rewriteSwapStatus (slot : Fin 16) (r : CommandResult) : Work w s (rewriteSwapStatus slot r s) := by
  unfold rewriteSwapStatus
  split
  · exact (work_setStatus s slot _).act (.request _)
  · exact .refl

theorem work_performSwap : Work w s (performSwap s) :=
  (Work.act .refl .exchange).trans (work_swapDiscipline _ _)

theorem work_swapAtRollover : Work w s (swapAtRollover s) := by
  unfold swapAtRollover
  split
  · exact (work_performSwap s).trans (work_rewriteSwapStatus _ _ _)
  · exact .refl

theorem work_swapAtEnd : Work w s (swapAtEnd s) := by
  unfold swapAtEnd
  split
  · exact work_performSwap s
  · exact .refl

theorem work_cancelSwap : Work w s (cancelSwap s) := by
  unfold cancelSwap
  split
  · exact ((Work.single (.swapRequest .none)).act (.request [.status])).trans (work_rewriteSwapStatus _ _ _)
  · exact .refl

theorem work_giveRollover : Work w s (giveRollover s) :=
  ((Work.single (.reanchor s.now.sec)).act (.request rolloverBlocks)).trans (work_swapAtRollover _)

/-- The laws of the Seen-Mark list speak of source and sequence alone. -/
theorem Discipline.Counts.mapSeen {d : Discipline} (h : d.Counts) {f : SeenMark → SeenMark}
    (hf : ∀ m, (f m).source = m.source ∧ (f m).sequence = m.sequence) :
    Discipline.Counts { d with seen := d.seen.map f } := by
  obtain ⟨hl, hr, hlen, hp⟩ := h
  refine ⟨hl, hr, by simpa using hlen, List.pairwise_map.2 ?_⟩
  simpa only [(hf _).1, (hf _).2] using hp

theorem work_shiftWaiting (a : Int) : Work w s (shiftWaiting a s) :=
  .single (.disc _ rfl rfl fun h => h.mapSeen fun m => by split <;> exact ⟨rfl, rfl⟩)

theorem work_stepTime (allowed : w.steps) (a : Int) : Work w s (stepTime a s) := by
  have hmoved : Work w s (shiftWaiting a (raise .stepped (s.withTime (s.time.step a)))) :=
    ((Work.single (.stepClock allowed a)).trans (work_raise _ _)).trans (work_shiftWaiting _ a)
  unfold stepTime
  dsimp only
  split
  · exact (hmoved.trans (work_giveRollover _)).act .stepPulses
  · exact hmoved.act .stepPulses

/-! ### Samples -/

theorem work_piUpdate (theta : Int) : Work w s (piUpdate theta s) :=
  (Work.single (.giveRhoI _)).act (.giveRho _)

theorem work_recordSample (c : SampleClass) (theta : Int) (o : SampleOrigin) : Work w s (recordSample c theta o s) :=
  .single (.disc _ rfl rfl id)

theorem work_rejectUnordered (o : SampleOrigin) : Work w s (rejectUnordered o s) :=
  ((work_recordSample s _ _ o).trans (work_count _ _)).trans (work_raiseIf _ _ _)

theorem work_setLockCount (n : Nat) : Work w s (setLockCount n s) := by
  unfold setLockCount
  split
  · refine Work.act ?_ (.setDiscState .locked)
    exact .single (.disc _ rfl rfl fun h => h.zeroed)
  next hn => exact .single (.disc _ rfl rfl fun h => ⟨Nat.lt_of_not_le hn, h.2⟩)

theorem work_addReject : Work w s (addReject s) := by
  unfold addReject
  split
  · exact work_enterAcquire s
  next hn => exact .single (.disc _ rfl rfl fun h => ⟨h.1, Nat.lt_of_not_le hn, h.2.2⟩)

theorem work_answerAcquire (allowed : w.steps) (theta : Int) (o : SampleOrigin) : Work w s (answerAcquire theta o s) := by
  unfold answerAcquire
  dsimp only
  split
  · exact (((Work.single (.disc { s.disc with lockCount := 0 } rfl rfl fun h => ⟨Nat.succ_pos _, h.2⟩)).trans
      (work_recordSample _ _ _ _)).trans (work_count _ _)).trans (work_stepTime _ allowed _)
  · exact (((work_piUpdate s theta).trans (work_recordSample _ _ _ _)).trans (work_count _ _)).trans (work_setLockCount _ _)

theorem work_answerLocked (theta : Int) (o : SampleOrigin) : Work w s (answerLocked theta o s) := by
  unfold answerLocked
  dsimp only
  split
  · exact (((work_piUpdate s theta).trans (work_recordSample _ _ _ _)).trans (work_count _ _)).trans
      (.single (.disc _ rfl rfl fun h => ⟨h.1, Nat.succ_pos _, h.2.2⟩))
  · exact ((((work_recordSample s _ _ _).trans (work_count _ _)).trans (work_raise _ _))).trans (work_addReject _)

theorem work_answerValue (allowed : w.steps) (theta : Int) (o : SampleOrigin) : Work w s (answerValue theta o s) := by
  unfold answerValue
  split
  · exact (work_enterAcquire s).trans (work_answerAcquire _ allowed _ _)
  · exact work_answerAcquire s allowed _ _
  · exact work_answerLocked s _ _
  · exact (work_enterAcquire s).trans (work_answerAcquire _ allowed _ _)

theorem work_answerUnordered (o : SampleOrigin) : Work w s (answerUnordered o s) := by
  unfold answerUnordered
  split
  · exact work_rejectUnordered s o
  · exact (work_rejectUnordered s o).trans (.single (.disc _ rfl rfl fun h => ⟨Nat.succ_pos _, h.2⟩))
  · exact (work_rejectUnordered s o).trans (work_addReject _)
  · exact work_rejectUnordered s o

theorem work_takeSample (allowed : w.steps) (theta : Option Int) (o : SampleOrigin) : Work w s (takeSample theta o s) := by
  have hstarted (x : ActiveSource) : Work w s (startMissing (s.withDisc { s.disc with source := x })) :=
    (Work.single (.disc { s.disc with source := x } rfl rfl id)).trans (work_startMissing _)
  unfold takeSample
  dsimp only
  split
  · exact work_count s _
  · split
    · exact (hstarted _).trans (work_answerValue _ allowed _ _)
    · exact (hstarted _).trans (work_answerUnordered _ _)

/-- A record of a source and sequence that is not listed joins the Seen-Mark list (R118). -/
theorem Discipline.Counts.joinSeen {d : Discipline} (h : d.Counts) {m : SeenMark}
    (hm : ∀ x ∈ d.seen, ¬ (x.source = m.source ∧ x.sequence = m.sequence)) :
    Discipline.Counts { d with seen := joinSeen d.seen m } := by
  obtain ⟨hl, hr, hlen, hp⟩ := h
  unfold Machine.joinSeen seenCapacity
  refine ⟨hl, hr, ?_, ?_⟩
  · dsimp only
    split <;> simp only [List.length_append, List.length_drop, List.length_singleton] <;> omega
  · dsimp only
    rw [List.pairwise_append]
    split
    · exact ⟨hp.sublist (List.drop_sublist _ _), List.pairwise_singleton _ _,
        fun x hx y hy => List.mem_singleton.1 hy ▸ hm x (List.mem_of_mem_drop hx)⟩
    · exact ⟨hp, List.pairwise_singleton _ _, fun x hx y hy => List.mem_singleton.1 hy ▸ hm x hx⟩

/-- A Seen-Mark record is of this source and sequence (R118). -/
theorem SeenMark.names_iff {m : SeenMark} {src : Ident} {seq : BitVec 16} :
    m.names src seq = true ↔ m.source = src ∧ m.sequence = seq := by
  simp [SeenMark.names]

theorem work_takeMark (allowed : w.steps) (m : NetworkHandoff) : Work w s (takeMark m s) := by
  unfold takeMark
  dsimp only
  split
  · exact work_count s _
  next hnew =>
    have hjoined : Work w s (s.withDisc { s.disc with seen := joinSeen s.disc.seen (newSeenMark m s) }) :=
      .single (.disc _ rfl rfl fun h => h.joinSeen fun x hx hs =>
        hnew (List.any_eq_true.2 ⟨x, hx, SeenMark.names_iff.2 hs⟩))
    split
    · exact hjoined
    · exact hjoined.trans (work_takeSample _ allowed _ _)

theorem work_takeDetail (allowed : w.steps) (m : NetworkHandoff) : Work w s (takeDetail m s) := by
  unfold takeDetail
  split
  · exact .refl
  · refine Work.trans ?_ (work_takeSample _ allowed _ _)
    exact .single (.disc _ rfl rfl fun h => h.mapSeen fun m => by split <;> exact ⟨rfl, rfl⟩)

theorem work_takeHandoff (allowed : w.steps) (m : NetworkHandoff) : Work w s (takeHandoff m s) := by
  unfold takeHandoff
  split
  · exact work_takeDetail s allowed m
  · exact work_takeMark s allowed m

theorem work_networkHandoff (allowed : w.steps) (m : NetworkHandoff) : Work w s (networkHandoff m s) := by
  have htested : Work w s (testSource m s) := by
    unfold testSource
    dsimp only
    split
    · split
      · exact work_takeHandoff s allowed m
      · exact work_raise s _
    · split
      · split
        · exact .refl
        · exact (Work.single (.disc { s.disc with latched := some m.source } rfl rfl id)).trans
            (work_takeHandoff _ allowed m)
      · split
        · exact work_takeHandoff s allowed m
        · exact work_raise s _
  unfold networkHandoff
  split
  · exact .refl
  · split
    · exact htested
    · exact .refl

theorem work_capture (allowed : w.steps) (n : Fin 2) : Work w s (capture n s) := by
  have hcaptured (x : Vector CaptureInput 2) (c : Bool) :
      Work w s (request [.captures] (raiseIf c .captureOverrun (s.withCaptures x))) :=
    ((Work.single (.captures x)).trans (work_raiseIf _ c _)).act (.request [.captures])
  unfold capture inputHandoff
  dsimp only
  split
  · split
    · exact (hcaptured _ _).trans (work_takeSample _ allowed _ _)
    · exact hcaptured _ _
  · exact hcaptured _ _

theorem work_takeEdge (allowed : w.steps) (n : Fin 2) : Work w s (takeEdge n s) := by
  have hrecorded : Work w s (recordLevel n (activeLevelOf n s) s) := .single (.captures _)
  unfold takeEdge
  dsimp only
  split
  · exact hrecorded.trans (work_capture _ allowed n)
  · exact hrecorded

/-! ### Egress reads -/

theorem work_setSlot (o : Nat) (q : Port) (x : Slot) : Work w s (setSlot o q x s) := .single (.setSlot o q x)

theorem work_passSlot (e : Entry) (q : Port) (r : Option Raw) (f : Flag) : Work w s (passSlot e q r f s) :=
  ((work_setSlot s _ q _).trans (work_countPort _ _ _)).trans (work_raise _ _)

theorem work_patchSlot (e : Entry) (q : Port) (r : Raw) (c : Computed) : Work w s (patchSlot e q r c s) :=
  (((work_setSlot s _ q _).trans (work_countPort _ _ _)).trans (work_raiseIf _ _ _)).trans (work_raiseIf _ _ _)

theorem work_computeSlot (e : Entry) (q : Port) (rawOut : Raw) (c : BitVec 64) : Work w s (computeSlot e q rawOut c s) := by
  unfold computeSlot
  dsimp only
  split
  · exact .refl
  · split
    · exact work_setSlot s _ q _
    · exact work_patchSlot s _ _ _ _
  · split
    · exact work_passSlot s _ _ _ _
    · exact work_patchSlot s _ _ _ _
  · split
    · exact work_passSlot s _ _ _ _
    · exact (work_patchSlot s _ _ _ _).trans (work_setDelay _ _ _)

theorem work_settleSlot (e : Entry) (q : Port) : Work w s (settleSlot e q s) := by
  unfold settleSlot
  split
  · exact .refl
  · split
    · exact work_passSlot s _ _ _ _
    · split
      · exact work_passSlot s _ _ _ _
      · exact work_computeSlot s _ _ _ _
    · exact .refl

theorem work_timeSlot (e : Entry) (q : Port) : Work w s (timeSlot e q s) := by
  unfold timeSlot
  dsimp only
  split
  · exact (work_setSlot s _ q _).trans (work_transmitHandoff _ _ _ _)
  · exact work_setSlot s _ q _

theorem work_egressRead (k : CellKey) (n : Nat) (q : Port) : Work w s (egressRead k n q s) := by
  unfold egressRead
  split
  · exact .refl
  · split
    · exact work_timeSlot s _ q
    · split
      · exact work_settleSlot s _ q
      · exact .refl

/-! ### Cell writes -/

theorem work_setEntries (allowed : w.writes) {es : List Entry}
    (laws : s.table.Laws → ResidenceTable.Laws { s.table with entries := es }) : Work w s (setEntries es s) :=
  .single (.frames allowed { s.table with entries := es } s.candidates laws)

theorem work_setCandidate (allowed : w.writes) (n : Fin 7) (c : Option Candidate) : Work w s (setCandidate n c s) :=
  .single (.frames allowed s.table (s.candidates.set n c) id)

theorem work_allocate (allowed : w.writes) (r : AllocationRequest) : Work w s (allocate r s) := by
  unfold allocate
  dsimp only
  split
  next hroom =>
    have hentered : Work w s (s.withTable
        { entries := completeEntry (newEntry r s).order (s.table.entries ++ [newEntry r s]),
          nextOrder := s.table.nextOrder + 1 }) :=
      .single (.frames allowed _ s.candidates fun h =>
        (h.append (e := newEntry r s) hroom rfl rfl rfl).complete (List.mem_append_right _ (List.mem_singleton_self _)))
    cases r.origin with
    | processor => exact hentered
    | ingress p => exact hentered.trans (work_countPort _ p _)
  · exact (work_count s _).trans (work_raise _ _)

theorem work_completionHandoffs (allowed : w.steps) (o : Origin) (k : FrameKind) (c : Candidate) (h : Nat) :
    Work w s (completionHandoffs o k c h s) := by
  cases o with
  | processor => exact .refl
  | ingress p =>
    unfold completionHandoffs
    cases k with
    | mark =>
      dsimp only
      split
      · exact work_networkHandoff s allowed _
      · exact .refl
    | detail =>
      dsimp only
      split
      · exact work_networkHandoff s allowed _
      · exact .refl
    | probe =>
      dsimp only
      split
      · exact work_setDelay s _ _
      · exact .refl
    | echo =>
      dsimp only
      split
      · exact work_echoHandoff s _ _ _ _
      · exact .refl

theorem work_decideType (writes : w.writes) (n : Fin 7) (c : Candidate) : Work w s (decideType n c s).1 := by
  unfold decideType
  split
  · exact .refl
  · split
    · exact .refl
    · exact work_setCandidate s writes n _
    · exact work_setCandidate s writes n _

theorem work_decideAllocation (writes : w.writes) (n : Fin 7) (c : Candidate) : Work w s (decideAllocation n c s).1 := by
  have hset (x : Option Candidate) : Work w s (setCandidate n x s) := work_setCandidate s writes n x
  unfold decideAllocation
  split
  · exact .refl
  · dsimp only
    split
    · exact .refl
    · split
      · exact (hset _).trans (work_count _ _)
      · split
        · exact hset _
        · split
          · exact hset _
          · exact hset _
          · exact (hset _).trans (work_allocate _ writes _)

theorem work_decideCompletion (steps : w.steps) (writes : w.writes) (n : Fin 7) (c : Candidate) :
    Work w s (decideCompletion n c s) := by
  unfold decideCompletion
  split
  · dsimp only
    split
    · exact .refl
    · split
      · exact (work_setCandidate s writes n _).trans (work_completionHandoffs _ steps _ _ _ _)
      · exact .refl
  · exact .refl

theorem work_takeDecisions (steps : w.steps) (writes : w.writes) (n : Fin 7) (c : Candidate) :
    Work w s (takeDecisions n c s) := by
  have htype := work_decideType s writes n c
  unfold takeDecisions
  split
  next ht =>
    rw [ht] at htype
    exact htype
  next u d ht =>
    rw [ht] at htype
    have halloc := htype.trans (work_decideAllocation u writes n d)
    split
    next ha =>
      rw [ha] at halloc
      exact halloc
    next ha =>
      rw [ha] at halloc
      exact halloc.trans (work_decideCompletion _ steps writes n _)

theorem work_captureWrite (steps : w.steps) (writes : w.writes) (k : CellKey) (n : Nat) (en : Enables) (data : Word)
    (m : Fin 7) : Work w s (captureWrite k n en data s m) := by
  unfold captureWrite
  split
  · exact .refl
  · split
    · exact (work_setCandidate s writes m _).trans (work_takeDecisions _ steps writes m _)
    · exact .refl

theorem work_openWrite (writes : w.writes) (k : CellKey) (l : LaneClass) (en : Enables) (data : Word) :
    Work w s (openWrite k l en data s) := by
  have hdropped : Work w s (dropOthers k l.candidate s) := .single (.frames writes s.table _ id)
  unfold openWrite
  dsimp only
  split
  · exact hdropped
  · split
    · exact hdropped.trans (work_setCandidate _ writes _ _)
    · exact hdropped

theorem work_cellWrite (steps : w.steps) (writes : w.writes) (k : CellKey) (n : Nat) (l : LaneClass) (en : Enables)
    (data : Word) : Work w s (cellWrite k n l en data s) := by
  have hlanes (ns : List (Fin 7)) : ∀ u, Work w u (ns.foldl (captureWrite k n en data) u) := by
    induction ns with
    | nil => exact fun _ => .refl
    | cons m ns ih => exact fun u => (work_captureWrite u steps writes k n en data m).trans (ih _)
  unfold cellWrite
  split
  · have hrewritten : Work w s (rewriteCell k s) := by
      unfold rewriteCell
      split
      · exact .refl
      next e hfound =>
        refine (work_setEntries s writes fun h => ?_).trans (work_count _ _)
        split
        next hdetaches => exact h.detach (findLive_some hfound).1 hdetaches
        next => exact h.retire e.order
    exact hrewritten.trans (work_openWrite _ writes k l en data)
  · have hmirrored : Work w s (mirrorWrite k n en data s) := by
      unfold mirrorWrite
      split
      · exact .refl
      next hfound => exact work_setEntries s writes fun h => h.mirror (findLive_some hfound).1 n en data
    exact hmirrored.trans (hlanes allLanes _)

end

end Sys2Proof.Machine
end

section
/-! What a row does as a whole: an access arrives, a word passes, an access or a burst ends, an event happens, each with the
owners' acts of before; and what a step does beyond rows: a tick, or rest. -/

namespace Sys2Proof.Machine

/-- What row `i` may do that other rows may not: FLAG_CLEAR lowers flags; the time commands, and the rows that can bring a
sample, step station time; a cell write writes to a cell. -/
def powersOf (i : Instr) : Powers where
  clears := ∃ x y, i = .flagClear x y
  steps := (∃ x y, i = .timeSet x y) ∨ (∃ x y, i = .timeStep x y) ∨ (∃ x y, i = .captureTest x y) ∨
    (∃ n, i = .activeEdge n) ∨ ∃ x y, i = .cellWordWrite x y
  writes := ∃ x y, i = .cellWordWrite x y

/-- FLAG_CLEAR lowers flags (R169). -/
theorem clears_flagClear (tag : BitVec 8) (imm : BitVec 16) : (powersOf (.flagClear tag imm)).clears := ⟨_, _, rfl⟩

/-- TIME_SET steps station time (R48). -/
theorem steps_timeSet (tag : BitVec 8) (imm : BitVec 16) : (powersOf (.timeSet tag imm)).steps := Or.inl ⟨_, _, rfl⟩

/-- TIME_STEP steps station time (R49). -/
theorem steps_timeStep (tag : BitVec 8) (imm : BitVec 16) : (powersOf (.timeStep tag imm)).steps :=
  Or.inr (.inl ⟨_, _, rfl⟩)

/-- CAPTURE_TEST can bring a sample that steps station time (R141). -/
theorem steps_captureTest (tag : BitVec 8) (imm : BitVec 16) : (powersOf (.captureTest tag imm)).steps :=
  Or.inr (.inr (.inl ⟨_, _, rfl⟩))

/-- ACTIVE_EDGE can bring a sample that steps station time (R137). -/
theorem steps_activeEdge (n : Fin 2) : (powersOf (.activeEdge n)).steps := Or.inr (.inr (.inr (.inl ⟨_, rfl⟩)))

/-- A cell write can bring a sample that steps station time (R34). -/
theorem steps_cellWordWrite (en : Enables) (data : Word) : (powersOf (.cellWordWrite en data)).steps :=
  Or.inr (.inr (.inr (.inr ⟨_, _, rfl⟩)))

/-- State `t` is state `s` after one word passed as a write or a read (R3). -/
inductive Passes (s : State) : State → Prop
  | write (a : WordAddress) (en : Enables) (data : Word) : Passes s (passWrite a en data s)
  | read (a : WordAddress) (data : Word) : Passes s (passRead a data s)

/-- What a row other than those of the reset pin does. -/
inductive Does (i : Instr) (s : State) : State → Prop
  | nothing : Does i s s
  | arrives (a : Access) (short : 1 ≤ a.length ∧ a.length ≤ 16) (new : a.passed = 0 ∧ a.passThrough = false) :
      Does i s (presentAccess a s)
  | word (row : wordRow i = true) {a : Access} {u v t : State} (next : s.wordAccess = some a) (before : Work (powersOf i) s u) (passes : Passes u v)
      (after : Work (powersOf i) v t) : Does i s t
  | accessEnds (a : Access) (current : s.arbiter.current = some a) : Does i s (endAccess s)
  | burstEnds (row : i = .reportBurstEnd) (b : Burst) (burst : s.arbiter.burst = some b) : Does i s (endBurst b s)
  | event {u : State} (released : s.resetHeld = false) (acts : Work (powersOf i) s u) : Does i s (grantIfFree u)

/-- The row of a word goes on with the access that has a word to pass, as that word's route says. -/
theorem route_some {s : State} {en : Enables} {a : Access} {r : Route} (h : s.route en = some (a, r)) :
    s.wordAccess = some a ∧
      (a.direction = .write ∧ r = s.writeRoute a en ∨ a.direction = .read ∧ r = s.readRoute a) := by
  unfold State.route at h
  split at h
  · cases h
  next b hb =>
    split at h <;> cases h
    · exact ⟨hb, .inl ⟨‹_›, rfl⟩⟩
    · exact ⟨hb, .inr ⟨‹_›, rfl⟩⟩

/-- A command is taken at a word whose route is that of a slot (R165). -/
theorem commandTaken_some {s : State} {a : Access} {slot : Fin 16} (h : commandTaken s = some (a, slot)) :
    s.route 0b1111 = some (a, .command slot) := by
  unfold commandTaken at h
  split at h
  next hr =>
    obtain ⟨rfl, rfl⟩ : _ = a ∧ _ = slot := by simpa using h
    exact hr
  next => cases h

/-- Where no command is taken a command row does nothing (log 8). -/
theorem takeCommand_none {s : State} (h : commandTaken s = none) (code tag : BitVec 8) (imm : BitVec 16)
    (act : Fin 16 → State → State × CommandResult) : takeCommand code tag imm act s = s := by
  unfold takeCommand
  rw [h]

/-- Where one is taken, its word passes, its owner acts and its slot is answered (R165). -/
theorem takeCommand_some {s : State} {a : Access} {slot : Fin 16} (h : commandTaken s = some (a, slot)) (code tag : BitVec 8)
    (imm : BitVec 16) (act : Fin 16 → State → State × CommandResult) :
    takeCommand code tag imm act s =
      finishCommand slot code tag (act slot (passWrite a.next 0b1111 (commandWord code tag imm) s)) := by
  unfold takeCommand
  rw [h]

/-- A command's slot is answered after its owner's act (R165). -/
theorem work_finishCommand {w : Powers} (slot : Fin 16) (code tag : BitVec 8) (x : State × CommandResult) :
    Work w x.1 (finishCommand slot code tag x) :=
  (work_setStatus x.1 slot _).act (.request _)

/-- A command is the word of a fabric access (R2). -/
theorem wordRow_of_command {i : Instr} (hi : i.commandCode.isSome = true) : wordRow i = true := by
  cases i with
  | fabricWordPass | shadowWrite | cellWordWrite | cellWordRead => rfl
  | _ => exact hi

/-- A command whose owner's act is a run of acts. -/
theorem does_takeCommand {i : Instr} (code tag : BitVec 8) (imm : BitVec 16) {act : Fin 16 → State → State × CommandResult}
    (hi : i.commandCode.isSome = true) (hact : ∀ slot u, Work (powersOf i) u (act slot u).1) (s : State) :
    Does i s (takeCommand code tag imm act s) := by
  cases h : commandTaken s with
  | none => rw [takeCommand_none h]; exact .nothing
  | some x =>
    obtain ⟨a, slot⟩ := x
    rw [takeCommand_some h]
    exact .word (wordRow_of_command hi) (route_some (commandTaken_some h)).1 .refl (.write _ _ _)
      ((hact slot _).trans (work_finishCommand slot code tag _))

/-- An event whose own work is a run of acts. -/
theorem does_happens {i : Instr} (c : Bool) {f : State → State} {s : State} (hf : Work (powersOf i) s (f s)) :
    Does i s (happens c f s) := by
  unfold happens
  split
  next h => exact .event (by simpa using (Bool.and_eq_true_iff.1 h).1) hf
  next => exact .nothing

/-! ## The commands' owners -/

section
variable {w : Powers} (s : State)

theorem work_timeSet (allowed : w.steps) (slot : Fin 16) : Work w s (timeSet slot s).1 :=
  (work_stepTime s allowed _).trans (work_toldOfStep _)

theorem work_timeStep (allowed : w.steps) (imm : BitVec 16) (slot : Fin 16) : Work w s (timeStep imm slot s).1 :=
  (work_stepTime s allowed _).trans (work_toldOfStep _)

theorem work_rateSet (slot : Fin 16) : Work w s (rateSet slot s).1 := by
  unfold rateSet
  split
  · exact .refl
  · exact (Work.single (.giveRho _)).act (.giveRhoI _)

theorem work_relatch : Work w s (relatch s) :=
  .single (.disc _ rfl rfl fun h => Discipline.counts_of_empty h.1 h.2.1 rfl)

theorem work_setHold (on : Bool) : Work w s (setHold on s) := by
  have hset : Work w s (s.withDisc { s.disc with hold := on }) := .single (.disc _ rfl rfl id)
  unfold setHold
  dsimp only
  split
  · exact hset.trans (work_enterHoldover _)
  · exact hset

theorem work_acknowledge (mask : BitVec 16) : Work w s (acknowledge mask s) := by
  unfold acknowledge
  dsimp only
  split
  · exact (Work.single (.captures _)).act (.request _)
  · exact .single (.captures _)

theorem work_profileWrite (slot : Fin 16) : Work w s (profileWrite slot s).1 := by
  unfold profileWrite
  split
  · exact .refl
  · dsimp only
    split
    · exact .refl
    next x hx => exact .single (.stage x.value (.inr ⟨_, _, _, x, hx, rfl⟩))

theorem work_profileCopy : Work w s (profileCopy s).1 := by
  unfold profileCopy
  split
  · exact .refl
  · exact .single (.stage _ (.inl rfl))

theorem work_requestSwap (r : SwapRequest) (x : CommandResult) : Work w s (requestSwap r x s).1 := by
  unfold requestSwap
  split
  · exact .refl
  · exact (Work.single (.swapRequest r)).act (.request _)

theorem work_profileCancel : Work w s (profileCancel s).1 := by
  unfold profileCancel
  split
  · exact work_cancelSwap s
  · exact .refl
  · exact .refl

theorem work_clearFlags (allowed : w.clears) (mask : BitVec 16) : Work w s (clearFlags mask s) :=
  (Work.single (.report { s.report with flags := s.report.flags &&& ~~~mask } rfl rfl (.inl allowed))).act (.request [.status])

theorem work_enableFlags (mask : BitVec 16) : Work w s (enableFlags mask s) :=
  (Work.single (.report { s.report with enables := mask } rfl rfl (.inr BitVec.and_self))).act (.request [.status])

theorem work_clearCounters : Work w s (clearCounters s) := .single (.report _ rfl rfl (.inr BitVec.and_self))

theorem work_restartPart : Work w s (restartPart s) := by
  have hemptied : Work w s (emptyTable (dropCandidates (request allBlocks s))) :=
    ((Work.single (.request allBlocks)).act .dropCandidates).act .emptyTable
  have hcancelled := ((hemptied.trans (work_clearPorts _ allPorts)).trans (work_restartDiscipline _)).trans (work_cancelSwap _)
  exact hcancelled.trans (work_clearCounters _)

end

/-! ## Every row -/

/-- A next state that is what a row does. -/
theorem does_of_next {i : Instr} {s t u : State} (h : Host.Outcome.next (φ := Fault) (ρ := Refusal) u = .next t)
    (hu : Does i s u) : Does i s t := Host.Outcome.next.inj h ▸ hu

/-- FABRIC_WORD_PASS (R3). -/
theorem does_fabricWordPass {en : Enables} {data : Word} {s t : State} (h : execFabricWordPass en data s = .next t) :
    Does (.fabricWordPass en data) s t := by
  unfold execFabricWordPass at h
  split at h
  next a hr =>
    refine does_of_next h (.word rfl (route_some hr).1 .refl (v := passPlain a en data s) ?_ .refl)
    unfold passPlain
    split
    · exact .write _ _ _
    · exact .read _ _
  next => exact does_of_next h .nothing

/-- SHADOW_WRITE (R164). -/
theorem does_shadowWrite {en : Enables} {data : Word} {s t : State} (h : execShadowWrite en data s = .next t) :
    Does (.shadowWrite en data) s t := by
  unfold execShadowWrite at h
  split at h
  next hr => exact does_of_next h (.word rfl (route_some hr).1 .refl (.write _ _ _) (.single (.monitor _)))
  next => exact does_of_next h .nothing

/-- CELL_WORD_WRITE (R5). -/
theorem does_cellWordWrite {en : Enables} {data : Word} {s t : State} (h : execCellWordWrite en data s = .next t) :
    Does (.cellWordWrite en data) s t := by
  unfold execCellWordWrite at h
  split at h
  next hr =>
    exact does_of_next h (.word rfl (route_some hr).1 .refl (.write _ _ _)
      (work_cellWrite _ (steps_cellWordWrite _ _) ⟨_, _, rfl⟩ _ _ _ _ _))
  next => exact does_of_next h .nothing

/-- CELL_WORD_READ (R61). -/
theorem does_cellWordRead {s t : State} (h : execCellWordRead s = .next t) : Does .cellWordRead s t := by
  unfold execCellWordRead at h
  split at h
  next hr => exact does_of_next h (.word rfl (route_some hr).1 (work_egressRead s _ _ _) (.read _ _) .refl)
  next => exact does_of_next h .nothing

/-- Row `i` takes the command that word `w` spells, its owner's act a run of acts. -/
structure TakesCommand (i : Instr) (w : Word) (code tag : BitVec 8) (imm : BitVec 16)
    (act : Fin 16 → State → State × CommandResult) : Prop where
  word : w = commandWord code tag imm
  works : ∀ slot u, Work (powersOf i) u (act slot u).1
  takes : ∀ s, exec i s = .next (takeCommand code tag imm act s)

/-- A command row takes the command of its word; one that no word spells does nothing (R165; log 8). -/
theorem exec_command {i : Instr} (hi : i.commandCode.isSome = true) :
    (∃ w code tag imm act, commandWordOf i = some w ∧ TakesCommand i w code tag imm act) ∨
      (commandWordOf i = none ∧ ∀ s, exec i s = .next s) := by
  cases i with
  | timeSet tag imm =>
    exact .inl ⟨_, 0x01, tag, imm, timeSet, rfl, rfl,
      fun slot u => work_timeSet u (steps_timeSet tag imm) slot, fun _ => rfl⟩
  | timeStep tag imm =>
    exact .inl ⟨_, 0x02, tag, imm, (timeStep imm), rfl, rfl,
      fun slot u => work_timeStep u (steps_timeStep tag imm) imm slot, fun _ => rfl⟩
  | rateSet tag imm => exact .inl ⟨_, 0x03, tag, imm, rateSet, rfl, rfl, fun slot u => work_rateSet u slot, fun _ => rfl⟩
  | tableFlush tag imm =>
    exact .inl ⟨_, 0x10, tag, imm, (fun _ s => (emptyTable s, .done)), rfl, rfl,
      fun _ _ => .single .emptyTable, fun _ => rfl⟩
  | pathClear tag imm =>
    exact .inl ⟨_, 0x20, tag, imm, (fun _ s => (clearPorts (maskPorts imm) s, .done)), rfl, rfl,
      fun _ u => work_clearPorts u _, fun _ => rfl⟩
  | disciplineRelatch tag imm =>
    exact .inl ⟨_, 0x30, tag, imm, (fun _ s => (relatch s, .done)), rfl, rfl,
      fun _ u => work_relatch u, fun _ => rfl⟩
  | disciplineHold tag imm =>
    exact .inl ⟨_, 0x31, tag, imm, (fun _ s => (setHold (imm.getLsbD 0) s, .done)), rfl, rfl,
      fun _ u => work_setHold u _, fun _ => rfl⟩
  | captureAck tag imm =>
    exact .inl ⟨_, 0x40, tag, imm, (fun _ s => (acknowledge imm s, .done)), rfl, rfl,
      fun _ u => work_acknowledge u imm, fun _ => rfl⟩
  | captureTest tag imm =>
    exact .inl ⟨_, 0x41, tag, imm, (fun _ s => (capture (if imm.getLsbD 0 then 1 else 0) s, .done)), rfl, rfl,
      fun _ u => work_capture u (steps_captureTest tag imm) _, fun _ => rfl⟩
  | profileWrite tag imm =>
    exact .inl ⟨_, 0x50, tag, imm, profileWrite, rfl, rfl,
      fun slot u => work_profileWrite u slot, fun _ => rfl⟩
  | profileCopy tag imm =>
    exact .inl ⟨_, 0x51, tag, imm, (fun _ s => profileCopy s), rfl, rfl,
      fun _ u => work_profileCopy u, fun _ => rfl⟩
  | profileSwapImmediate tag high =>
    exact .inl ⟨_, 0x52, tag, _, (fun _ s => requestSwap .waiting .done s), rfl, rfl,
      fun _ u => work_requestSwap u .waiting .done, fun _ => rfl⟩
  | profileSwapAtSecond tag high =>
    exact .inl ⟨_, 0x52, tag, _, (fun slot s => requestSwap (.pending slot) .pending s), rfl, rfl,
      fun slot u => work_requestSwap u (.pending slot) .pending, fun _ => rfl⟩
  | profileCancel tag imm =>
    exact .inl ⟨_, 0x53, tag, imm, (fun _ s => profileCancel s), rfl, rfl,
      fun _ u => work_profileCancel u, fun _ => rfl⟩
  | flagClear tag imm =>
    exact .inl ⟨_, 0x60, tag, imm, (fun _ s => (clearFlags imm s, .done)), rfl, rfl,
      fun _ u => work_clearFlags u (clears_flagClear tag imm) imm, fun _ => rfl⟩
  | flagEnable tag imm =>
    exact .inl ⟨_, 0x61, tag, imm, (fun _ s => (enableFlags imm s, .done)), rfl, rfl,
      fun _ u => work_enableFlags u imm, fun _ => rfl⟩
  | reportNow tag imm =>
    exact .inl ⟨_, 0x62, tag, imm, (fun _ s => (request allBlocks s, .done)), rfl, rfl,
      fun _ _ => .single (.request allBlocks), fun _ => rfl⟩
  | restart tag imm =>
    exact .inl ⟨_, 0x7F, tag, imm, (fun _ s => (restartPart s, .done)), rfl, rfl,
      fun _ u => work_restartPart u, fun _ => rfl⟩
  | unknownCommand code tag imm =>
    have hexec (s : State) : exec (.unknownCommand code tag imm) s = execUnknownCommand code tag imm s := rfl
    cases hcode : commandCodes.contains code with
    | true =>
      refine .inr ⟨if_pos hcode, fun s => ?_⟩
      rw [hexec, execUnknownCommand, hcode]
      rfl
    | false =>
      refine .inl ⟨_, code, tag, imm, fun _ s => (s, .unknownCommand), if_neg (hcode ▸ Bool.false_ne_true), rfl,
        fun _ _ => .refl, fun s => ?_⟩
      rw [hexec, execUnknownCommand, hcode]
      rfl
  | _ => cases hi

/-- A command row does its owner's acts after its word. -/
theorem does_command {i : Instr} (hi : i.commandCode.isSome = true) {s t : State} (h : exec i s = .next t) : Does i s t := by
  rcases exec_command hi with ⟨w, code, tag, imm, act, -, hrow⟩ | ⟨-, hnone⟩
  · exact does_of_next ((hrow.takes s).symm.trans h) (does_takeCommand code tag imm hi hrow.works s)
  · exact does_of_next ((hnone s).symm.trans h) .nothing

/-- Every row but those of the reset pin does one of these things. -/
theorem does_exec {i : Instr} {s t : State} (hi : resetRow i = false) (h : exec i s = .next t) : Does i s t := by
  cases i with
  | hardwareReset => cases hi
  | resetRelease base bypass level0 level1 => cases hi
  | fabricAccessRequest address direction length =>
    change execFabricAccessRequest address direction length s = .next t at h
    unfold execFabricAccessRequest at h
    split at h
    next hlen => exact does_of_next h (.arrives _ hlen ⟨rfl, rfl⟩)
    next => cases h
  | fabricWordPass en data => exact does_fabricWordPass h
  | shadowWrite en data => exact does_shadowWrite h
  | cellWordWrite en data => exact does_cellWordWrite h
  | cellWordRead => exact does_cellWordRead h
  | fabricAccessEnd =>
    change execFabricAccessEnd s = .next t at h
    unfold execFabricAccessEnd at h
    split at h
    · exact does_of_next h .nothing
    next a ha =>
      split at h
      · exact does_of_next h (.accessEnds a ha)
      · exact does_of_next h .nothing
  | reportBurstEnd =>
    change execReportBurstEnd s = .next t at h
    unfold execReportBurstEnd at h
    split at h
    · exact does_of_next h .nothing
    next b hb => exact does_of_next h (.burstEnds rfl b hb)
  | rollover => exact does_of_next h (does_happens _ (work_giveRollover s))
  | entryAgeExpiry order =>
    exact does_of_next h (does_happens _ ((Work.single (.retire order)).trans (work_count _ .aged)))
  | probeRecordExpiry p sequence =>
    exact does_of_next h (does_happens _ ((work_setDelay s p _).trans (work_raise _ .probeLost)))
  | responderRecordExpiry p sequence source => exact does_of_next h (does_happens _ (work_setDelay s p _))
  | missingTimerExpiry => exact does_of_next h (does_happens _ (work_expireMissing s))
  | holdoverTimerExpiry => exact does_of_next h (does_happens _ (work_fallFreeRun s))
  | pulseLeadingInstant n => exact does_of_next h (does_happens _ (.single (.leadPulse n)))
  | pulseTrailingInstant n => exact does_of_next h (does_happens _ (.single (.trailPulse n)))
  | activeEdge n => exact does_of_next h (does_happens _ (work_takeEdge s (steps_activeEdge n) n))
  | inputLevelChange n => exact does_of_next h (does_happens _ (.single (.captures _)))
  | _ => exact does_command rfl h

/-! ## Laws of the blocks -/

@[simp] theorem passWrite_blocks (a : WordAddress) (en : Enables) (data : Word) (s : State) :
    (passWrite a en data s).blocks = s.blocks := rfl

@[simp] theorem passRead_blocks (a : WordAddress) (data : Word) (s : State) : (passRead a data s).blocks = s.blocks := rfl

@[simp] theorem grantIfFree_blocks (s : State) : (grantIfFree s).blocks = s.blocks := by
  simp [State.blocks]

@[simp] theorem presentAccess_blocks (a : Access) (s : State) : (presentAccess a s).blocks = s.blocks := by
  simp [presentAccess, State.blocks]

@[simp] theorem endBurst_blocks (b : Burst) (s : State) : (endBurst b s).blocks = s.blocks := by
  simp [State.blocks]

/-- A word that passes touches no block. -/
theorem Passes.blocks_eq {s t : State} (h : Passes s t) : t.blocks = s.blocks := by
  cases h <;> rfl

/-- The state an access end leaves before the grant: a run of acts after the access is gone. -/
theorem work_endAccess {w : Powers} (s : State) :
    Work w (s.withArbiter { s.arbiter with current := none })
      (decodeChange (swapAtEnd (s.withArbiter { s.arbiter with current := none }))) :=
  (work_swapAtEnd _).act .decodeChange

/-- A law of the blocks that every act of a row keeps is kept by the row. -/
theorem Does.keeps {i : Instr} {I : State → Prop} (hblocks : ∀ {s t : State}, t.blocks = s.blocks → I s → I t)
    (hact : ∀ {s t : State}, Act (powersOf i) s t → I s → I t) {s t : State} (h : Does i s t) (hs : I s) : I t := by
  cases h with
  | nothing => exact hs
  | arrives a => exact hblocks (presentAccess_blocks a s) hs
  | word row next before passes after => exact after.keeps hact (hblocks passes.blocks_eq (before.keeps hact hs))
  | accessEnds a =>
    have hgone : I (s.withArbiter { s.arbiter with current := none }) := hblocks (s := s) rfl hs
    have hended := (work_endAccess s).keeps hact hgone
    exact hblocks (grantIfFree_blocks _) (hblocks (s := decodeChange _) rfl hended)
  | burstEnds row b => exact hblocks (endBurst_blocks b s) hs
  | event released acts => exact hblocks (grantIfFree_blocks _) (acts.keeps hact hs)

/-- Held in reset or just brought up, the blocks are those of State.reset, but for the captures (R15, R18). -/
theorem blocks_of_resetRow {i : Instr} {s t : State} (hi : resetRow i = true) (h : exec i s = .next t) :
    t = s ∨ ∃ x, t.blocks = (State.reset.withCaptures x).blocks := by
  cases i with
  | hardwareReset =>
    obtain rfl := Host.Outcome.next.inj h
    exact .inr ⟨State.reset.captures, rfl⟩
  | resetRelease base bypass level0 level1 =>
    change execResetRelease base bypass level0 level1 s = .next t at h
    unfold execResetRelease at h
    split at h <;> obtain rfl := Host.Outcome.next.inj h
    · exact .inr ⟨_, grantIfFree_blocks _⟩
    · exact .inl rfl
  | _ => cases hi

/-- A law of the blocks is kept by every step when the rows that are none of the reset pin's keep it, hardware reset meets
it and a tick keeps it. -/
theorem step_keeps {I : State → Prop} (hblocks : ∀ {s t : State}, t.blocks = s.blocks → I s → I t)
    (hrows : ∀ {i : Instr} {s t : State}, resetRow i = false → exec i s = .next t → I s → I t)
    (hreset : ∀ x, I (State.reset.withCaptures x)) (htick : ∀ {s : State}, I s → I (tick s)) {s t : State} (hs : I s)
    (h : step s = .next t) : I t := by
  have hexec {i : Instr} {u : State} (hu : I u) (hx : exec i u = .next t) : I t := by
    cases hi : resetRow i with
    | false => exact hrows hi hx hu
    | true =>
      rcases blocks_of_resetRow hi hx with rfl | ⟨x, hb⟩
      · exact hu
      · exact hblocks hb (hreset x)
  unfold step at h
  split at h
  next i rest _ => exact hexec (u := s.withPending rest) (hblocks (s := s) rfl hs) h
  next =>
    split at h
    · exact Host.Outcome.next.inj h ▸ hs
    · exact hexec hs h
    · exact Host.Outcome.next.inj h ▸ htick hs

end Sys2Proof.Machine
end

section
/-! Laws of the Time Base, the rates and the flags: what each act does to them, and the statements that follow. -/

namespace Sys2Proof.Machine

/-! ## The raw count and station time -/

@[simp] theorem giveRho_raw (r : Int) (s : State) : (giveRho r s).time.raw = s.time.raw := rfl

@[simp] theorem giveRho_now (r : Int) (s : State) : (giveRho r s).now = s.now := TimeBase.changeRho_now _ _

@[simp] theorem giveRho_report (r : Int) (s : State) : (giveRho r s).report = s.report := State.withTime_report _ _

@[simp] theorem giveRhoI_report (r : Int) (s : State) : (giveRhoI r s).report = s.report := State.withDisc_report _ _

@[simp] theorem clampRates_raw (s : State) : (clampRates s).time.raw = s.time.raw := by
  unfold clampRates
  dsimp only
  rw [giveRhoI_time]
  split
  · exact Eq.refl _
  · exact giveRho_raw _ s

/-- Station time now follows from the Time Base alone. -/
theorem now_of_time {s t : State} (h : t.time = s.time) : t.now = s.now := congrArg TimeBase.now h

/-- The clamps of a swap leave station time now: one that changes ρ re-anchors (R44). -/
@[simp] theorem clampRates_now (s : State) : (clampRates s).now = s.now := by
  unfold clampRates
  dsimp only
  rw [now_of_time (giveRhoI_time _ _)]
  split
  · exact Eq.refl _
  · exact giveRho_now _ s

/-- No act moves the raw count (R38). -/
theorem Act.raw_eq {w : Powers} {s t : State} (h : Act w s t) : t.time.raw = s.time.raw := by
  cases h with
  | exchange => simp
  | giveRho r => rfl
  | reanchor sec => rfl
  | stepClock allowed a => rfl
  | _ => simp [setStaged]

/-- Only a step moves station time now: a re-anchor and a change of ρ leave it (R43, R46). -/
theorem Act.now_eq {w : Powers} (hw : ¬ w.steps) {s t : State} (h : Act w s t) : t.now = s.now := by
  cases h with
  | giveRho r => exact TimeBase.changeRho_now _ _
  | reanchor sec => exact TimeBase.reanchor_now s.time
  | stepClock allowed a => exact absurd allowed hw
  | exchange =>
    rw [now_of_time (swapPulses_time _ _), clampRates_now]
    exact now_of_time (by simp)
  | _ => exact now_of_time (by simp [setStaged])

/-- A row that is none of the reset pin's leaves the raw count (R38). -/
theorem Does.raw_eq {i : Instr} {s t : State} (h : Does i s t) : t.time.raw = s.time.raw :=
  h.keeps (I := fun u => u.time.raw = s.time.raw)
    (fun hb hu => (congrArg TimeBase.raw (blocks_fields hb).2.2.2.2.1).trans hu) (fun ha hu => ha.raw_eq.trans hu) rfl

/-- A row that cannot step station time leaves it (R43, R46). -/
theorem Does.now_eq {i : Instr} (hi : ¬ (powersOf i).steps) {s t : State} (h : Does i s t) : t.now = s.now :=
  h.keeps (I := fun u => u.now = s.now)
    (fun hb hu => (now_of_time (blocks_fields hb).2.2.2.2.1).trans hu) (fun ha hu => (ha.now_eq hi).trans hu) rfl

/-! ## Flags -/

theorem FlagsStay.refl (s : State) : FlagsStay s s := BitVec.and_self

theorem FlagsStay.trans {s t u : State} (h : FlagsStay s t) (hu : FlagsStay t u) : FlagsStay s u := by
  unfold FlagsStay at *
  rw [← h, BitVec.and_assoc, hu]

/-- The same flags stay. -/
theorem FlagsStay.of_eq {s t : State} (h : t.report.flags = s.report.flags) : FlagsStay s t := by
  unfold FlagsStay
  rw [h, BitVec.and_self]

/-- A request changes no flag (R171). -/
@[simp] theorem request_flags (ks : List BlockKind) (s : State) : (request ks s).report.flags = s.report.flags := by
  unfold request
  split <;> rfl

/-- A raise leaves the other flags as they are (R167). -/
theorem raise_flagsStay (f : Flag) (s : State) : FlagsStay s (raise f s) := by
  rw [raise_eq_raised]
  exact flags_and_or _ _

@[simp] theorem settleDelay_flags (p : Port) (d : PortDelay) (s : State) :
    (settleDelay p d s).report.flags = s.report.flags := by
  unfold settleDelay
  dsimp only
  split
  · exact request_flags _ _
  · rfl

@[simp] theorem swapDelays_flags (old : Profile) (s : State) : (swapDelays old s).report.flags = s.report.flags := by
  refine foldl_keeps (fun u => u.report.flags) _ (fun u p => ?_) allPorts s
  unfold swapDelay clearPort
  split <;> exact settleDelay_flags _ _ _

@[simp] theorem setDiscState_flags (d : DisciplineState) (s : State) :
    (setDiscState d s).report.flags = s.report.flags := by
  unfold setDiscState
  split
  · rfl
  · exact request_flags _ _

@[simp] theorem clampRates_report (s : State) : (clampRates s).report = s.report := by
  unfold clampRates
  dsimp only
  rw [giveRhoI_report]
  split
  · exact Eq.refl _
  · exact giveRho_report _ s

@[simp] theorem swapPulses_report (old : Profile) (s : State) : (swapPulses old s).report = s.report := rfl

@[simp] theorem decodeChange_report (s : State) : (decodeChange s).report = s.report := by
  unfold decodeChange
  split <;> rfl

/-- No act of a row but FLAG_CLEAR lowers a flag (R167, R169). -/
theorem Act.flagsStay {w : Powers} (hw : ¬ w.clears) {s t : State} (h : Act w s t) : FlagsStay s t := by
  cases h with
  | request ks => exact .of_eq (request_flags ks s)
  | report r queue generations flags => exact flags.resolve_left hw
  | setDiscState d => exact .of_eq (setDiscState_flags d s)
  | giveRho r => exact .of_eq (congrArg ReportWriter.flags (giveRho_report r s))
  | giveRhoI r => exact .of_eq (congrArg ReportWriter.flags (giveRhoI_report r s))
  | exchange =>
    refine .of_eq ?_
    rw [swapPulses_report, clampRates_report, swapDelays_flags, decodeChange_report]
    exact request_flags _ _
  | decodeChange => exact .of_eq (congrArg ReportWriter.flags (decodeChange_report s))
  | _ => exact .refl _

/-- A grant lowers no flag (R12, R14). -/
theorem grantIfFree_flagsStay (s : State) : FlagsStay s (grantIfFree s) := by
  unfold grantIfFree
  split
  · split
    · exact .of_eq (congrArg ReportWriter.flags (grantHeld_report s))
    · unfold grant
      split
      · exact .refl _
      · exact .of_eq rfl
      · exact .of_eq rfl
      · split
        · exact .of_eq rfl
        next k ks _ _ _ => exact FlagsStay.trans (t := startBurst k ks s) (.of_eq rfl) (raise_flagsStay _ _)
  · exact .refl _

/-- A run of acts of a row but FLAG_CLEAR lowers no flag. -/
theorem Work.flagsStay {w : Powers} (hw : ¬ w.clears) {s t : State} (h : Work w s t) : FlagsStay s t :=
  h.keeps (I := FlagsStay s) (fun ha hu => hu.trans (ha.flagsStay hw)) (.refl s)

/-- A row but FLAG_CLEAR and those of the reset pin lowers no flag (R169). -/
theorem Does.flagsStay {i : Instr} (hi : ¬ (powersOf i).clears) {s t : State} (h : Does i s t) : FlagsStay s t := by
  cases h with
  | nothing => exact .refl s
  | arrives a => exact FlagsStay.trans (t := s.withArbiter { s.arbiter with waiting := s.arbiter.waiting ++ [a] }) (.of_eq rfl) (grantIfFree_flagsStay _)
  | word row next before passes after =>
    refine (before.flagsStay hi).trans (FlagsStay.trans ?_ (after.flagsStay hi))
    cases passes <;> exact .of_eq rfl
  | accessEnds a =>
    have hended := (work_endAccess (w := powersOf i) s).flagsStay hi
    exact FlagsStay.trans (FlagsStay.trans (t := countWait _) hended (.of_eq rfl)) (grantIfFree_flagsStay _)
  | burstEnds row b => exact FlagsStay.trans (t := (writeBurst b s).withArbiter _) (.of_eq rfl) (grantIfFree_flagsStay _)
  | event released acts => exact (acts.flagsStay hi).trans (grantIfFree_flagsStay _)

/-- Settles O58: no act of a row but FLAG_CLEAR lowers a flag, and a grant only raises one. -/
theorem flagsAreSticky : Obligations.FlagsAreSticky := by
  intro i s t hreset hclear h
  exact (does_exec hreset h).flagsStay fun ⟨x, y, hi⟩ => hclear x y hi

/-! ## A tick -/

/-- The active bank is one of the two, and so inside its ranges (R152). -/
theorem bank_inRange {s : State} (h : ProfileInv s) : s.bank.InRange := by
  unfold State.bank
  split
  · exact h.1
  · exact h.2

/-- The staged bank is one of the two, and so inside its ranges (R152). -/
theorem staged_inRange {s : State} (h : ProfileInv s) : s.staged.InRange := by
  unfold State.staged
  split
  · exact h.2
  · exact h.1

/-- A raw count one tick on is one tick further from an anchor that lies less than 2^62 fn back (R38, R39). -/
theorem rawDiff_add_tick {x y : Raw} (h0 : 0 ≤ rawDiff x y) (h1 : rawDiff x y < 4611686018427387904) :
    rawDiff (x + tickFn) y = rawDiff x y + 524288 := by
  unfold rawDiff tickFn at *
  change (x + 524288#64 - y).toInt = (x - y).toInt + 524288
  have hmove : x + 524288#64 - y = (x - y) + 524288#64 := by
    rw [BitVec.sub_eq_add_neg, BitVec.sub_eq_add_neg, BitVec.add_assoc, BitVec.add_comm 524288#64, ← BitVec.add_assoc]
  have hstep : (524288#64).toInt = 524288 := rfl
  rw [hmove, BitVec.toInt_add, hstep]
  exact Int.bmod_eq_of_le (by omega) (by omega)

/-- The rate limit is at most 500 ppm (R44). -/
theorem rateLimit_le {s : State} (h : s.bank.discipline.rateLimit ≤ 500) : s.rateLimit ≤ 549755813 := by
  unfold State.rateLimit rateLimitUnits
  omega

/-- Between two readings a tick apart the rate term changes by at most 263 fn, at rates inside 500 ppm (R41, R44). -/
theorem rateTerm_tick {d rho : Int} (hlow : -549755813 ≤ rho) (hhigh : rho ≤ 549755813) :
    rateTerm d rho - 263 ≤ rateTerm (d + 524288) rho ∧ rateTerm (d + 524288) rho ≤ rateTerm d rho + 263 := by
  unfold rateTerm
  have hmove : (d + 524288) * rho = d * rho + 524288 * rho := by ring
  rw [hmove]
  generalize d * rho = x
  constructor <;> omega

/-- The conversion of a tick's reading by the record in force (R41). -/
theorem TimeBase.now_withRaw (t : TimeBase) (x : Raw) :
    { t with raw := x }.now = t.anchorStation.add (atRate (rawDiff x t.anchorRaw) t.rho) := rfl

/-- Two conversions by one record lie apart by the difference of what is added to its anchor (R41). -/
theorem add_atRate_sub (t : StationTime) (d e rho : Int) :
    (t.add (atRate d rho)).add (e - d + rateTerm e rho - rateTerm d rho) = t.add (atRate e rho) := by
  rw [StationTime.add_add]
  unfold atRate
  generalize rateTerm d rho = x
  generalize rateTerm e rho = y
  congr 1
  omega

/-- Station time a tick on (R38, R41): both readings are converted by the same record. -/
theorem tick_now {s : State} (h0 : 0 ≤ rawDiff s.time.raw s.time.anchorRaw)
    (h1 : rawDiff s.time.raw s.time.anchorRaw < 4611686018427387904) :
    (tick s).now = s.now.add
      (524288 + rateTerm (rawDiff s.time.raw s.time.anchorRaw + 524288) s.time.rho -
        rateTerm (rawDiff s.time.raw s.time.anchorRaw) s.time.rho) := by
  have hafter : (tick s).now = { s.time with raw := s.time.raw + tickFn }.now := congrArg (fun u => u.now) (tick_eq s)
  have hbefore : s.now = s.time.anchorStation.add (atRate (rawDiff s.time.raw s.time.anchorRaw) s.time.rho) := rfl
  rw [hafter, TimeBase.now_withRaw, rawDiff_add_tick h0 h1, hbefore, ← add_atRate_sub _ (rawDiff s.time.raw s.time.anchorRaw)]
  congr 1
  omega

/-- Settles O55: no act but a step moves station time, no act moves the raw count, and a tick moves the reading by 524,288 fn
and the rate term by at most 263 fn. -/
theorem onlyStepsMoveStationTime : Obligations.OnlyStepsMoveStationTime := by
  refine ⟨fun i s t hreset h => ⟨(does_exec hreset h).raw_eq, ?_⟩, ?_⟩
  · intro hset hstep htest hedge hwrite
    refine (does_exec hreset h).now_eq ?_
    rintro (⟨x, y, hi⟩ | ⟨x, y, hi⟩ | ⟨x, y, hi⟩ | ⟨n, hi⟩ | ⟨x, y, hi⟩)
    · exact hset x y hi
    · exact hstep x y hi
    · exact htest x y hi
    · exact hedge n hi
    · exact hwrite x y hi
  · intro s t hpending hreleased hdue hrate hprofile h0 h1 h
    have htick : step s = .next (tick s) := by
      unfold step idleKind
      simp only [hpending, hreleased, hdue, Bool.false_eq_true, if_false]
    obtain rfl := Host.Outcome.next.inj (htick.symm.trans h)
    obtain ⟨hlow, hhigh, -, -⟩ := hrate
    obtain ⟨-, -, -, -, -, -, -, -, -, -, -, -, ⟨-, -, -, -, -, -, -, -, -, -, -, hlimit⟩, -⟩ := bank_inRange hprofile
    have hmax := rateLimit_le hlimit
    obtain ⟨hleast, hmost⟩ := rateTerm_tick (d := rawDiff s.time.raw s.time.anchorRaw) (rho := s.time.rho) (by omega) (by omega)
    exact ⟨_, by omega, by omega, tick_now h0 h1⟩

end Sys2Proof.Machine
end

section
/-! The part right after hardware reset: its values (section 9.3; 01 R18) meet every invariant. -/

namespace Sys2Proof.Machine

/-- Settles O4: each value is that of the model's reset state, evaluated. -/
theorem resetValues : Obligations.ResetValues := by
  unfold Obligations.ResetValues
  repeat' apply And.intro
  all_goals decide +kernel

/-- Both banks hold the default profile, whose items lie in their ranges (R155). -/
theorem profileInv_reset : ProfileInv State.reset := by
  constructor
  all_goals
    unfold Profile.InRange
    decide +kernel

/-- The table is empty at reset, so it has no links. -/
theorem linkInv_reset : LinkInv State.reset := fun _ he => absurd he List.not_mem_nil

/-- Settles O5: the ranges and the links apart, every invariant of the reset state is evaluated. -/
theorem resetMeetsInvariants : Obligations.ResetMeetsInvariants := by
  unfold Obligations.ResetMeetsInvariants
  refine ⟨?_, ?_, ?_, ?_, ?_, ?_, ?_, ?_, linkInv_reset, ?_, ?_, profileInv_reset, ?_, ?_, ?_⟩
  all_goals decide +kernel

end Sys2Proof.Machine
end

section
/-! The ranges of the items, of the raw count and of the rates (03 R38, R44; 09 R154): what an item write stores lies in its
range, and no act leaves the ranges. -/

namespace Sys2Proof.Machine

/-! ## Values as stored -/

/-- An unsigned value is stored inside its range (R154). -/
theorem storeUnsigned_mem {lo hi : Nat} (h : lo ≤ hi) (v : BitVec 64) :
    lo ≤ (storeUnsigned lo hi v).value ∧ (storeUnsigned lo hi v).value ≤ hi := by
  unfold storeUnsigned
  split
  · exact ⟨Nat.le_refl _, h⟩
  · split
    · exact ⟨h, Nat.le_refl _⟩
    · dsimp only
      omega

/-- A signed value is stored inside its range (R154). -/
theorem storeSigned_mem {lo hi : Int} (h : lo ≤ hi) (v : BitVec 64) :
    lo ≤ (storeSigned lo hi v).value ∧ (storeSigned lo hi v).value ≤ hi := by
  unfold storeSigned
  split
  · exact ⟨Int.le_refl _, h⟩
  · split
    · exact ⟨h, Int.le_refl _⟩
    · dsimp only
      omega

/-- A pool window base is stored as a multiple of 16 up to 4,194,288 (R11). -/
theorem storePoolBase_mem (v : BitVec 64) :
    (storePoolBase v).value ≤ 4194288 ∧ (storePoolBase v).value % 16 = 0 := by
  unfold storePoolBase
  split <;> dsimp only <;> omega

/-- The largest listed number up to a limit is listed, or the least of the list (R11, R144). -/
theorem largestUpTo_mem {least : Nat} {l : List Nat} (h : least ∈ l) (n : Nat) : largestUpTo least n l ∈ l := by
  unfold largestUpTo
  by_cases hl : l.takeWhile (· ≤ n) = []
  · rw [hl]
    exact h
  · have hlast : (l.takeWhile (· ≤ n)).getLastD least = (l.takeWhile (· ≤ n)).getLast hl := by
      rw [List.getLastD_eq_getLast?, List.getLast?_eq_some_getLast hl]
      rfl
    rw [hlast]
    exact (List.takeWhile_sublist _).mem (List.getLast_mem hl)

/-! ## One item changed -/

/-- Every entry of a table after one was replaced by one that keeps a law. -/
theorem forall_set {α : Type} {n : Nat} {l : Vector α n} {P : α → Prop} (h : ∀ i : Fin n, P l[i]) (j : Fin n) {x : α}
    (hx : P x) : ∀ i : Fin n, P (l.set j x)[i] := by
  intro i
  simp only [Fin.getElem_fin, Vector.getElem_set]
  split
  · exact hx
  · exact h i

theorem inRange_setPool {p : Profile} (h : p.InRange) (n : Fin 4) {w : PoolWindow} (hw : w.InRange) :
    (p.setPool n w).InRange := by
  obtain ⟨hpool, hrest⟩ := h
  exact ⟨forall_set hpool n hw, hrest⟩

theorem inRange_setExclusion {p : Profile} (h : p.InRange) (n : Fin 2) {x : ExclusionWindow} (hx : x.InRange) :
    (p.setExclusion n x).InRange := by
  obtain ⟨hpool, hexclusion, hrest⟩ := h
  exact ⟨hpool, forall_set hexclusion n hx, hrest⟩

theorem inRange_setPort {p : Profile} (h : p.InRange) (n : Port) {x : PortItems}
    (hx : x.latencyIn ≤ 1048575 ∧ x.latencyOut ≤ 1048575) : (p.setPort n x).InRange := by
  obtain ⟨hpool, hexclusion, hage, hage', hports, hrest⟩ := h
  exact ⟨hpool, hexclusion, hage, hage', forall_set (P := fun x : PortItems => x.latencyIn ≤ 1048575 ∧ x.latencyOut ≤ 1048575) hports n hx, hrest⟩

theorem inRange_setDiscipline {p : Profile} (h : p.InRange) {x : DisciplineItems} (hx : x.InRange) :
    (p.setDiscipline x).InRange := by
  obtain ⟨h1, h2, h3, h4, h5, h6, h7, h8, h9, h10, h11, h12, -, hinputs, houtputs⟩ := h
  exact ⟨h1, h2, h3, h4, h5, h6, h7, h8, h9, h10, h11, h12, hx, hinputs, houtputs⟩

theorem inRange_setInput {p : Profile} (h : p.InRange) (n : Fin 2) {x : CaptureItems}
    (hx : -1000000 ≤ x.inputDelay ∧ x.inputDelay ≤ 1000000) : (p.setInput n x).InRange := by
  obtain ⟨h1, h2, h3, h4, h5, h6, h7, h8, h9, h10, h11, h12, h13, hinputs, houtputs⟩ := h
  exact ⟨h1, h2, h3, h4, h5, h6, h7, h8, h9, h10, h11, h12, h13,
    forall_set (P := fun x : CaptureItems => -1000000 ≤ x.inputDelay ∧ x.inputDelay ≤ 1000000) hinputs n hx, houtputs⟩

theorem inRange_setOutput {p : Profile} (h : p.InRange) (n : Fin 4) {x : PulseItems} (hx : x.InRange) :
    (p.setOutput n x).InRange := by
  obtain ⟨h1, h2, h3, h4, h5, h6, h7, h8, h9, h10, h11, h12, h13, h14, houtputs⟩ := h
  exact ⟨h1, h2, h3, h4, h5, h6, h7, h8, h9, h10, h11, h12, h13, h14, forall_set houtputs n hx⟩

/-- A value put into a profile, when every value it can take keeps the ranges. -/
theorem inRange_into {α : Type} {x : Stored α} {f : α → Profile} {y : Stored Profile} (h : some (x.into f) = some y)
    (hf : (f x.value).InRange) : y.value.InRange := by
  obtain rfl := Option.some.inj h
  exact hf

theorem writePool_inRange {code : Nat} {v : BitVec 64} {p : Profile} {n : Fin 4} {y : Stored Profile} (h : p.InRange)
    (hy : writePool code v p n = some y) : y.value.InRange := by
  obtain ⟨hbase, hbase', hsize, hcount, hcount'⟩ := h.1 n
  unfold writePool at hy
  dsimp only at hy
  split at hy
  · exact inRange_into hy (inRange_setPool h n ⟨hbase, hbase', hsize, hcount, hcount'⟩)
  · have hv := storePoolBase_mem v
    exact inRange_into hy (inRange_setPool h n ⟨hv.1, hv.2, hsize, hcount, hcount'⟩)
  · exact inRange_into hy (inRange_setPool h n ⟨hbase, hbase', largestUpTo_mem (by decide) _, hcount, hcount'⟩)
  · have hv := storeUnsigned_mem (lo := 1) (hi := 65535) (by decide) v
    exact inRange_into hy (inRange_setPool h n ⟨hbase, hbase', hsize, hv.1, hv.2⟩)
  · exact inRange_into hy (inRange_setPool h n ⟨hbase, hbase', hsize, hcount, hcount'⟩)
  · exact inRange_into hy (inRange_setPool h n ⟨hbase, hbase', hsize, hcount, hcount'⟩)
  · cases hy

theorem writeExclusion_inRange {code : Nat} {v : BitVec 64} {p : Profile} {n : Fin 2} {y : Stored Profile} (h : p.InRange)
    (hy : writeExclusion code v p n = some y) : y.value.InRange := by
  obtain ⟨hbase, hsize, hsize'⟩ := h.2.1 n
  unfold writeExclusion at hy
  dsimp only at hy
  split at hy
  · exact inRange_into hy (inRange_setExclusion h n ⟨hbase, hsize, hsize'⟩)
  · have hv := storeUnsigned_mem (lo := 0) (hi := 4194303) (by decide) v
    exact inRange_into hy (inRange_setExclusion h n ⟨hv.2, hsize, hsize'⟩)
  · have hv := storeUnsigned_mem (lo := 1) (hi := 4194304) (by decide) v
    exact inRange_into hy (inRange_setExclusion h n ⟨hbase, hv.1, hv.2⟩)
  · cases hy

theorem writeDomain_inRange {code : Nat} {v : BitVec 64} {p : Profile} {n : Fin 4} {y : Stored Profile} (h : p.InRange)
    (hy : writeDomain code v p n = some y) : y.value.InRange := by
  unfold writeDomain at hy
  dsimp only at hy
  split at hy
  · exact inRange_into hy h
  · exact inRange_into hy h
  · cases hy

theorem writePort_inRange {code : Nat} {v : BitVec 64} {p : Profile} {n : Port} {y : Stored Profile} (h : p.InRange)
    (hy : writePort code v p n = some y) : y.value.InRange := by
  have hn := h.2.2.2.2.1 n
  have hv := storeUnsigned_mem (lo := 0) (hi := 1048575) (by decide) v
  unfold writePort at hy
  dsimp only at hy
  split at hy
  · exact inRange_into hy (inRange_setPort h n ⟨hv.2, hn.2⟩)
  · exact inRange_into hy (inRange_setPort h n ⟨hn.1, hv.2⟩)
  · exact inRange_into hy (inRange_setPort h n hn)
  · exact inRange_into hy (inRange_setPort h n hn)
  · exact inRange_into hy (inRange_setPort h n hn)
  · cases hy

theorem writeInput_inRange {code : Nat} {v : BitVec 64} {p : Profile} {n : Fin 2} {y : Stored Profile} (h : p.InRange)
    (hy : writeInput code v p n = some y) : y.value.InRange := by
  obtain ⟨-, -, -, -, -, -, -, -, -, -, -, -, -, hinputs, -⟩ := id h
  unfold writeInput at hy
  dsimp only at hy
  split at hy
  · exact inRange_into hy (inRange_setInput h n (hinputs n))
  · exact inRange_into hy (inRange_setInput h n (hinputs n))
  · exact inRange_into hy (inRange_setInput h n (storeSigned_mem (by decide) v))
  · cases hy

theorem writeOutput_inRange {code : Nat} {v : BitVec 64} {p : Profile} {n : Fin 4} {y : Stored Profile} (h : p.InRange)
    (hy : writeOutput code v p n = some y) : y.value.InRange := by
  obtain ⟨-, -, -, -, -, -, -, -, -, -, -, -, -, -, houtputs⟩ := id h
  obtain ⟨hperiod, hoffset, hwidth, hwidth'⟩ := houtputs n
  unfold writeOutput at hy
  dsimp only at hy
  split at hy
  · refine inRange_into hy (inRange_setOutput h n ⟨?_, hoffset, hwidth, hwidth'⟩)
    unfold storePeriod
    split
    · exact .inl rfl
    · exact .inr (largestUpTo_mem (by decide) _)
  · have hv := storeUnsigned_mem (lo := 0) (hi := 999999999) (by decide) v
    exact inRange_into hy (inRange_setOutput h n ⟨hperiod, hv.2, hwidth, hwidth'⟩)
  · have hv := storeUnsigned_mem (lo := 1) (hi := 65535) (by decide) v
    exact inRange_into hy (inRange_setOutput h n ⟨hperiod, hoffset, hv.1, hv.2⟩)
  · exact inRange_into hy (inRange_setOutput h n ⟨hperiod, hoffset, hwidth, hwidth'⟩)
  · exact inRange_into hy (inRange_setOutput h n ⟨hperiod, hoffset, hwidth, hwidth'⟩)
  · cases hy

/-- The items that exist once: each item of the discipline keeps the ranges of the others. -/
theorem writeSingle_inRange {code : Nat} {v : BitVec 64} {p : Profile} {y : Stored Profile} (h : p.InRange)
    (hy : writeSingle code v p = some y) : y.value.InRange := by
  obtain ⟨h1, h2, h3, h4, h5, h6, h7, h8, h9, h10, h11, h12, ⟨d1, d2, d3, d4, d5, d6, d7, d8, d9, d10, d11, d12⟩, h14⟩ := id h
  have hv {lo hi : Nat} (hle : lo ≤ hi) := storeUnsigned_mem hle v
  unfold writeSingle at hy
  dsimp only at hy
  split at hy
  · exact inRange_into hy ⟨h1, h2, (hv (by decide)).1, (hv (by decide)).2, h5, h6, h7, h8, h9, h10, h11, h12,
      ⟨d1, d2, d3, d4, d5, d6, d7, d8, d9, d10, d11, d12⟩, h14⟩
  · exact inRange_into hy h
  · exact inRange_into hy h
  · exact inRange_into hy h
  · obtain rfl := Option.some.inj hy
    exact h
  · exact inRange_into hy h
  · exact inRange_into hy ⟨h1, h2, h3, h4, h5, (hv (by decide)).2, h7, h8, h9, h10, h11, h12,
      ⟨d1, d2, d3, d4, d5, d6, d7, d8, d9, d10, d11, d12⟩, h14⟩
  · exact inRange_into hy ⟨h1, h2, h3, h4, h5, h6, (hv (by decide)).1, (hv (by decide)).2, h9, h10, h11, h12,
      ⟨d1, d2, d3, d4, d5, d6, d7, d8, d9, d10, d11, d12⟩, h14⟩
  · exact inRange_into hy ⟨h1, h2, h3, h4, h5, h6, h7, h8, (hv (by decide)).1, (hv (by decide)).2, h11, h12,
      ⟨d1, d2, d3, d4, d5, d6, d7, d8, d9, d10, d11, d12⟩, h14⟩
  · exact inRange_into hy ⟨h1, h2, h3, h4, h5, h6, h7, h8, h9, h10, (hv (by decide)).1, (hv (by decide)).2,
      ⟨d1, d2, d3, d4, d5, d6, d7, d8, d9, d10, d11, d12⟩, h14⟩
  · exact inRange_into hy h
  · exact inRange_into hy (inRange_setDiscipline h ⟨d1, d2, d3, d4, d5, d6, d7, d8, d9, d10, d11, d12⟩)
  · exact inRange_into hy (inRange_setDiscipline h ⟨d1, d2, d3, d4, d5, d6, d7, d8, d9, d10, d11, d12⟩)
  · obtain rfl := Option.some.inj hy
    exact inRange_setDiscipline h ⟨d1, d2, d3, d4, d5, d6, d7, d8, d9, d10, d11, d12⟩
  · exact inRange_into hy (inRange_setDiscipline h ⟨(hv (by decide)).2, d2, d3, d4, d5, d6, d7, d8, d9, d10, d11, d12⟩)
  · exact inRange_into hy
      (inRange_setDiscipline h ⟨d1, (hv (by decide)).1, (hv (by decide)).2, d4, d5, d6, d7, d8, d9, d10, d11, d12⟩)
  · exact inRange_into hy
      (inRange_setDiscipline h ⟨d1, d2, d3, (hv (by decide)).1, (hv (by decide)).2, d6, d7, d8, d9, d10, d11, d12⟩)
  · exact inRange_into hy
      (inRange_setDiscipline h ⟨d1, d2, d3, d4, d5, (hv (by decide)).1, (hv (by decide)).2, d8, d9, d10, d11, d12⟩)
  · exact inRange_into hy (inRange_setDiscipline h ⟨d1, d2, d3, d4, d5, d6, d7, (hv (by decide)).2, d9, d10, d11, d12⟩)
  · exact inRange_into hy (inRange_setDiscipline h ⟨d1, d2, d3, d4, d5, d6, d7, d8, (hv (by decide)).2, d10, d11, d12⟩)
  · exact inRange_into hy (inRange_setDiscipline h ⟨d1, d2, d3, d4, d5, d6, d7, d8, d9, (hv (by decide)).2, d11, d12⟩)
  · exact inRange_into hy
      (inRange_setDiscipline h ⟨d1, d2, d3, d4, d5, d6, d7, d8, d9, d10, (hv (by decide)).1, (hv (by decide)).2⟩)
  · cases hy

/-- An item written leaves every item of its profile inside its range (R154, R156). -/
theorem writeItem_inRange {code index : Nat} {v : BitVec 64} {p : Profile} {y : Stored Profile} (h : p.InRange)
    (hy : writeItem code index v p = some y) : y.value.InRange := by
  have hgroup {n : Nat} {f : Fin n → Option (Stored Profile)} (hf : ∀ i, f i = some y → y.value.InRange)
      (hi : (index? n index).bind f = some y) : y.value.InRange := by
    obtain ⟨i, -, hfi⟩ := Option.bind_eq_some_iff.1 hi
    exact hf i hfi
  unfold writeItem at hy
  split at hy
  · exact hgroup (fun _ => writePool_inRange h) hy
  split at hy
  · exact hgroup (fun _ => writeExclusion_inRange h) hy
  split at hy
  · exact hgroup (fun _ => writeDomain_inRange h) hy
  split at hy
  · exact hgroup (fun _ => writePort_inRange h) hy
  split at hy
  · exact hgroup (fun _ => writeInput_inRange h) hy
  split at hy
  · exact hgroup (fun _ => writeOutput_inRange h) hy
  split at hy
  · exact writeSingle_inRange h hy
  · cases hy

/-! ## The two banks -/

/-- What keeps the Profile Store keeps the items' ranges. -/
theorem profileInv_of_profiles {s t : State} (h : t.profiles = s.profiles) (hs : ProfileInv s) : ProfileInv t := by
  unfold ProfileInv
  rw [h]
  exact hs

/-- The staged bank replaced by one inside its ranges (R156, R157). -/
theorem profileInv_setStaged {s : State} {p : Profile} (hp : p.InRange) (hs : ProfileInv s) : ProfileInv (setStaged p s) := by
  unfold ProfileInv setStaged ProfileStore.withStaged
  simp only [State.withProfiles_profiles]
  split
  · exact ⟨hs.1, hp⟩
  · exact ⟨hp, hs.2⟩

@[simp] theorem exchangeBanks_profiles (s : State) :
    (exchangeBanks s).profiles = { s.profiles with active := s.profiles.active.other, swap := .none } :=
  request_profiles _ _

/-- No act takes an item out of its range (R154). -/
theorem profileInv_act {w : Powers} {s t : State} (h : Act w s t) (hs : ProfileInv s) : ProfileInv t := by
  cases h with
  | exchange =>
    unfold ProfileInv
    rw [swapPulses_profiles, clampRates_profiles, swapDelays_profiles, decodeChange_profiles, exchangeBanks_profiles]
    exact hs
  | swapRequest r => exact hs
  | stage p source =>
    refine profileInv_setStaged ?_ hs
    rcases source with rfl | ⟨code, n, v, x, hx, rfl⟩
    · exact bank_inRange hs
    · exact writeItem_inRange (staged_inRange hs) hx
  | _ => exact profileInv_of_profiles (by simp) hs

/-! ## The rates -/

/-- The limit of the rates is not negative (R44). -/
theorem rateLimit_nonneg (s : State) : 0 ≤ s.rateLimit := Int.natCast_nonneg _

/-- A clamped rate lies inside the limit (R44). -/
theorem clampRate_mem {limit : Int} (h : 0 ≤ limit) (r : Int) : -limit ≤ clampRate limit r ∧ clampRate limit r ≤ limit := by
  rw [clampRate_eq]
  split
  · omega
  · split <;> omega

/-- The limit of the rates follows from the Profile Store (R44). -/
theorem rateLimit_of_profiles {s t : State} (h : t.profiles = s.profiles) : t.rateLimit = s.rateLimit := by
  unfold State.rateLimit
  rw [bank_eq_of_profiles h]

/-- What keeps ρ, ρ_i and the active bank's limit keeps the rates inside it. -/
theorem rateInv_of_eq {s t : State} (hrho : t.time.rho = s.time.rho) (hrhoI : t.disc.rhoI = s.disc.rhoI)
    (hlimit : t.rateLimit = s.rateLimit) (hs : RateInv s) : RateInv t := by
  unfold RateInv
  rw [hrho, hrhoI, hlimit]
  exact hs

/-- ρ given a value lies inside the limit (R44). -/
theorem rateInv_giveRho {s : State} (r : Int) (h : -s.rateLimit ≤ s.disc.rhoI ∧ s.disc.rhoI ≤ s.rateLimit) :
    RateInv (giveRho r s) := by
  have hrho : (giveRho r s).time.rho = clampRate s.rateLimit r := congrArg TimeBase.rho (State.withTime_time _ _)
  unfold RateInv
  rw [hrho, giveRho_disc, rateLimit_of_profiles (giveRho_profiles r s)]
  have hclamped := clampRate_mem (rateLimit_nonneg s) r
  exact ⟨hclamped.1, hclamped.2, h.1, h.2⟩

/-- ρ_i given a value lies inside the limit (R44). -/
theorem rateInv_giveRhoI {s : State} (r : Int) (h : -s.rateLimit ≤ s.time.rho ∧ s.time.rho ≤ s.rateLimit) :
    RateInv (giveRhoI r s) := by
  have hrhoI : (giveRhoI r s).disc.rhoI = clampRate s.rateLimit r := congrArg Discipline.rhoI (State.withDisc_disc _ _)
  unfold RateInv
  rw [hrhoI, giveRhoI_time, rateLimit_of_profiles (giveRhoI_profiles r s)]
  have hclamped := clampRate_mem (rateLimit_nonneg s) r
  exact ⟨h.1, h.2, hclamped.1, hclamped.2⟩

/-- After the clamps of a swap the rates lie inside the limit of the new bank (R44). -/
theorem rateInv_clampRates (s : State) : RateInv (clampRates s) := by
  unfold clampRates
  dsimp only
  refine rateInv_giveRhoI _ ?_
  split
  next h =>
    rw [← h]
    exact clampRate_mem (rateLimit_nonneg s) _
  next => exact clampRate_mem (rateLimit_nonneg s) _

@[simp] theorem setDiscState_disc (d : DisciplineState) (s : State) :
    (setDiscState d s).disc = { s.disc with state := d } := by
  unfold setDiscState
  split
  next h => rw [← h]
  next => rw [gatePulses_disc, request_disc]; rfl

/-- No act takes a rate outside the limit of the active bank (R44). -/
theorem rateInv_act {w : Powers} {s t : State} (h : Act w s t) (hs : RateInv s) : RateInv t := by
  cases h with
  | giveRho r => exact rateInv_giveRho r hs.2.2
  | giveRhoI r => exact rateInv_giveRhoI r ⟨hs.1, hs.2.1⟩
  | reanchor sec => exact hs
  | stepClock allowed a => exact hs
  | disc d state rhoI counts => exact rateInv_of_eq (s := s) rfl rhoI rfl hs
  | exchange =>
    exact rateInv_of_eq (congrArg TimeBase.rho (swapPulses_time _ _)) (congrArg Discipline.rhoI (swapPulses_disc _ _))
      (rateLimit_of_profiles (swapPulses_profiles _ _)) (rateInv_clampRates _)
  | stage p source =>
    exact rateInv_of_eq (by simp [setStaged]) (by simp [setStaged]) (congrArg (fun b : Profile => rateLimitUnits b.discipline.rateLimit) (setStaged_bank p s)) hs
  | swapRequest r => exact hs
  | _ => exact rateInv_of_eq (by simp) (by simp) (rateLimit_of_profiles (by simp)) hs

/-- A tick added to a whole number of ticks (R38). -/
theorem toNat_add_tickFn_mod {r : Raw} (h : r.toNat % 524288 = 0) : (r + tickFn).toNat % 524288 = 0 := by
  have htick : tickFn.toNat = 524288 := by decide
  rw [BitVec.toNat_add, htick]
  omega

/-- The time base after a tick (R38). -/
theorem tick_time (s : State) : (tick s).time = { s.time with raw := s.time.raw + tickFn } := by rw [tick_eq]

/-- Another raw count leaves ρ. -/
theorem TimeBase.withRaw_rho (t : TimeBase) (r : Raw) : TimeBase.rho { t with raw := r } = t.rho := rfl

/-- A tick leaves ρ. -/
theorem tick_rho (s : State) : (tick s).time.rho = s.time.rho :=
  (congrArg TimeBase.rho (tick_time s)).trans (TimeBase.withRaw_rho _ _)

theorem tick_disc (s : State) : (tick s).disc = s.disc := by rw [tick_eq]

theorem tick_profiles (s : State) : (tick s).profiles = s.profiles := by rw [tick_eq]

/-- Every step keeps the rates inside the limit of the active bank (R44). -/
theorem step_rateInv {s t : State} (hs : RateInv s) (h : step s = .next t) : RateInv t := by
  have hblocks {u v : State} (hb : v.blocks = u.blocks) (hu : RateInv u) : RateInv v := by
    obtain ⟨-, -, -, -, htime, hdisc, -, -, hprofiles, -⟩ := blocks_fields hb
    exact rateInv_of_eq (by rw [htime]) (by rw [hdisc]) (rateLimit_of_profiles hprofiles) hu
  refine step_keeps (I := RateInv) hblocks (fun hi hx hu => (does_exec hi hx).keeps hblocks rateInv_act hu) (fun x => ?_)
    (@fun u => ?_) hs h
  · exact rateInv_of_eq (s := State.reset) (by simp) (by simp) (rateLimit_of_profiles (by simp)) resetMeetsInvariants.2.2.1
  · exact rateInv_of_eq (tick_rho u) (congrArg Discipline.rhoI (tick_disc u)) (rateLimit_of_profiles (tick_profiles u))

/-- Every step keeps the raw count a whole number of ticks (R38). -/
theorem step_rawInv {s t : State} (hs : RawInv s) (h : step s = .next t) : RawInv t := by
  have htime {u v : State} (ht : v.time.raw = u.time.raw) (hu : RawInv u) : RawInv v := by
    unfold RawInv
    rw [ht]
    exact hu
  refine step_keeps (I := RawInv) (fun hb => htime (congrArg TimeBase.raw (blocks_fields hb).2.2.2.2.1))
    (fun hi hx => htime (does_exec hi hx).raw_eq) (fun x => ?_) (fun hu => ?_) hs h
  · unfold RawInv
    rw [State.withCaptures_time]
    decide
  · unfold RawInv at *
    rw [tick_time]
    exact toNat_add_tickFn_mod hu

/-- Every step keeps the items of both banks in their ranges (R154). -/
theorem step_profileInv {s t : State} (hs : ProfileInv s) (h : step s = .next t) : ProfileInv t := by
  have hblocks {u v : State} (hb : v.blocks = u.blocks) : ProfileInv u → ProfileInv v :=
    profileInv_of_profiles (blocks_fields hb).2.2.2.2.2.2.2.2.1
  refine step_keeps (I := ProfileInv) hblocks (fun hi hx hu => (does_exec hi hx).keeps hblocks profileInv_act hu) (fun x => ?_)
    (@fun u => profileInv_of_profiles (tick_profiles u)) hs h
  exact profileInv_of_profiles (State.withCaptures_profiles _ _) profileInv_reset

/-- Settles O48: no act leaves the ranges, a tick moves the raw count alone, and hardware reset meets them. -/
theorem stepKeepsRanges : Obligations.StepKeepsRanges :=
  fun _ _ h => ⟨(step_rateInv · h), (step_rawInv · h), (step_profileInv · h)⟩

end Sys2Proof.Machine
end

section
/-! The laws of the Discipline Unit's counts (07 R118, R123, R124) and of the pulse outputs (08 R144, R147, R149). -/

namespace Sys2Proof.Machine

/-! ## The counts -/

/-- What keeps the counts and the Seen-Mark list keeps their laws. -/
theorem countInv_of_eq {s t : State} (hlock : t.disc.lockCount = s.disc.lockCount)
    (hreject : t.disc.rejectCount = s.disc.rejectCount) (hseen : t.disc.seen = s.disc.seen) (hs : CountInv s) : CountInv t := by
  unfold CountInv
  rw [hlock, hreject, hseen]
  exact hs

/-- What keeps the Discipline Unit keeps the laws of its counts. -/
theorem countInv_of_disc {s t : State} (h : t.disc = s.disc) : CountInv s → CountInv t :=
  countInv_of_eq (by rw [h]) (by rw [h]) (by rw [h])

/-- ρ_i given a value leaves the rest of the Discipline Unit. -/
theorem giveRhoI_disc_eq (r : Int) (s : State) : ∃ x, (giveRhoI r s).disc = { s.disc with rhoI := x } :=
  ⟨_, State.withDisc_disc _ _⟩

/-- The clamps of a swap leave everything of the Discipline Unit but ρ_i (R44). -/
theorem clampRates_disc_eq (s : State) : ∃ x, (clampRates s).disc = { s.disc with rhoI := x } := by
  unfold clampRates
  dsimp only
  split
  · exact giveRhoI_disc_eq _ _
  · obtain ⟨x, hx⟩ := giveRhoI_disc_eq (giveRho s.time.rho s).disc.rhoI (giveRho s.time.rho s)
    exact ⟨x, by rw [hx, giveRho_disc]⟩

/-- The exchange of a swap leaves everything of the Discipline Unit but ρ_i. -/
theorem exchange_disc_eq (s : State) :
    ∃ x, (swapPulses s.bank (clampRates (swapDelays s.bank (decodeChange (exchangeBanks s))))).disc =
      { s.disc with rhoI := x } := by
  obtain ⟨x, hx⟩ := clampRates_disc_eq (swapDelays s.bank (decodeChange (exchangeBanks s)))
  exact ⟨x, by rw [swapPulses_disc, hx, swapDelays_disc, decodeChange_disc, exchangeBanks_disc]⟩

/-- No act breaks the laws of the counts. -/
theorem countInv_act {w : Powers} {s t : State} (h : Act w s t) (hs : CountInv s) : CountInv t := by
  cases h with
  | giveRhoI r =>
    obtain ⟨x, hx⟩ := giveRhoI_disc_eq r s
    exact countInv_of_eq (by rw [hx]) (by rw [hx]) (by rw [hx]) hs
  | disc d state rhoI counts => exact counts hs
  | setDiscState d => exact countInv_of_eq (by simp) (by simp) (by simp) hs
  | exchange =>
    obtain ⟨x, hx⟩ := exchange_disc_eq s
    exact countInv_of_eq (by rw [hx]) (by rw [hx]) (by rw [hx]) hs
  | stage p source => exact countInv_of_disc (by simp [setStaged]) hs
  | _ => exact countInv_of_disc (by simp) hs

/-- Settles O49: no act breaks the laws of the counts and of the Seen-Mark list. -/
theorem stepKeepsCounts : Obligations.StepKeepsCounts := by
  intro s t hs h
  have hblocks {u v : State} (hb : v.blocks = u.blocks) : CountInv u → CountInv v :=
    countInv_of_disc (blocks_fields hb).2.2.2.2.2.1
  refine step_keeps (I := CountInv) hblocks (fun hi hx hu => (does_exec hi hx).keeps hblocks countInv_act hu) (fun x => ?_)
    (@fun u => countInv_of_disc (tick_disc u)) hs h
  exact countInv_of_disc (State.withCaptures_disc _ _) resetMeetsInvariants.2.2.2.1

/-! ## The pulse outputs -/

/-- An entry of a table of four. -/
theorem tab4_get {α : Type} (f : Fin 4 → α) (n : Fin 4) : (tab4 f)[n] = f n := by
  match n with
  | 0 | 1 | 2 | 3 => rfl

/-- An output gated by its items and the discipline state keeps its laws (R147). -/
theorem PulseOutput.Inv.gate {o : PulseOutput} {i : PulseItems} {d : DisciplineState}
    (h : i.period ≠ 0 → o.schedule.map (·.settings) = some i.settings) : (o.gate i d).Inv i d := by
  unfold PulseOutput.gate
  split
  next hzero => exact ⟨fun _ => ⟨rfl, rfl⟩, fun hon => absurd hzero hon, by simp⟩
  next hon =>
    split
    next hgate => exact ⟨fun hzero => absurd hzero hon, h, fun _ => hgate⟩
    next => exact ⟨fun hzero => absurd hzero hon, h, by simp⟩

/-- A step keeps the laws of an output (R148). -/
theorem PulseOutput.Inv.step {o : PulseOutput} {i : PulseItems} {d : DisciplineState} (h : o.Inv i d) (now : StationTime) :
    (o.step now).Inv i d := by
  obtain ⟨hoff, hon, htrailing⟩ := h
  unfold PulseOutput.step
  split
  · exact ⟨hoff, hon, htrailing⟩
  next c hc =>
    refine ⟨fun h0 => absurd (hoff h0).1 (by simp [hc]), fun h1 => ?_, by simp⟩
    simpa [hc] using hon h1

/-- A leading instant keeps the laws of an output: its pulse starts only when the gating holds (R145, R147). -/
theorem PulseOutput.Inv.lead {o : PulseOutput} {i : PulseItems} {d : DisciplineState} (h : o.Inv i d) :
    (o.lead (i.gating.holds d)).Inv i d := by
  obtain ⟨hoff, hon, htrailing⟩ := h
  unfold PulseOutput.lead
  split
  · exact ⟨hoff, hon, htrailing⟩
  next c hc =>
    refine ⟨fun h0 => absurd (hoff h0).1 (by simp [hc]), fun h1 => ?_, fun ht => ?_⟩
    · simpa [hc] using hon h1
    · dsimp only at ht
      split at ht
      next hgate => exact hgate
      next => exact htrailing ht

/-- A trailing instant keeps the laws of an output (R145). -/
theorem PulseOutput.Inv.trail {o : PulseOutput} {i : PulseItems} {d : DisciplineState} (h : o.Inv i d) :
    PulseOutput.Inv { o with trailing := none } i d := by
  obtain ⟨hoff, hon, -⟩ := h
  exact ⟨fun h0 => ⟨(hoff h0).1, rfl⟩, hon, by simp⟩

/-- Items whose timing is the same have the same settings (R149). -/
theorem PulseItems.settings_congr {i j : PulseItems} (h : i.timingDiffers j = false) :
    i.period = j.period ∧ i.settings = j.settings := by
  simp only [PulseItems.timingDiffers, Bool.or_eq_false_iff, bne_eq_false_iff_eq] at h
  obtain ⟨⟨hperiod, hoffset⟩, hwidth⟩ := h
  refine ⟨hperiod, ?_⟩
  unfold PulseItems.settings
  rw [hperiod, hoffset, hwidth]

/-- A swap brings an output under the new bank's items (R149). -/
theorem PulseOutput.Inv.swap {o : PulseOutput} {old new : PulseItems} {d : DisciplineState} (h : o.Inv old d)
    (now : StationTime) : (o.swap old new now d).Inv new d := by
  unfold PulseOutput.swap
  refine PulseOutput.Inv.gate fun hnew => ?_
  split
  · unfold PulseOutput.retime
    rw [if_neg hnew]
    rfl
  next hsame =>
    obtain ⟨hperiod, hsettings⟩ := PulseItems.settings_congr (Bool.eq_false_iff.2 hsame)
    rw [← hsettings]
    exact h.2.1 (hperiod ▸ hnew)

/-- What keeps the outputs, the active bank and the discipline state keeps the laws of the pulses. -/
theorem pulseInv_of_eq {s t : State} (hpulses : t.pulses = s.pulses) (hbank : t.bank = s.bank)
    (hstate : t.disc.state = s.disc.state) (hs : PulseInv s) : PulseInv t := by
  unfold PulseInv
  rw [hpulses, hbank, hstate]
  exact hs

/-- The gating of every output tested brings its laws (R147). -/
theorem pulseInv_gatePulses {s : State}
    (h : ∀ n : Fin 4, s.bank.outputs[n].period ≠ 0 → s.pulses[n].schedule.map (·.settings) = some s.bank.outputs[n].settings) :
    PulseInv (gatePulses s) := by
  intro n
  have hpulse : (gatePulses s).pulses[n] = s.pulses[n].gate s.bank.outputs[n] s.disc.state := by
    unfold gatePulses
    rw [State.withPulses_pulses, tab4_get]
  rw [hpulse, bank_eq_of_profiles (gatePulses_profiles s), gatePulses_disc]
  exact PulseOutput.Inv.gate (h n)

/-- A change of the discipline state tests every output's gating (R147). -/
theorem pulseInv_setDiscState {s : State} (hs : PulseInv s) (d : DisciplineState) : PulseInv (setDiscState d s) := by
  unfold setDiscState
  split
  · exact hs
  · refine pulseInv_gatePulses fun n => ?_
    rw [bank_eq_of_profiles (t := request _ _) (s := s) (by simp), request_pulses, State.withDisc_pulses]
    exact (hs n).2.1

/-- One output replaced by one that keeps its laws. -/
theorem pulseInv_set {s : State} (hs : PulseInv s) (n : Fin 4) {o : PulseOutput}
    (ho : o.Inv s.bank.outputs[n] s.disc.state) : PulseInv (s.withPulses (s.pulses.set n o)) := by
  intro m
  rw [State.withPulses_pulses, bank_eq_of_profiles (State.withPulses_profiles _ _), State.withPulses_disc]
  by_cases hm : m = n
  · subst hm
    simpa using ho
  · have hval : n.val ≠ m.val := fun h => hm (Fin.ext h.symm)
    simpa [Vector.getElem_set_ne _ _ hval] using hs m

/-- A step of station time keeps the laws of every output (R148). -/
theorem pulseInv_stepPulses {s : State} (hs : PulseInv s) : PulseInv (stepPulses s) := by
  intro n
  have hpulse : (stepPulses s).pulses[n] = s.pulses[n].step s.now := by
    unfold stepPulses
    rw [State.withPulses_pulses, tab4_get]
  rw [hpulse, bank_eq_of_profiles (stepPulses_profiles s), stepPulses_disc]
  exact (hs n).step _

/-- The swap's act on the outputs brings the laws of `old` under the bank now active (R149). -/
theorem pulseInv_swapPulses {s : State} {old : Profile}
    (h : ∀ n : Fin 4, s.pulses[n].Inv old.outputs[n] s.disc.state) : PulseInv (swapPulses old s) := by
  intro n
  have hpulse : (swapPulses old s).pulses[n] = s.pulses[n].swap old.outputs[n] s.bank.outputs[n] s.now s.disc.state := by
    unfold swapPulses
    rw [State.withPulses_pulses, tab4_get]
  rw [hpulse, bank_eq_of_profiles (swapPulses_profiles old s), swapPulses_disc]
  exact (h n).swap _

/-- No act breaks the laws of the pulse outputs. -/
theorem pulseInv_act {w : Powers} {s t : State} (h : Act w s t) (hs : PulseInv s) : PulseInv t := by
  cases h with
  | giveRhoI r =>
    obtain ⟨x, hx⟩ := giveRhoI_disc_eq r s
    exact pulseInv_of_eq (by simp) (bank_eq_of_profiles (by simp)) (by rw [hx]) hs
  | disc d state rhoI counts =>
    exact pulseInv_of_eq (State.withDisc_pulses _ _) (bank_eq_of_profiles (State.withDisc_profiles _ _)) state hs
  | setDiscState d => exact pulseInv_setDiscState hs d
  | stepPulses => exact pulseInv_stepPulses hs
  | leadPulse n => exact pulseInv_set hs n (hs n).lead
  | trailPulse n => exact pulseInv_set hs n (hs n).trail
  | exchange =>
    refine pulseInv_swapPulses fun n => ?_
    obtain ⟨x, hx⟩ := clampRates_disc_eq (swapDelays s.bank (decodeChange (exchangeBanks s)))
    rw [hx, swapDelays_disc, decodeChange_disc, exchangeBanks_disc, clampRates_pulses, swapDelays_pulses, decodeChange_pulses,
      exchangeBanks_pulses]
    exact hs n
  | stage p source => exact pulseInv_of_eq (by simp [setStaged]) (setStaged_bank p s) (by simp [setStaged]) hs
  | swapRequest r =>
    exact pulseInv_of_eq (State.withProfiles_pulses _ _) (by unfold State.bank; simp) (by simp) hs
  | _ => exact pulseInv_of_eq (by simp) (bank_eq_of_profiles (by simp)) (by simp) hs

/-- Settles O53: no act breaks the laws of the pulse outputs. -/
theorem stepKeepsPulses : Obligations.StepKeepsPulses := by
  intro s t hs h
  have hblocks {u v : State} (hb : v.blocks = u.blocks) : PulseInv u → PulseInv v := by
    obtain ⟨-, -, -, -, -, hdisc, -, hpulses, hprofiles, -⟩ := blocks_fields hb
    exact pulseInv_of_eq hpulses (bank_eq_of_profiles hprofiles) (by rw [hdisc])
  refine step_keeps (I := PulseInv) hblocks (fun hi hx hu => (does_exec hi hx).keeps hblocks pulseInv_act hu) (fun x => ?_)
    (@fun u => ?_) hs h
  · exact pulseInv_of_eq (State.withCaptures_pulses _ _) (bank_eq_of_profiles (State.withCaptures_profiles _ _))
      (congrArg Discipline.state (State.withCaptures_disc _ _)) resetMeetsInvariants.2.2.2.2.2.2.2.2.2.1
  · exact pulseInv_of_eq (by rw [tick_eq]) (bank_eq_of_profiles (tick_profiles u)) (by rw [tick_disc])

end Sys2Proof.Machine
end

section
/-! The memory port (01 R2, R4, R12 to R18): what acts leave of the Report Writer's queue, what a grant brings about, and the
laws of the port, of memory and of the burst in progress that every step keeps. -/

namespace Sys2Proof.Machine

/-! ## The queue -/

/-- The queue of `t` is that of `s` with kinds joined at its tail, and no generation counts (R171, R172). -/
structure QueueGrows (s t : State) : Prop where
  extends_ : s.report.queue <+: t.report.queue
  nodup : s.report.queue.Nodup → t.report.queue.Nodup
  generations : t.report.generations = s.report.generations

theorem QueueGrows.of_eq {s t : State} (hqueue : t.report.queue = s.report.queue)
    (hgenerations : t.report.generations = s.report.generations) : QueueGrows s t :=
  ⟨hqueue ▸ List.prefix_rfl, fun h => hqueue ▸ h, hgenerations⟩

theorem QueueGrows.refl (s : State) : QueueGrows s s := .of_eq rfl rfl

/-- The same Report Writer has the same queue. -/
theorem QueueGrows.of_report {s t : State} (h : t.report = s.report) : QueueGrows s t := .of_eq (by rw [h]) (by rw [h])

theorem QueueGrows.trans {s t u : State} (h : QueueGrows s t) (hu : QueueGrows t u) : QueueGrows s u :=
  ⟨h.extends_.trans hu.extends_, fun hn => hu.nodup (h.nodup hn), hu.generations.trans h.generations⟩

/-- A kind joins a queue once (R171). -/
theorem joinQueue_nodup {q : List BlockKind} (h : q.Nodup) (k : BlockKind) : (joinQueue q k).Nodup := by
  unfold joinQueue
  split
  · exact h
  next hk => exact List.Nodup.append h (List.nodup_singleton k) (by simpa using hk)

/-- The kinds of a request join in turn (R171). -/
theorem joinAll_grows (ks : List BlockKind) : ∀ q : List BlockKind, q <+: joinAll q ks ∧ (q.Nodup → (joinAll q ks).Nodup) := by
  induction ks with
  | nil => exact fun q => ⟨List.prefix_rfl, id⟩
  | cons k ks ih =>
    intro q
    obtain ⟨hprefix, hnodup⟩ := ih (joinQueue q k)
    exact ⟨(joinQueue_extends q k).trans hprefix, fun h => hnodup (joinQueue_nodup h k)⟩

/-- A request grows the queue (R171). -/
theorem request_grows (ks : List BlockKind) (s : State) : QueueGrows s (request ks s) := by
  unfold request
  split
  · exact .refl s
  · exact ⟨(joinAll_grows ks _).1, (joinAll_grows ks _).2, rfl⟩

theorem settleDelay_grows (p : Port) (d : PortDelay) (s : State) : QueueGrows s (settleDelay p d s) := by
  unfold settleDelay
  dsimp only
  split
  · exact QueueGrows.trans (t := setDelay p _ s) (.of_report rfl) (request_grows _ _)
  · exact .of_report rfl

theorem swapDelays_grows (old : Profile) (s : State) : QueueGrows s (swapDelays old s) := by
  have hone (p : Port) (u : State) : QueueGrows u (swapDelay old u p) := by
    unfold swapDelay clearPort
    split <;> exact settleDelay_grows _ _ _
  have hall (ps : List Port) : ∀ u : State, QueueGrows u (ps.foldl (swapDelay old) u) := by
    induction ps with
    | nil => exact .refl
    | cons p ps ih => exact fun u => (hone p u).trans (ih _)
  exact hall allPorts s

theorem setDiscState_grows (d : DisciplineState) (s : State) : QueueGrows s (setDiscState d s) := by
  unfold setDiscState
  split
  · exact .refl s
  · have hchanged : QueueGrows s (s.withDisc { s.disc with state := d }) := .of_report rfl
    exact (hchanged.trans (request_grows [.status, .discipline] _)).trans (.of_report rfl)

/-- An act only grows the queue (R171). -/
theorem Act.queueGrows {w : Powers} {s t : State} (h : Act w s t) : QueueGrows s t := by
  cases h with
  | request ks => exact request_grows ks s
  | report r queue generations flags => exact .of_eq queue generations
  | setDiscState d => exact setDiscState_grows d s
  | giveRho r => exact .of_report (giveRho_report r s)
  | giveRhoI r => exact .of_report (giveRhoI_report r s)
  | exchange =>
    refine QueueGrows.trans (t := swapDelays s.bank (Machine.decodeChange (exchangeBanks s))) ?_
      (.of_report ((swapPulses_report _ _).trans (clampRates_report _)))
    refine QueueGrows.trans ?_ (swapDelays_grows _ _)
    have hexchanged : QueueGrows s (exchangeBanks s) :=
      QueueGrows.trans (t := s.withProfiles { s.profiles with active := s.profiles.active.other, swap := .none })
        (.of_report rfl) (request_grows _ _)
    exact hexchanged.trans (.of_report (decodeChange_report _))
  | decodeChange => exact .of_report (decodeChange_report s)
  | _ => exact .of_report (by rfl)

/-- A run of acts only grows the queue. -/
theorem Work.queueGrows {w : Powers} {s t : State} (h : Work w s t) : QueueGrows s t :=
  h.keeps (I := QueueGrows s) (fun ha hu => hu.trans ha.queueGrows) (.refl s)

/-! ## The port before a grant -/

/-- A fabric access as it was presented and may have passed words since (R2, R18). -/
abbrev Access.Sound (a : Access) : Prop :=
  1 ≤ a.length ∧ a.length ≤ 16 ∧ a.passed ≤ a.length ∧ (a.passed = 0 → a.passThrough = false)

/-- An access of which no word has passed. -/
abbrev Access.Waits (a : Access) : Prop := 1 ≤ a.length ∧ a.length ≤ 16 ∧ a.passed = 0 ∧ a.passThrough = false

/-- The laws of the port that hold before a grant, too, when work may wait at a free port (R2, R4, R12, R13, R15, R171). -/
structure PortReady (s : State) : Prop where
  current : ∀ a ∈ s.arbiter.current, a.Sound
  waiting : ∀ a ∈ s.arbiter.waiting, a.Waits
  apart : s.arbiter.burst.isSome = true → s.arbiter.current = none
  burst : s.arbiter.owner = .report ↔ s.arbiter.burst.isSome = true
  fabric : portFree s = false → s.arbiter.owner = .fabric → s.arbiter.current.isSome = true
  held : s.resetHeld = true → s.arbiter.owner = .idle ∧ s.arbiter.waitCount = 0
  limit : s.arbiter.waitCount ≤ 64
  counts : 0 < s.arbiter.waitCount → s.report.queue ≠ []
  nodup : s.report.queue.Nodup

theorem PortInv.ready {s : State} (h : PortInv s) : PortReady s := by
  obtain ⟨hcurrent, hwaiting, hapart, hburst, hfabric, hheld, -, hlimit, hcounts, hnodup⟩ := h
  exact ⟨hcurrent, hwaiting, hapart, hburst, fun _ => hfabric, hheld, hlimit, hcounts, hnodup⟩

/-- At a port that has a user nothing waits for a grant. -/
theorem PortReady.inv_of_busy {s : State} (h : PortReady s) (hbusy : portFree s = false) : PortInv s :=
  ⟨h.current, h.waiting, h.apart, h.burst, h.fabric hbusy, h.held, fun hfree => absurd hfree (by simp [hbusy]), h.limit, h.counts,
    h.nodup⟩

/-- Acts that grow the queue keep the laws before a grant. -/
theorem PortReady.grows {s t : State} (h : PortReady s) (harbiter : t.arbiter = s.arbiter) (hheld : t.resetHeld = s.resetHeld)
    (hq : QueueGrows s t) : PortReady t := by
  have hfree : portFree t = portFree s := by unfold portFree; rw [harbiter]
  constructor
  all_goals try rw [harbiter]
  · exact h.current
  · exact h.waiting
  · exact h.apart
  · exact h.burst
  · rw [hfree]; exact h.fabric
  · rw [hheld]; exact h.held
  · exact h.limit
  · exact fun hpos hnil => h.counts hpos (List.prefix_nil.1 (hnil ▸ hq.extends_))
  · exact hq.nodup h.nodup

/-- A run of acts keeps the laws before a grant. -/
theorem PortReady.work {w : Powers} {s t : State} (h : PortReady s) (hw : Work w s t) : PortReady t := by
  obtain ⟨hheld, -, -, -, harbiter, -⟩ := outside_fields hw.outside_eq
  exact h.grows harbiter hheld hw.queueGrows

/-- A free port has no access and no burst. -/
theorem portFree_iff {s : State} : portFree s = true ↔ s.arbiter.current = none ∧ s.arbiter.burst = none := by
  simp [portFree]

/-- A burst of the queue's head at a free port keeps the laws of the port (R12, R13). -/
theorem portInv_startBurst {s : State} {k : BlockKind} {ks : List BlockKind} (h : PortReady s) (hfree : portFree s = true)
    (hr : s.resetHeld = false) (hq : s.report.queue = k :: ks) : PortInv (startBurst k ks s) := by
  obtain ⟨hcurrent, hburst⟩ := portFree_iff.1 hfree
  have hnodup : ks.Nodup := (List.nodup_cons.1 (hq ▸ h.nodup)).2
  refine ⟨h.current, h.waiting, fun _ => hcurrent, iff_of_true rfl rfl, fun ho => absurd ho (by simp [startBurst]),
    fun hheld => absurd hheld (by simp [hr]), fun hf => absurd hf (by simp [startBurst, portFree]), Nat.zero_le _,
    fun hpos => absurd hpos (Nat.lt_irrefl 0), hnodup⟩

/-- The first waiting access granted at a free port keeps the laws of the port (R12). -/
theorem portInv_grantFabric {s : State} {a : Access} {rest : List Access} (h : PortReady s) (hfree : portFree s = true)
    (hr : s.resetHeld = false) (hw : s.arbiter.waiting = a :: rest) : PortInv (grantFabric a rest s) := by
  obtain ⟨hcurrent, hburst⟩ := portFree_iff.1 hfree
  have ha : a.Waits := h.waiting a (hw ▸ List.mem_cons_self)
  refine ⟨fun b hb => ?_, fun b hb => h.waiting b (hw ▸ List.mem_cons_of_mem _ hb), fun hb => absurd hb (by simp [grantFabric, hburst]),
    iff_of_false (by simp [grantFabric]) (by simp [grantFabric, hburst]), fun _ => rfl, fun hheld => absurd hheld (by simp [hr]),
    fun hf => absurd hf (by simp [grantFabric, portFree]), h.limit, h.counts, h.nodup⟩
  obtain rfl : a = b := by simpa [grantFabric] using hb
  obtain ⟨hlow, hhigh, hpassed, hthrough⟩ := ha
  exact ⟨hlow, hhigh, by omega, fun _ => hthrough⟩

/-- A free port left idle when nothing waits keeps its laws (R12). -/
theorem portInv_idle {s : State} (h : PortReady s) (hfree : portFree s = true) (hw : s.arbiter.waiting = [])
    (hq : s.report.queue = []) : PortInv (s.withArbiter { s.arbiter with owner := .idle }) := by
  obtain ⟨hcurrent, hburst⟩ := portFree_iff.1 hfree
  refine ⟨h.current, h.waiting, h.apart, iff_of_false (by simp) (by simp [hburst]), fun ho => absurd ho (by simp),
    fun hheld => ⟨rfl, (h.held hheld).2⟩, fun _ => ⟨hw, .inr hq⟩, h.limit, h.counts, h.nodup⟩

/-- While reset is held the first waiting access has a free port at once (R15, R18). -/
theorem portInv_grantHeld {s : State} (h : PortReady s) (hfree : portFree s = true) (hr : s.resetHeld = true) :
    PortInv (grantHeld s) := by
  obtain ⟨hcurrent, hburst⟩ := portFree_iff.1 hfree
  obtain ⟨hidle, hzero⟩ := h.held hr
  unfold grantHeld
  split
  next hw =>
    exact ⟨h.current, h.waiting, h.apart, h.burst, fun ho => absurd ho (by simp [hidle]), h.held, fun _ => ⟨hw, .inl hr⟩, h.limit,
      h.counts, h.nodup⟩
  next a rest hw =>
    obtain ⟨hlow, hhigh, hpassed, hthrough⟩ : a.Waits := h.waiting a (hw ▸ List.mem_cons_self)
    refine PortReady.inv_of_busy ⟨fun b hb => ?_, fun b hb => h.waiting b (hw ▸ List.mem_cons_of_mem _ hb),
      fun hb => absurd hb (by simp [hburst]), h.burst, fun _ ho => absurd ho (by simp [hidle]), h.held, h.limit, h.counts,
      h.nodup⟩ (by simp [portFree])
    obtain rfl : a = b := by simpa using hb
    exact ⟨hlow, hhigh, by omega, fun _ => hthrough⟩

/-- The grant brings the laws of the port (R12). -/
theorem PortReady.inv_grantIfFree {s : State} (h : PortReady s) : PortInv (grantIfFree s) := by
  cases hfree : portFree s with
  | false =>
    rw [grantIfFree_busy hfree]
    exact h.inv_of_busy hfree
  | true =>
    cases hr : s.resetHeld with
    | true => exact grantIfFree_held hfree hr ▸ portInv_grantHeld h hfree hr
    | false =>
      cases hw : s.arbiter.waiting with
      | nil =>
        cases hq : s.report.queue with
        | nil => exact grantIfFree_none hfree hr hw hq ▸ portInv_idle h hfree hw hq
        | cons k ks => exact grantIfFree_report hfree hr hw hq ▸ portInv_startBurst h hfree hr hq
      | cons a rest =>
        cases hq : s.report.queue with
        | nil => exact grantIfFree_fabric hfree hr hw (.inl hq) ▸ portInv_grantFabric h hfree hr hw
        | cons k ks =>
          by_cases hc : s.arbiter.waitCount < 64
          · exact grantIfFree_fabric hfree hr hw (.inr hc) ▸ portInv_grantFabric h hfree hr hw
          · rw [grantIfFree_forced hfree hr hw hq (Nat.not_lt.1 hc)]
            have hstarted := portInv_startBurst h hfree hr hq
            exact (hstarted.ready.work (w := ⟨False, False, False⟩) (work_raise _ _)).inv_of_busy (by simp [startBurst, portFree, raise_arbiter_eq])

/-! ## Every step -/

/-- The access whose word passes is the one in progress, with a word left (R2). -/
theorem wordAccess_some {s : State} {a : Access} (h : s.wordAccess = some a) :
    s.arbiter.current = some a ∧ a.passed < a.length := by
  unfold State.wordAccess at h
  split at h
  next b hb =>
    split at h
    next hlt => exact Option.some.inj h ▸ ⟨hb, hlt⟩
    next => cases h
  next => cases h

/-- The arbiter after a word of the access in progress passed (R2, R18). -/
theorem Passes.arbiter_eq {s t : State} (h : Passes s t) : t.arbiter = (advance s).arbiter := by
  cases h <;> rfl

/-- A word that passes leaves the reset pin and the Report Writer. -/
theorem Passes.resetHeld_eq {s t : State} (h : Passes s t) : t.resetHeld = s.resetHeld := by
  cases h <;> rfl

theorem Passes.report_eq {s t : State} (h : Passes s t) : t.report = s.report := by
  cases h <;> rfl

/-- A word that passes keeps the laws before a grant (R2, R18). -/
theorem PortReady.passes {s t : State} (h : PortReady s) {a : Access} (hcurrent : s.arbiter.current = some a)
    (hlt : a.passed < a.length) (hp : Passes s t) : PortReady t := by
  obtain ⟨hlow, hhigh, -, -⟩ := h.current a hcurrent
  have hburst : s.arbiter.burst.isSome = false := by
    cases hb : s.arbiter.burst.isSome with
    | false => rfl
    | true => exact absurd (h.apart hb) (by simp [hcurrent])
  have harbiter : t.arbiter = advanced a s := by
    rw [hp.arbiter_eq, advance_eq hcurrent]
    rfl
  constructor
  all_goals try rw [harbiter]
  · intro b hb
    obtain rfl : { a with passed := a.passed + 1, passThrough := a.passThrough || s.resetHeld } = b := by
      simpa [advanced] using hb
    exact ⟨hlow, hhigh, hlt, fun h0 => absurd h0 (Nat.succ_ne_zero _)⟩
  · exact h.waiting
  · exact fun hb => absurd hb (by simp [advanced, hburst])
  · exact h.burst
  · exact fun _ _ => rfl
  · rw [hp.resetHeld_eq]
    exact h.held
  · exact h.limit
  · rw [hp.report_eq]
    exact h.counts
  · rw [hp.report_eq]
    exact h.nodup

/-- Where a word passed the port has a user. -/
theorem Passes.portFree_eq {s t : State} {a : Access} (hcurrent : s.arbiter.current = some a) (hp : Passes s t) :
    portFree t = false := by
  unfold portFree
  rw [hp.arbiter_eq, advance_eq hcurrent]
  rfl

/-- The wait count keeps its laws: 64 at most, and 0 with an empty queue (R13). -/
theorem PortReady.countWait {s : State} (h : PortReady s) : PortReady (countWait s) := by
  refine ⟨h.current, h.waiting, h.apart, h.burst, h.fabric, fun hheld => ⟨(h.held hheld).1, ?_⟩, ?_, ?_, h.nodup⟩
  · have hr : s.resetHeld = true := hheld
    simp [Machine.countWait, hr]
  · simp only [Machine.countWait, State.withArbiter_arbiter, waitLimit]
    split <;> omega
  · simp only [Machine.countWait, State.withArbiter_arbiter, State.withArbiter_report]
    split
    next => exact fun hpos => absurd hpos (Nat.lt_irrefl 0)
    next hq => exact fun _ hnil => hq (by simp [hnil])

/-- The part as it is before the grant at the end of an access (R13, R17). -/
theorem PortReady.ended {s : State} (h : PortReady s) {a : Access} (hcurrent : s.arbiter.current = some a) :
    PortReady (Machine.countWait (decodeChange (swapAtEnd (s.withArbiter { s.arbiter with current := none })))) := by
  have hburst : s.arbiter.burst = none := by
    cases hb : s.arbiter.burst with
    | none => rfl
    | some b => exact absurd (h.apart (by simp [hb])) (by simp [hcurrent])
  have hgone : PortReady (s.withArbiter { s.arbiter with current := none }) :=
    ⟨fun b hb => absurd hb (by simp), h.waiting, fun _ => rfl, h.burst, fun hf => absurd hf (by simp [portFree, hburst]), h.held,
      h.limit, h.counts, h.nodup⟩
  exact (hgone.work (work_endAccess (w := ⟨False, False, False⟩) s)).countWait

/-- Every row but those of the reset pin keeps the laws of the port. -/
theorem portInv_does {i : Instr} {s t : State} (h : Does i s t) (hs : PortInv s) : PortInv t := by
  have hready := hs.ready
  cases h with
  | nothing => exact hs
  | arrives a short new =>
    refine PortReady.inv_grantIfFree ⟨hready.current, fun b hb => ?_, hready.apart, hready.burst, hready.fabric, hready.held,
      hready.limit, hready.counts, hready.nodup⟩
    rcases List.mem_append.1 hb with hb | hb
    · exact hready.waiting b hb
    · exact List.mem_singleton.1 hb ▸ ⟨short.1, short.2, new.1, new.2⟩
  | @word row a u v _ next before passes after =>
    obtain ⟨hcurrent, hlt⟩ := wordAccess_some next
    obtain ⟨-, -, -, -, hbefore, -⟩ := outside_fields before.outside_eq
    obtain ⟨-, -, -, -, hafter, -⟩ := outside_fields after.outside_eq
    have hu : u.arbiter.current = some a := hbefore ▸ hcurrent
    refine (((hready.work before).passes hu hlt passes).work after).inv_of_busy ?_
    unfold portFree
    rw [hafter]
    exact passes.portFree_eq hu
  | accessEnds a current => exact (hready.ended current).inv_grantIfFree
  | burstEnds row b burst =>
    refine PortReady.inv_grantIfFree ⟨hready.current, hready.waiting, fun hb => absurd hb (by simp), iff_of_false (by simp) (by simp),
      fun _ ho => absurd ho (by simp), fun hheld => ⟨rfl, (hready.held hheld).2⟩, hready.limit, hready.counts, hready.nodup⟩
  | event released acts => exact (hready.work acts).inv_grantIfFree

/-- The part held in reset keeps the laws of the port (R15, R18). -/
theorem portInv_holdReset {s : State} (hs : PortInv s) : PortInv (holdReset s) := by
  have hready := hs.ready
  have hheld (c : Option Access) (w : List Access) (hc : ∀ a ∈ c, a.Sound) (hw : ∀ a ∈ w, a.Waits) (hnone : c = none → w = []) :
      PortInv
        { State.reset with
          memory := s.memory, ports := s.ports, freeIndex := s.freeIndex, pending := s.pending
          arbiter := { State.reset.arbiter with current := c, waiting := w } } := by
    have hnodup : State.reset.report.queue.Nodup := by decide
    refine ⟨hc, hw, fun hb => absurd hb (by simp [State.reset]), iff_of_false (by simp [State.reset]) (by simp [State.reset]),
      fun ho => absurd ho (by simp [State.reset]), fun _ => ⟨rfl, rfl⟩, fun hf => ⟨hnone (portFree_iff.1 hf).1, .inl rfl⟩,
      Nat.zero_le _, fun hpos => absurd hpos (Nat.lt_irrefl 0), hnodup⟩
  unfold holdReset heldAccess
  split
  next c hc =>
    obtain ⟨hlow, hhigh, hpassed, hthrough⟩ := hready.current c hc
    refine hheld _ _ (fun a ha => ?_) hready.waiting (fun hn => absurd hn (by simp))
    obtain rfl := Option.some.inj ha
    exact ⟨hlow, hhigh, hpassed, fun h0 => by simp [hthrough h0, show c.passed = 0 from h0]⟩
  next c w hc hw =>
    obtain ⟨hlow, hhigh, hpassed, hthrough⟩ := hready.waiting c (hw ▸ List.mem_cons_self)
    refine hheld _ _ (fun a ha => ?_) (fun a ha => hready.waiting a (hw ▸ List.mem_cons_of_mem _ ha)) (fun hn => absurd hn (by simp))
    obtain rfl := Option.some.inj ha
    exact ⟨hlow, hhigh, by omega, fun _ => hthrough⟩
  next hc hw => exact hheld _ _ (by simp) (by simp) (fun _ => rfl)

/-- The part brought up keeps the laws before a grant (R16, R18). -/
theorem portReady_bringUp {s : State} (hs : PortInv s) (base : BitVec 8) (bypass level0 level1 : Bool) :
    PortReady (bringUp base bypass level0 level1 s) := by
  have hready := hs.ready
  have hqueue : (bringUp base bypass level0 level1 s).report.queue.Nodup := by
    have hall : allBlocks.Nodup := by decide
    cases bypass
    · exact hall
    · exact List.nodup_nil
  have hup (hc : ∀ a ∈ (releasedAccess s.arbiter).1, a.Sound) (hw : ∀ a ∈ (releasedAccess s.arbiter).2, a.Waits) :
      PortReady (bringUp base bypass level0 level1 s) :=
    ⟨hc, hw, fun hb => absurd hb (by simp [bringUp, State.reset]), iff_of_false (by simp [bringUp, State.reset]) (by simp [bringUp, State.reset]),
      fun _ ho => absurd ho (by simp [bringUp, State.reset]), fun _ => ⟨rfl, rfl⟩, Nat.zero_le _, fun hpos => absurd hpos (Nat.lt_irrefl 0), hqueue⟩
  refine hup ?_ ?_
  all_goals
    unfold releasedAccess
    split
  · simp
  next c hc =>
    split
    · simp
    next hpassed =>
      obtain ⟨hlow, hhigh, hle, -⟩ := hready.current c hc
      intro a ha
      obtain rfl := Option.some.inj ha
      exact ⟨hlow, hhigh, hle, fun h0 => absurd h0 hpassed⟩
  · exact hready.waiting
  next c hc =>
    split
    next hpassed =>
      obtain ⟨hlow, hhigh, hle, hthrough⟩ := hready.current c hc
      intro a ha
      rcases List.mem_cons.1 ha with rfl | ha
      · exact ⟨hlow, hhigh, hpassed, hthrough hpassed⟩
      · exact hready.waiting a ha
    · exact hready.waiting

/-- What keeps the arbiter, the reset pin and the Report Writer keeps the laws of the port. -/
theorem portInv_of_eq {s t : State} (harbiter : t.arbiter = s.arbiter) (hheld : t.resetHeld = s.resetHeld)
    (hreport : t.report = s.report) (hs : PortInv s) : PortInv t := by
  unfold PortInv portFree
  rw [harbiter, hheld, hreport]
  exact hs

/-- A burst that is abandoned leaves the laws of the port. -/
theorem portInv_abandonBurst {s : State} (hs : PortInv s) : PortInv (abandonBurst s) := by
  unfold abandonBurst
  split
  · exact hs
  · exact portInv_of_eq (s := s) rfl rfl rfl hs

/-- The next state of a step: that of a row, of an event that is due, the same state while reset is held, or a tick's. -/
theorem step_next {s t : State} (h : step s = .next t) :
    (∃ i rest, s.pending = i :: rest ∧ exec i (s.withPending rest) = .next t) ∨
    (∃ i, s.pending = [] ∧ s.resetHeld = false ∧ dueEvent s = some i ∧ exec i s = .next t) ∨
    (s.pending = [] ∧ s.resetHeld = true ∧ t = s) ∨ (s.pending = [] ∧ s.resetHeld = false ∧ dueEvent s = none ∧ t = tick s) := by
  unfold step idleKind at h
  cases hp : s.pending with
  | cons i rest =>
    rw [hp] at h
    exact .inl ⟨i, rest, rfl, h⟩
  | nil =>
    rw [hp] at h
    cases hr : s.resetHeld with
    | true =>
      rw [hr] at h
      exact .inr (.inr (.inl ⟨rfl, rfl, (Host.Outcome.next.inj h).symm⟩))
    | false =>
      rw [hr] at h
      cases hd : dueEvent s with
      | some i =>
        rw [hd] at h
        exact .inr (.inl ⟨i, rfl, rfl, rfl, h⟩)
      | none =>
        rw [hd] at h
        exact .inr (.inr (.inr ⟨rfl, rfl, rfl, (Host.Outcome.next.inj h).symm⟩))

/-- A row of the reset pin: reset taken, released, or a release that finds nothing held (R15, R18). -/
theorem exec_resetRow {i : Instr} {s t : State} (hi : resetRow i = true) (h : exec i s = .next t) :
    t = s ∨ (i = .hardwareReset ∧ t = holdReset (abandonBurst s)) ∨
      (s.resetHeld = true ∧ ∃ base bypass level0 level1, i = .resetRelease base bypass level0 level1 ∧
        t = grantIfFree (bringUp base bypass level0 level1 s)) := by
  cases i with
  | hardwareReset => exact .inr (.inl ⟨rfl, (Host.Outcome.next.inj h).symm⟩)
  | resetRelease base bypass level0 level1 =>
    change execResetRelease base bypass level0 level1 s = .next t at h
    unfold execResetRelease at h
    split at h
    next hr => exact .inr (.inr ⟨hr, base, bypass, level0, level1, rfl, (Host.Outcome.next.inj h).symm⟩)
    next => exact .inl (Host.Outcome.next.inj h).symm
  | _ => cases hi

/-- Every row keeps the laws of the port. -/
theorem portInv_exec {i : Instr} {s t : State} (h : exec i s = .next t) (hs : PortInv s) : PortInv t := by
  cases hi : resetRow i with
  | false => exact portInv_does (does_exec hi h) hs
  | true =>
    rcases exec_resetRow hi h with rfl | ⟨-, rfl⟩ | ⟨-, base, bypass, level0, level1, -, rfl⟩
    · exact hs
    · exact portInv_holdReset (portInv_abandonBurst hs)
    · exact (portReady_bringUp hs base bypass level0 level1).inv_grantIfFree

/-- Settles O47: every row keeps the laws of the port, and a tick touches nothing of it. -/
theorem stepKeepsPort : Obligations.StepKeepsPort := by
  intro s t hs h
  rcases step_next h with ⟨i, rest, -, hx⟩ | ⟨i, -, -, -, hx⟩ | ⟨-, -, rfl⟩ | ⟨-, -, -, rfl⟩
  · exact portInv_exec hx hs
  · exact portInv_exec hx hs
  · exact hs
  · exact portInv_of_eq (by rw [tick_eq]) (by rw [tick_eq]) (by rw [tick_eq]) hs

end Sys2Proof.Machine
end

section
/-! Memory and the read data (01 R1 to R3; 05 R88): what each row stores, what the fabric reads back, and the words of the burst
in progress (10 R172). -/

namespace Sys2Proof.Machine

/-! ## What rows store -/

/-- A run of acts leaves memory and the ports. -/
theorem Work.memory_eq {w : Powers} {s t : State} (h : Work w s t) : t.memory = s.memory := by
  obtain ⟨-, -, hmemory, -⟩ := outside_fields h.outside_eq
  exact hmemory

theorem Work.ports_eq {w : Powers} {s t : State} (h : Work w s t) : t.ports = s.ports := by
  obtain ⟨-, -, -, hports, -⟩ := outside_fields h.outside_eq
  exact hports

/-- A row that is no word of an access stores nothing; the end of a burst apart, memory stays. -/
theorem Does.memory_eq {i : Instr} (hrow : wordRow i = false) (hburst : i ≠ .reportBurstEnd) {s t : State} (h : Does i s t) :
    t.memory = s.memory := by
  cases h with
  | nothing => rfl
  | arrives a => exact grantIfFree_memory _
  | word row => exact absurd row (by simp [hrow])
  | accessEnds a => exact endAccess_memory s
  | burstEnds row b => exact absurd row hburst
  | event released acts => rw [grantIfFree_memory, acts.memory_eq]

/-- A row that is no word of an access returns nothing to the fabric. -/
theorem Does.fabric_eq {i : Instr} (hrow : wordRow i = false) {s t : State} (h : Does i s t) :
    t.ports.fabric = s.ports.fabric := by
  cases h with
  | nothing => rfl
  | arrives a => exact congrArg PortOutputs.fabric (grantIfFree_ports _)
  | word row => exact absurd row (by simp [hrow])
  | accessEnds a => exact congrArg PortOutputs.fabric (endAccess_ports s)
  | burstEnds row b => exact (congrArg PortOutputs.fabric (grantIfFree_ports _)).trans rfl
  | event released acts => rw [grantIfFree_ports, acts.ports_eq]

/-- Memory after the word that a row stores, if it stores one (R3). -/
def storeInto (m : Memory) : Option (WordAddress × Enables × Word) → Memory
  | some (a, en, data) => m.writeWord a en data
  | none => m

/-- The word of a taken command is stored, and nothing is returned to the fabric. -/
theorem takeCommand_memory {i : Instr} {w : Word} {code tag : BitVec 8} {imm : BitVec 16}
    {act : Fin 16 → State → State × CommandResult} (h : TakesCommand i w code tag imm act) (s : State) :
    (takeCommand code tag imm act s).memory =
        storeInto s.memory ((commandTaken s).map fun x => (x.1.next, 0b1111, w)) ∧
      (takeCommand code tag imm act s).ports.fabric = s.ports.fabric := by
  cases hc : commandTaken s with
  | none =>
    rw [takeCommand_none hc]
    exact ⟨rfl, rfl⟩
  | some x =>
    obtain ⟨a, slot⟩ := x
    have hwork := (h.works slot (passWrite a.next 0b1111 (commandWord code tag imm) s)).trans
      (work_finishCommand slot code tag _)
    rw [takeCommand_some hc, h.word]
    exact ⟨hwork.memory_eq, (congrArg PortOutputs.fabric hwork.ports_eq).trans rfl⟩

/-- A command row stores the word that gives its command (R165). -/
theorem storedWord_command {i : Instr} (hi : i.commandCode.isSome = true) (s : State) :
    storedWord i s = (commandWordOf i).bind fun w => (commandTaken s).map fun x => (x.1.next, 0b1111, w) := by
  unfold storedWord
  split
  · cases hi
  · cases hi
  · cases hi
  · cases commandWordOf i <;> cases commandTaken s <;> rfl

/-- FABRIC_WORD_PASS stores its word when it is a write, and answers a read from memory (R3). -/
theorem fabricWordPass_memory {en : Enables} {data : Word} {s t : State} (h : exec (.fabricWordPass en data) s = .next t) :
    t.memory = storeInto s.memory (storedWord (.fabricWordPass en data) s) := by
  change execFabricWordPass en data s = .next t at h
  unfold execFabricWordPass at h
  split at h
  next a hr =>
    obtain rfl := Host.Outcome.next.inj h
    unfold passPlain
    split
    next hd => simp [storedWord, hr, hd, storeInto, passWrite]
    next hd => simp [storedWord, hr, hd, storeInto]
  next hr =>
    have hstored : storedWord (.fabricWordPass en data) s = none := by
      simp only [storedWord]
    rw [hstored, ← Host.Outcome.next.inj h]
    rfl

/-- SHADOW_WRITE stores its word (R164). -/
theorem shadowWrite_memory {en : Enables} {data : Word} {s t : State} (h : exec (.shadowWrite en data) s = .next t) :
    t.memory = storeInto s.memory (storedWord (.shadowWrite en data) s) ∧ t.ports.fabric = s.ports.fabric := by
  change execShadowWrite en data s = .next t at h
  unfold execShadowWrite at h
  split at h
  next a slot word hr =>
    obtain rfl := Host.Outcome.next.inj h
    exact ⟨by simp only [storedWord, hr]; rfl, rfl⟩
  next hr =>
    have hstored : storedWord (.shadowWrite en data) s = none := by
      simp only [storedWord]
    rw [hstored, ← Host.Outcome.next.inj h]
    exact ⟨rfl, rfl⟩

/-- CELL_WORD_WRITE stores its word (R5). -/
theorem cellWordWrite_memory {en : Enables} {data : Word} {s t : State} (h : exec (.cellWordWrite en data) s = .next t) :
    t.memory = storeInto s.memory (storedWord (.cellWordWrite en data) s) ∧ t.ports.fabric = s.ports.fabric := by
  change execCellWordWrite en data s = .next t at h
  unfold execCellWordWrite at h
  split at h
  next a key n lane hr =>
    obtain rfl := Host.Outcome.next.inj h
    have hwork := work_cellWrite (passWrite a.next en data s) (steps_cellWordWrite en data) ⟨_, _, rfl⟩ key n lane en data
    refine ⟨?_, (congrArg PortOutputs.fabric hwork.ports_eq).trans rfl⟩
    simp only [storedWord, hr]
    exact hwork.memory_eq
  next hr =>
    have hstored : storedWord (.cellWordWrite en data) s = none := by
      simp only [storedWord]
    rw [hstored, ← Host.Outcome.next.inj h]
    exact ⟨rfl, rfl⟩

/-- CELL_WORD_READ stores nothing (R61). -/
theorem cellWordRead_memory {s t : State} (h : exec .cellWordRead s = .next t) : t.memory = s.memory := by
  change execCellWordRead s = .next t at h
  unfold execCellWordRead at h
  split at h
  next k n q _ =>
    obtain rfl := Host.Outcome.next.inj h
    exact (work_egressRead (w := ⟨False, False, False⟩) s k n q).memory_eq
  next => exact Host.Outcome.next.inj h ▸ rfl

/-- A row but HARDWARE_RESET and REPORT_BURST_END stores its word and no more (R3; log 7). -/
theorem exec_memory {i : Instr} {s t : State} (h : exec i s = .next t) (hreset : i ≠ .hardwareReset)
    (hburst : i ≠ .reportBurstEnd) : t.memory = storeInto s.memory (storedWord i s) := by
  have hplain (hrow : wordRow i = false) (hi : resetRow i = false) (hs : storedWord i s = none) :
      t.memory = storeInto s.memory (storedWord i s) := by
    rw [hs]
    exact (does_exec hi h).memory_eq hrow hburst
  have hcommand (hi : i.commandCode.isSome = true) : t.memory = storeInto s.memory (storedWord i s) := by
    rw [storedWord_command hi]
    rcases exec_command hi with ⟨w, code, tag, imm, act, hw, hrow⟩ | ⟨hw, hnone⟩
    · rw [hw, ← Host.Outcome.next.inj ((hrow.takes s).symm.trans h)]
      exact (takeCommand_memory hrow s).1
    · rw [hw, ← Host.Outcome.next.inj ((hnone s).symm.trans h)]
      rfl
  cases i with
  | hardwareReset => exact absurd rfl hreset
  | reportBurstEnd => exact absurd rfl hburst
  | resetRelease base bypass level0 level1 =>
    rcases exec_resetRow rfl h with rfl | ⟨hi, -⟩ | ⟨-, _, _, _, _, -, rfl⟩
    · rfl
    · cases hi
    · exact grantIfFree_memory _
  | fabricWordPass en data => exact fabricWordPass_memory h
  | shadowWrite en data => exact (shadowWrite_memory h).1
  | cellWordWrite en data => exact (cellWordWrite_memory h).1
  | cellWordRead => exact cellWordRead_memory h
  | fabricAccessRequest | fabricAccessEnd | rollover | entryAgeExpiry | probeRecordExpiry | responderRecordExpiry
  | missingTimerExpiry | holdoverTimerExpiry | pulseLeadingInstant | pulseTrailingInstant | activeEdge | inputLevelChange =>
    exact hplain rfl rfl rfl
  | _ => exact hcommand rfl

/-! ## The words of a burst -/

/-- A word written leaves every octet of the others (R3). -/
theorem Memory.readOctet_writeBurst_ne {x : Nat} (ws : List (WordAddress × Word)) :
    ∀ {m : Memory}, m.wf = true → (∀ w ∈ ws, x / 4 ≠ w.1.toNat) → (m.writeBurst ws).readOctet x = m.readOctet x := by
  induction ws with
  | nil => exact fun _ _ => rfl
  | cons w ws ih =>
    intro m hm hne
    obtain ⟨hw, hws⟩ := List.forall_mem_cons.1 hne
    have hfirst : (m.writeWord w.1 0b1111 w.2).readOctet x = m.readOctet x := by
      rw [Memory.readOctet_writeWord hm, if_neg fun h => hw h.1]
    exact (ih (Memory.wf_writeWord hm _ _ _) hws).trans hfirst

/-- A burst leaves a word at an address it does not write. -/
theorem Memory.readWord_writeBurst_ne {a : WordAddress} {m : Memory} (hm : m.wf = true) {ws : List (WordAddress × Word)}
    (h : a ∉ ws.map (·.1)) : (m.writeBurst ws).readWord a = m.readWord a := by
  have hne (n : Nat) (hn : n < 4) : ∀ w ∈ ws, octetAddress a n / 4 ≠ w.1.toNat := by
    intro w hw he
    have haddress : octetAddress a n / 4 = a.toNat := by unfold octetAddress; omega
    exact h (List.mem_map.2 ⟨w, hw, BitVec.eq_of_toNat_eq (he.symm.trans haddress)⟩)
  unfold Memory.readWord
  rw [Memory.readOctet_writeBurst_ne ws hm (hne 0 (by decide)), Memory.readOctet_writeBurst_ne ws hm (hne 1 (by decide)),
    Memory.readOctet_writeBurst_ne ws hm (hne 2 (by decide)), Memory.readOctet_writeBurst_ne ws hm (hne 3 (by decide))]

/-- Each word of a burst at addresses of its own reads back (R3, R172). -/
theorem Memory.readWord_writeBurst {w : WordAddress × Word} (ws : List (WordAddress × Word)) :
    ∀ {m : Memory}, m.wf = true → (ws.map (·.1)).Nodup → w ∈ ws → (m.writeBurst ws).readWord w.1 = w.2 := by
  induction ws with
  | nil => exact fun _ _ h => absurd h List.not_mem_nil
  | cons v ws ih =>
    intro m hm hnodup hw
    obtain ⟨hv, hws⟩ := List.nodup_cons.1 hnodup
    have hm' : (m.writeWord v.1 0b1111 v.2).wf = true := Memory.wf_writeWord hm _ _ _
    rcases List.mem_cons.1 hw with rfl | hw
    · exact (Memory.readWord_writeBurst_ne hm' hv).trans (Memory.readWord_writeWord hm _ _)
    · exact ih hm' hws hw

/-- REPORT_BURST_END writes the burst's words (log 7). -/
theorem reportBurstEnd_memory {s t : State} (h : exec .reportBurstEnd s = .next t) :
    (s.arbiter.burst = none ∧ t = s) ∨
      ∃ b, s.arbiter.burst = some b ∧ t = endBurst b s ∧ t.memory = s.memory.writeBurst b.words := by
  change execReportBurstEnd s = .next t at h
  unfold execReportBurstEnd at h
  split at h
  next hb => exact .inl ⟨hb, (Host.Outcome.next.inj h).symm⟩
  next b hb =>
    obtain rfl := Host.Outcome.next.inj h
    exact .inr ⟨b, hb, rfl, grantIfFree_memory _⟩

/-- HARDWARE_RESET writes a part of the words of a burst in progress (R15; log 7). -/
theorem abandonBurst_memory (s : State) :
    (s.arbiter.burst = none ∧ (abandonBurst s).memory = s.memory) ∨
      ∃ b n, s.arbiter.burst = some b ∧ (abandonBurst s).memory = s.memory.writeBurst (b.words.take n) := by
  unfold abandonBurst
  split
  next hb => exact .inl ⟨hb, rfl⟩
  next b hb => exact .inr ⟨b, _, hb, rfl⟩

/-- Every row keeps the canonical form of memory. -/
theorem memoryInv_exec {i : Instr} {s t : State} (h : exec i s = .next t) (hs : MemoryInv s) : MemoryInv t := by
  by_cases hreset : i = .hardwareReset
  · subst hreset
    obtain rfl := Host.Outcome.next.inj h
    change (abandonBurst s).memory.wf = true
    rcases abandonBurst_memory s with ⟨-, hm⟩ | ⟨b, n, -, hm⟩
    · exact hm ▸ hs
    · exact hm ▸ Memory.wf_writeBurst _ hs
  · by_cases hburst : i = .reportBurstEnd
    · subst hburst
      rcases reportBurstEnd_memory h with ⟨-, rfl⟩ | ⟨b, -, -, hm⟩
      · exact hs
      · exact (congrArg Memory.wf hm).trans (Memory.wf_writeBurst _ hs)
    · refine (congrArg Memory.wf (exec_memory h hreset hburst)).trans ?_
      unfold storeInto
      split
      · exact Memory.wf_writeWord hs _ _ _
      · exact hs

/-- Settles O46: every row keeps the canonical form, and a tick leaves memory. -/
theorem stepKeepsMemory : Obligations.StepKeepsMemory := by
  intro s t hs h
  rcases step_next h with ⟨i, rest, -, hx⟩ | ⟨i, -, -, -, hx⟩ | ⟨-, -, rfl⟩ | ⟨-, -, -, rfl⟩
  · exact memoryInv_exec (s := s.withPending rest) hx hs
  · exact memoryInv_exec hx hs
  · exact hs
  · unfold MemoryInv
    rw [tick_eq]
    exact hs

/-- Settles O56: a row's own word, or the words of the burst in progress, and no others are written. -/
theorem memoryHoldsOnlyItsWrites : Obligations.MemoryHoldsOnlyItsWrites := by
  intro i s t hs h
  refine ⟨fun hreset hburst x => ?_, fun x hx hi => ?_, fun hi b hb hnodup w hw => ?_⟩
  · rw [exec_memory h hreset hburst]
    cases storedWord i s with
    | none => rfl
    | some v => exact Memory.readOctet_writeWord hs _ _ _ _
  · rcases hi with rfl | rfl
    · obtain rfl := Host.Outcome.next.inj h
      change (abandonBurst s).memory.readOctet x = s.memory.readOctet x
      rcases abandonBurst_memory s with ⟨-, hm⟩ | ⟨b, n, hb, hm⟩
      · rw [hm]
      · rw [hm]
        exact Memory.readOctet_writeBurst_ne _ hs fun w hw => hx b hb w (List.mem_of_mem_take hw)
    · rcases reportBurstEnd_memory h with ⟨-, rfl⟩ | ⟨b, hb, -, hm⟩
      · rfl
      · rw [hm]
        exact Memory.readOctet_writeBurst_ne _ hs (hx b hb)
  · subst hi
    rcases reportBurstEnd_memory h with ⟨hb', -⟩ | ⟨b', hb', -, hm⟩
    · exact absurd hb (by simp [hb'])
    · obtain rfl : b' = b := by simpa [hb'] using hb
      rw [hm]
      exact Memory.readWord_writeBurst _ hs hnodup hw

end Sys2Proof.Machine
end

section
/-! What the fabric reads back (01 R3; 05 R88), and the burst in progress from its start to its end (10 R172; 11 R177). -/

namespace Sys2Proof.Machine

/-! ## Read data -/

/-- The data of an egress lane's read: memory's, or a half of the held value at a transit word of a PATCHED slot (R88). -/
theorem egressData_cases (k : CellKey) (n : Nat) (q : Port) (data : Word) (s : State) :
    egressData k n q data s = data ∨
      ∃ (e : Entry) (raw : Raw) (held : BitVec 64), findLive k s.table.entries = some e ∧ e.slots[q] = .patched raw held ∧
        ((n = e.header.h + 2 ∧ egressData k n q data s = highWord held) ∨
          (n = e.header.h + 3 ∧ egressData k n q data s = lowWord held)) := by
  unfold egressData
  cases he : findLive k s.table.entries with
  | none => exact .inl rfl
  | some e =>
    dsimp only
    split
    next raw held hslot =>
      split
      next hn => exact .inr ⟨e, raw, held, rfl, hslot, .inl ⟨hn, rfl⟩⟩
      next =>
        split
        next hn => exact .inr ⟨e, raw, held, rfl, hslot, .inr ⟨hn, rfl⟩⟩
        next => exact .inl rfl
    next => exact .inl rfl

/-- A write word is never read from a cell (R5). -/
theorem writeRoute_ne_cellRead (s : State) (a : Access) (en : Enables) (k : CellKey) (n : Nat) (q : Port) :
    s.writeRoute a en ≠ .cellRead k n q := by
  unfold State.writeRoute commandRoute
  split
  · simp
  · split
    · split
      · split
        · split <;> simp
        · simp
      · simp
    · simp
    · simp

/-- Settles O57: only the two rows that pass a read word return data. -/
theorem readsDifferOnlyInTransit : Obligations.ReadsDifferOnlyInTransit := by
  intro i s t h
  have hplain (hrow : wordRow i = false) (hi : resetRow i = false) : t.ports.fabric = s.ports.fabric :=
    (does_exec hi h).fabric_eq hrow
  have hcommand (hi : i.commandCode.isSome = true) : t.ports.fabric = s.ports.fabric := by
    rcases exec_command hi with ⟨w, code, tag, imm, act, -, hrow⟩ | ⟨-, hnone⟩
    · exact Host.Outcome.next.inj ((hrow.takes s).symm.trans h) ▸ (takeCommand_memory hrow s).2
    · exact Host.Outcome.next.inj ((hnone s).symm.trans h) ▸ rfl
  cases i with
  | hardwareReset =>
    obtain rfl := Host.Outcome.next.inj h
    refine .inl ?_
    change (abandonBurst s).ports.fabric = s.ports.fabric
    unfold abandonBurst
    split <;> rfl
  | resetRelease base bypass level0 level1 =>
    rcases exec_resetRow rfl h with rfl | ⟨hi, -⟩ | ⟨-, _, _, _, _, -, rfl⟩
    · exact .inl rfl
    · cases hi
    · exact .inl (congrArg PortOutputs.fabric (grantIfFree_ports _))
  | fabricWordPass en data =>
    change execFabricWordPass en data s = .next t at h
    unfold execFabricWordPass at h
    split at h
    next a hr =>
      obtain rfl := Host.Outcome.next.inj h
      obtain ⟨hcurrent, -⟩ := wordAccess_some (route_some hr).1
      unfold passPlain
      cases hd : a.direction with
      | write => exact .inl rfl
      | read => exact .inr ⟨a, hcurrent, hd, .inl rfl⟩
    next => exact .inl (Host.Outcome.next.inj h ▸ rfl)
  | shadowWrite en data => exact .inl (shadowWrite_memory h).2
  | cellWordWrite en data => exact .inl (cellWordWrite_memory h).2
  | cellWordRead =>
    change execCellWordRead s = .next t at h
    unfold execCellWordRead at h
    split at h
    next a k n q hr =>
      obtain rfl := Host.Outcome.next.inj h
      obtain ⟨hnext, hroute⟩ := route_some hr
      have hmemory := (work_egressRead (w := ⟨False, False, False⟩) s k n q).memory_eq
      obtain ⟨hd, hread⟩ : a.direction = .read ∧ Route.cellRead k n q = s.readRoute a := by
        rcases hroute with ⟨-, hwrite⟩ | hread
        · exact absurd hwrite.symm (writeRoute_ne_cellRead s a 0 k n q)
        · exact hread
      refine .inr ⟨a, (wordAccess_some hnext).1, hd, ?_⟩
      change some (egressData k n q ((egressRead k n q s).memory.readWord a.next) (egressRead k n q s)) = _ ∨ _
      rw [hmemory]
      rcases egressData_cases k n q (s.memory.readWord a.next) (egressRead k n q s) with hdata | ⟨e, raw, held, hlive, hslot, hhalf⟩
      · exact .inl (congrArg some hdata)
      · exact .inr ⟨k, n, q, e, raw, held, hread.symm, hlive, hslot,
          hhalf.imp (fun x => ⟨x.1, congrArg some x.2⟩) (fun x => ⟨x.1, congrArg some x.2⟩)⟩
    next => exact .inl (Host.Outcome.next.inj h ▸ rfl)
  | fabricAccessRequest | fabricAccessEnd | reportBurstEnd | rollover | entryAgeExpiry | probeRecordExpiry | responderRecordExpiry
  | missingTimerExpiry | holdoverTimerExpiry | pulseLeadingInstant | pulseTrailingInstant | activeEdge | inputLevelChange =>
    exact .inl (hplain rfl rfl)
  | _ => exact .inl (hcommand rfl)

/-! ## The words of a block -/

/-- The data words of every block (section 11.4). -/
theorem blockData_length (k : BlockKind) (s : State) : (blockData k s).length = k.size := by
  cases k with
  | commands => simp [blockData, BlockKind.size]
  | _ => rfl

/-- Words placed keep their data. -/
theorem placeWords_map_snd (ws : List Word) : ∀ a, (placeWords a ws).map (·.2) = ws := by
  induction ws with
  | nil => exact fun _ => rfl
  | cons w ws ih => exact fun a => congrArg (w :: ·) (ih (a + 1))

/-- Words placed lie at consecutive addresses. -/
theorem placeWords_address {w : WordAddress × Word} (ws : List Word) :
    ∀ {a n : Nat}, (placeWords a ws)[n]? = some w → w.1 = BitVec.ofNat 22 (a + n) ∧ n < ws.length := by
  induction ws with
  | nil => exact fun h => by simp [placeWords] at h
  | cons v ws ih =>
    intro a n h
    cases n with
    | zero =>
      obtain rfl : (BitVec.ofNat 22 a, v) = w := by simpa [placeWords] using h
      exact ⟨rfl, Nat.succ_pos _⟩
    | succ n =>
      obtain ⟨haddress, hn⟩ := ih (a := a + 1) (n := n) (by simpa [placeWords] using h)
      exact ⟨by rw [haddress, Nat.add_right_comm, Nat.add_assoc], Nat.succ_lt_succ hn⟩

/-- The place of every block lies inside the report area (section 11.4). -/
theorem BlockKind.place_le (k : BlockKind) : k.offset + k.size + 2 ≤ 1024 := by
  cases k with
  | port p =>
    have := p.isLt
    simp only [offset, size]
    omega
  | _ => decide

/-- A burst takes its words in order: the generation, the data, the generation again (R172). -/
theorem burstWords_map_snd (k : BlockKind) (s : State) :
    (burstWords k s).map (·.2) = s.report.generations[k.number] :: blockData k s ++ [s.report.generations[k.number]] :=
  placeWords_map_snd _ _

/-- A burst's words frame its block (R172). -/
theorem framesBlock_burstWords (k : BlockKind) (s : State) :
    FramesBlock s.commandBase k s.report.generations[k.number] (burstWords k s) := by
  have hmap := burstWords_map_snd k s
  refine ⟨?_, fun n w hw => ?_, ?_, ?_⟩
  · rw [← List.length_map (·.2), hmap]
    simp [blockData_length]
  · obtain ⟨haddress, hn⟩ := placeWords_address _ hw
    have hplace := k.place_le
    have hbase := commandBase_le s
    have hlength : n.val < k.size + 2 := by simpa [blockData_length, Nat.lt_succ_iff] using hn
    have hvalue : w.1.toNat = s.commandBase + 1024 + k.offset + n.val := by
      rw [haddress, BitVec.toNat_ofNat]
      unfold State.reportBase
      omega
    omega
  · rw [← List.head?_map, hmap]
    rfl
  · rw [← List.getLast?_map, hmap]
    exact List.getLast?_concat

/-! ## The burst in progress -/

/-- The burst in progress follows the straps, the generations and the arbiter's own. -/
theorem burstInv_of_eq {s t : State} (hstraps : t.straps = s.straps) (hgenerations : t.report.generations = s.report.generations)
    (hburst : t.arbiter.burst = s.arbiter.burst) (hs : BurstInv s) : BurstInv t := by
  unfold BurstInv State.commandBase
  rw [hstraps, hgenerations, hburst]
  exact hs

/-- No burst is in progress. -/
theorem burstInv_of_none {s : State} (h : s.arbiter.burst = none) : BurstInv s := fun b hb => absurd hb (by simp [h])

/-- The burst that a grant starts frames its block (R172). -/
theorem burstInv_startBurst (k : BlockKind) (ks : List BlockKind) (s : State) : BurstInv (startBurst k ks s) := by
  intro b hb
  obtain rfl := Option.some.inj hb
  exact framesBlock_burstWords k _

/-- A run of acts leaves the burst in progress. -/
theorem Work.burst_eq {w : Powers} {s t : State} (h : Work w s t) : t.arbiter.burst = s.arbiter.burst := by
  obtain ⟨-, -, -, -, harbiter, -⟩ := outside_fields h.outside_eq
  rw [harbiter]

/-- A run of acts keeps the burst in progress. -/
theorem burstInv_work {w : Powers} {s t : State} (h : Work w s t) : BurstInv s → BurstInv t := by
  obtain ⟨-, hstraps, -⟩ := outside_fields h.outside_eq
  exact burstInv_of_eq hstraps h.queueGrows.generations h.burst_eq

/-- A grant keeps the burst in progress, or starts one (R12). -/
theorem burstInv_grantIfFree {s : State} (hs : BurstInv s) : BurstInv (grantIfFree s) := by
  cases hfree : portFree s with
  | false => rwa [grantIfFree_busy hfree]
  | true =>
    have hburst : s.arbiter.burst = none := (portFree_iff.1 hfree).2
    unfold grantIfFree
    rw [if_pos hfree]
    split
    · unfold grantHeld
      split
      · exact hs
      · exact burstInv_of_none hburst
    · unfold grant
      split
      · exact burstInv_of_none hburst
      · exact burstInv_startBurst _ _ s
      · exact burstInv_of_none hburst
      · split
        · exact burstInv_of_none hburst
        · exact burstInv_work (work_raise (w := ⟨False, False, False⟩) _ _) (burstInv_startBurst _ _ s)

/-- A grant leaves a burst that is in progress. -/
theorem grantIfFree_burst {s : State} {b : Burst} (h : s.arbiter.burst = some b) : (grantIfFree s).arbiter.burst = some b := by
  rw [grantIfFree_busy (by simp [portFree, h])]
  exact h

/-- A word that passes leaves the burst in progress, the straps and the Report Writer. -/
theorem Passes.burst_eq {s t : State} (h : Passes s t) : t.arbiter.burst = s.arbiter.burst := by
  cases h <;> rfl

theorem Passes.straps_eq {s t : State} (h : Passes s t) : t.straps = s.straps := by
  cases h <;> rfl

/-- Every row but those of the reset pin keeps the burst in progress. -/
theorem burstInv_does {i : Instr} {s t : State} (h : Does i s t) (hs : BurstInv s) : BurstInv t := by
  cases h with
  | nothing => exact hs
  | arrives a => exact burstInv_grantIfFree hs
  | word row next before passes after =>
    have hpassed := burstInv_of_eq passes.straps_eq (by rw [passes.report_eq]) passes.burst_eq (burstInv_work before hs)
    exact burstInv_work after hpassed
  | accessEnds a =>
    have hgone : BurstInv (s.withArbiter { s.arbiter with current := none }) := hs
    have hended := burstInv_work (work_endAccess (w := powersOf i) s) hgone
    exact burstInv_grantIfFree (burstInv_of_eq (s := decodeChange _) rfl rfl rfl hended)
  | burstEnds row b => exact burstInv_grantIfFree (burstInv_of_none rfl)
  | event released acts => exact burstInv_grantIfFree (burstInv_work acts hs)

/-- A burst in progress stays until REPORT_BURST_END (log 7). -/
theorem Does.burst_eq {i : Instr} (hi : i ≠ .reportBurstEnd) {s t : State} {b : Burst} (h : Does i s t)
    (hb : s.arbiter.burst = some b) : t.arbiter.burst = some b := by
  cases h with
  | nothing => exact hb
  | arrives a => exact grantIfFree_burst hb
  | word row next before passes after => rw [after.burst_eq, passes.burst_eq, before.burst_eq, hb]
  | accessEnds a =>
    exact grantIfFree_burst ((work_endAccess (w := powersOf i) s).burst_eq.trans hb)
  | burstEnds row => exact absurd row hi
  | event released acts => exact grantIfFree_burst (acts.burst_eq.trans hb)

/-- Every row keeps the burst in progress. -/
theorem burstInv_exec {i : Instr} {s t : State} (h : exec i s = .next t) (hs : BurstInv s) : BurstInv t := by
  cases hi : resetRow i with
  | false => exact burstInv_does (does_exec hi h) hs
  | true =>
    rcases exec_resetRow hi h with rfl | ⟨-, rfl⟩ | ⟨-, base, bypass, level0, level1, -, rfl⟩
    · exact hs
    · exact burstInv_of_none rfl
    · exact burstInv_grantIfFree (burstInv_of_none rfl)

/-- An event of time is no row of the reset pin and no end of a burst. -/
theorem dueEvent_some {s : State} {i : Instr} (h : dueEvent s = some i) : resetRow i = false ∧ i ≠ .reportBurstEnd := by
  unfold dueEvent at h
  split at h
  · exact Option.some.inj h ▸ ⟨rfl, nofun⟩
  · split at h
    · exact Option.some.inj h ▸ ⟨rfl, nofun⟩
    · exact Option.some.inj h ▸ ⟨rfl, nofun⟩
    · exact Option.some.inj h ▸ ⟨rfl, nofun⟩
    · split at h
      · exact Option.some.inj h ▸ ⟨rfl, nofun⟩
      · split at h
        · exact Option.some.inj h ▸ ⟨rfl, nofun⟩
        · split at h
          · exact Option.some.inj h ▸ ⟨rfl, nofun⟩
          · exact Option.some.inj h ▸ ⟨rfl, nofun⟩
          · cases h

/-- Settles O12: a grant takes the words of a burst, which every other row leaves until its end or a row of the reset pin. -/
theorem stepKeepsBurst : Obligations.StepKeepsBurst := by
  refine ⟨fun k s => ⟨framesBlock_burstWords k s, burstWords_map_snd k s⟩, fun s t h => ⟨fun hs => ?_, fun b hb hrow => ?_⟩⟩
  · rcases step_next h with ⟨i, rest, -, hx⟩ | ⟨i, -, -, -, hx⟩ | ⟨-, -, rfl⟩ | ⟨-, -, -, rfl⟩
    · exact burstInv_exec (s := s.withPending rest) hx hs
    · exact burstInv_exec hx hs
    · exact hs
    · exact burstInv_of_eq (by rw [tick_eq]) (by rw [tick_eq]) (by rw [tick_eq]) hs
  · rcases step_next h with ⟨i, rest, hp, hx⟩ | ⟨i, -, -, hd, hx⟩ | ⟨-, -, rfl⟩ | ⟨-, -, -, rfl⟩
    · obtain ⟨hend, hreset⟩ := hrow i rest hp
      exact (does_exec hreset hx).burst_eq hend hb
    · obtain ⟨hreset, hend⟩ := dueEvent_some hd
      exact (does_exec hreset hx).burst_eq hend hb
    · exact hb
    · rw [tick_eq]
      exact hb

end Sys2Proof.Machine
end

section
/-! Held in reset and in bypass (01 R16, R18): every word passes undecoded, no owner acts, and what happens moves no block but
the Time Base and the sampling of the inputs. -/

namespace Sys2Proof.Machine

/-- The blocks that neither the part held in reset nor the part in bypass moves (R16, R18). -/
def State.still (s : State) : WindowSet × Vector (Option Candidate) 7 × ResidenceTable × Vector PortDelay 6 × Discipline ×
    Vector PulseOutput 4 × ProfileStore × CommandMonitor :=
  (s.decode, s.candidates, s.table, s.delays, s.disc, s.pulses, s.profiles, s.monitor)

/-- Still blocks, one by one. -/
theorem still_fields {s : State} (h : s.still = State.reset.still) :
    s.decode = State.reset.decode ∧ s.candidates = State.reset.candidates ∧ s.table = State.reset.table ∧
    s.delays = State.reset.delays ∧ s.disc = State.reset.disc ∧ s.pulses = State.reset.pulses ∧
    s.profiles = State.reset.profiles ∧ s.monitor = State.reset.monitor := by
  simpa only [State.still, Prod.mk.injEq] using h

/-- No block moved but the Time Base and the sampling of the inputs, and no report is under way: held in reset, or in bypass
(R16, R18). -/
structure Resting (s : State) : Prop where
  burst : s.arbiter.burst = none
  still : s.still = State.reset.still
  undecoded : s.resetHeld = true ∨ (s.straps.bypass = true ∧ s.report.queue = [])

/-- Where nothing acts, a grant moves the arbiter alone (R15, R18). -/
theorem grantIfFree_rests {s : State} (hburst : s.arbiter.burst = none) (h : s.resetHeld = true ∨ s.report.queue = []) :
    ∃ x : Arbiter, x.burst = none ∧ grantIfFree s = s.withArbiter x := by
  cases hfree : portFree s with
  | false => exact ⟨s.arbiter, hburst, grantIfFree_busy hfree⟩
  | true =>
    cases hr : s.resetHeld with
    | true =>
      rw [grantIfFree_held hfree hr]
      unfold grantHeld
      split
      · exact ⟨s.arbiter, hburst, rfl⟩
      next a rest _ => exact ⟨{ s.arbiter with current := some a, waiting := rest }, hburst, rfl⟩
    | false =>
      have hq : s.report.queue = [] := h.resolve_left (by simp [hr])
      cases hw : s.arbiter.waiting with
      | nil => exact ⟨{ s.arbiter with owner := .idle }, hburst, grantIfFree_none hfree hr hw hq⟩
      | cons a rest => 
        exact ⟨{ s.arbiter with owner := .fabric, current := some a, waiting := rest }, hburst,
          grantIfFree_fabric hfree hr hw (.inl hq)⟩

/-- Still blocks have nothing for the decode change to do (R17). -/
theorem decodeChange_rests {s : State} (h : s.still = State.reset.still) : decodeChange s = s := by
  obtain ⟨hdecode, hcandidates, htable, -, -, -, hprofiles, -⟩ := still_fields h
  unfold decodeChange
  split
  · rfl
  · cases s
    dsimp only at hdecode hcandidates htable hprofiles
    subst hdecode hcandidates htable hprofiles
    rfl

/-- Still blocks have no swap (R158, R159). -/
theorem swap_rests {s : State} (h : s.still = State.reset.still) : s.profiles.swap = .none := by
  obtain ⟨-, -, -, -, -, -, hprofiles, -⟩ := still_fields h
  rw [hprofiles]
  rfl

/-- Every word passes undecoded (R16, R18). -/
theorem route_rests {s : State} (h : Resting s) {en : Enables} {a : Access} {r : Route} (hr : s.route en = some (a, r)) :
    r = .pass := by
  have hundecoded : s.undecoded a = true := by
    unfold State.undecoded
    rcases h.undecoded with hheld | ⟨hbypass, -⟩
    · simp [hheld]
    · simp [hbypass]
  rcases (route_some hr).2 with ⟨-, hw⟩ | ⟨-, hread⟩
  · rw [hw]
    simp [State.writeRoute, hundecoded]
  · rw [hread]
    simp [State.readRoute, hundecoded]

/-- State `t` is `s` with memory, the ports and the accesses moved. -/
def Moves (s t : State) : Prop :=
  ∃ (m : Memory) (p : PortOutputs) (x : Arbiter), x.burst = none ∧ t = { s with memory := m, ports := p, arbiter := x }

/-- Nothing moves. -/
theorem Moves.refl {s : State} (hs : s.arbiter.burst = none) : Moves s s := ⟨s.memory, s.ports, s.arbiter, hs, rfl⟩

/-- A grant where nothing acts, after a move of the arbiter (R15, R18). -/
theorem moves_grantIfFree {s : State} (hs : Resting s) (x : Arbiter) (hx : x.burst = none) :
    Moves s (grantIfFree (s.withArbiter x)) := by
  obtain ⟨y, hy, heq⟩ := grantIfFree_rests (s := s.withArbiter x) hx (hs.undecoded.imp_right And.right)
  exact ⟨s.memory, s.ports, y, hy, heq⟩

/-- A command row does nothing where words pass undecoded. -/
theorem command_rests {i : Instr} (hi : i.commandCode.isSome = true) {s t : State} (hs : Resting s)
    (h : exec i s = .next t) : t = s := by
  have hnone : commandTaken s = none := by
    cases hc : commandTaken s with
    | none => rfl
    | some x => exact absurd (route_rests hs (commandTaken_some hc)) (by simp)
  rcases exec_command hi with ⟨w, code, tag, imm, act, -, hrow⟩ | ⟨-, hrow⟩
  · exact Host.Outcome.next.inj (h.symm.trans ((hrow.takes s).trans (congrArg _ (takeCommand_none hnone _ _ _ _))))
  · exact Host.Outcome.next.inj (h.symm.trans (hrow s))

/-- The rows of events of time and of the input pins. -/
def eventRow : Instr → Bool
  | .rollover => true
  | .entryAgeExpiry _ => true
  | .probeRecordExpiry _ _ => true
  | .responderRecordExpiry _ _ _ => true
  | .missingTimerExpiry => true
  | .holdoverTimerExpiry => true
  | .pulseLeadingInstant _ => true
  | .pulseTrailingInstant _ => true
  | .activeEdge _ => true
  | .inputLevelChange _ => true
  | _ => false

/-- What a row that is no event does where nothing acts: words pass, accesses come and go (R16, R18). -/
theorem moves_exec {i : Instr} {s t : State} (hs : Resting s) (hreset : resetRow i = false) (hevent : eventRow i = false)
    (h : exec i s = .next t) : Moves s t := by
  have hnothing (he : t = s) : Moves s t := by
    subst he
    exact .refl hs.burst
  cases i with
  | hardwareReset | resetRelease => cases hreset
  | rollover | entryAgeExpiry | probeRecordExpiry | responderRecordExpiry | missingTimerExpiry | holdoverTimerExpiry
  | pulseLeadingInstant | pulseTrailingInstant | activeEdge | inputLevelChange => cases hevent
  | fabricAccessRequest address direction length =>
    change execFabricAccessRequest address direction length s = .next t at h
    unfold execFabricAccessRequest at h
    split at h
    · exact Host.Outcome.next.inj h ▸ moves_grantIfFree hs _ hs.burst
    · cases h
  | fabricWordPass en data =>
    change execFabricWordPass en data s = .next t at h
    unfold execFabricWordPass at h
    split at h
    · obtain rfl := Host.Outcome.next.inj h
      unfold passPlain
      split
      · exact ⟨_, _, (advance s).arbiter, hs.burst, rfl⟩
      · exact ⟨_, _, (advance s).arbiter, hs.burst, rfl⟩
    · exact hnothing (Host.Outcome.next.inj h).symm
  | shadowWrite en data =>
    change execShadowWrite en data s = .next t at h
    unfold execShadowWrite at h
    split at h
    next hr => exact absurd (route_rests hs hr) (by simp)
    next => exact hnothing (Host.Outcome.next.inj h).symm
  | cellWordWrite en data =>
    change execCellWordWrite en data s = .next t at h
    unfold execCellWordWrite at h
    split at h
    next hr => exact absurd (route_rests hs hr) (by simp)
    next => exact hnothing (Host.Outcome.next.inj h).symm
  | cellWordRead =>
    change execCellWordRead s = .next t at h
    unfold execCellWordRead at h
    split at h
    next hr => exact absurd (route_rests hs hr) (by simp)
    next => exact hnothing (Host.Outcome.next.inj h).symm
  | fabricAccessEnd =>
    change execFabricAccessEnd s = .next t at h
    unfold execFabricAccessEnd at h
    split at h
    · exact hnothing (Host.Outcome.next.inj h).symm
    · split at h
      · obtain rfl := Host.Outcome.next.inj h
        have hswap : swapAtEnd (s.withArbiter { s.arbiter with current := none }) =
            s.withArbiter { s.arbiter with current := none } := by
          unfold swapAtEnd
          rw [State.withArbiter_profiles, swap_rests hs.still]
        unfold endAccess
        rw [hswap, decodeChange_rests (s := s.withArbiter { s.arbiter with current := none }) hs.still]
        exact moves_grantIfFree hs
          { s.arbiter with
            current := none
            waitCount := if s.resetHeld || s.report.queue.isEmpty then 0 else min waitLimit (s.arbiter.waitCount + 1) } hs.burst
      · exact hnothing (Host.Outcome.next.inj h).symm
  | reportBurstEnd =>
    rcases reportBurstEnd_memory h with ⟨-, rfl⟩ | ⟨b, hb, -⟩
    · exact .refl hs.burst
    · exact absurd hb (by simp [hs.burst])
  | _ => exact hnothing (command_rests rfl hs h)

/-- An event that is not due does nothing. -/
theorem happens_false {c : Bool} (f : State → State) (s : State) (hc : c = false) : happens c f s = s := by
  subst hc
  simp [happens]

/-- While reset is held no event happens (R51). -/
theorem happens_held (c : Bool) (f : State → State) {s : State} (hr : s.resetHeld = true) : happens c f s = s := by
  simp [happens, hr]

/-- A rollover where nothing acts re-anchors the record (R45). -/
theorem giveRollover_rests {s : State} (h : s.still = State.reset.still) (hbypass : s.straps.bypass = true) :
    giveRollover s = s.withTime { s.time.reanchor with secondsSeen := s.now.sec } := by
  unfold giveRollover swapAtRollover
  dsimp only
  rw [request_bypass (by exact hbypass), State.withTime_profiles, swap_rests h]

/-- What the blocks hold at reset that an event of time looks at. -/
theorem reset_delays (p : Port) : State.reset.delays[p].probes = [] ∧ State.reset.delays[p].responders = [] := by
  revert p
  decide +kernel

theorem reset_pulses (n : Fin 4) : State.reset.pulses[n] = { schedule := none, trailing := none } := by
  revert n
  decide +kernel

theorem default_inputs (n : Fin 2) : defaultProfile.inputs[n].enable = false := by
  revert n
  decide +kernel

/-- What an event does in bypass: a rollover re-anchors the record, a change of level is recorded, and no other happens
(R16). -/
theorem event_rests {i : Instr} {s t : State} (hstill : s.still = State.reset.still) (hbypass : s.straps.bypass = true)
    (hevent : eventRow i = true) (h : exec i s = .next t) :
    t = s ∨ t = grantIfFree (s.withTime { s.time.reanchor with secondsSeen := s.now.sec }) ∨
      ∃ n level, t = grantIfFree (recordLevel n level s) := by
  obtain ⟨-, -, htable, hdelays, hdisc, hpulses, hprofiles, -⟩ := still_fields hstill
  have hhappens {c : Bool} {f : State → State} (hx : Host.Outcome.next (φ := Fault) (ρ := Refusal) (happens c f s) = .next t) :
      t = s ∨ (c = true ∧ t = grantIfFree (f s)) := by
    obtain rfl := Host.Outcome.next.inj hx
    unfold happens
    split
    next hc => exact .inr ⟨(Bool.and_eq_true_iff.1 hc).2, rfl⟩
    next => exact .inl rfl
  have hnot {c : Bool} {f : State → State} (hx : Host.Outcome.next (φ := Fault) (ρ := Refusal) (happens c f s) = .next t)
      (hc : c = false) : t = s := (hhappens hx).resolve_right fun hdue => by simp [hc] at hdue
  cases i with
  | rollover => exact (hhappens h).imp_right fun ⟨_, ht⟩ => .inl (giveRollover_rests hstill hbypass ▸ ht)
  | entryAgeExpiry order =>
    refine .inl (hnot h ?_)
    unfold agedOut
    rw [htable]
    rfl
  | probeRecordExpiry p sequence =>
    refine .inl (hnot h ?_)
    unfold probeDue
    rw [hdelays, (reset_delays p).1]
    rfl
  | responderRecordExpiry p sequence source =>
    refine .inl (hnot h ?_)
    unfold responderDue findResponder
    rw [hdelays, (reset_delays p).2]
    rfl
  | missingTimerExpiry =>
    refine .inl (hnot h ?_)
    unfold missingDue
    rw [hdisc]
    rfl
  | holdoverTimerExpiry =>
    refine .inl (hnot h ?_)
    unfold holdoverDue
    rw [hdisc]
    rfl
  | pulseLeadingInstant n =>
    refine .inl (hnot h ?_)
    unfold leadingDue
    rw [hpulses, reset_pulses n]
  | pulseTrailingInstant n =>
    refine .inl (hnot h ?_)
    unfold trailingDue
    rw [hpulses, reset_pulses n]
  | activeEdge n =>
    refine (hhappens h).imp_right fun ⟨_, ht⟩ => .inr ⟨n, activeLevelOf n s, ?_⟩
    have henable : (recordLevel n (activeLevelOf n s) s).bank.inputs[n].enable = false := by
      rw [bank_eq_of_profiles (t := recordLevel n (activeLevelOf n s) s) (s := State.reset) hprofiles]
      exact default_inputs n
    rw [ht]
    unfold takeEdge
    rw [if_neg (by rw [henable]; simp)]
  | inputLevelChange n => exact (hhappens h).imp_right fun ⟨_, ht⟩ => .inr ⟨n, _, ht⟩
  | _ => cases hevent

/-! ## The two invariants -/

/-- The part held in reset, field by field. -/
theorem heldInv_iff {s : State} : HeldInv s ↔ (s.resetHeld = true →
    Resting s ∧ s.straps = State.reset.straps ∧ s.time = State.reset.time ∧ s.captures = State.reset.captures ∧
      s.report = State.reset.report ∧ s.tickLimits = State.reset.tickLimits) := by
  refine forall_congr' fun hr => ⟨fun ⟨hburst, heq⟩ => ?_, fun ⟨hrest, hfields⟩ => ⟨hrest.burst, ?_⟩⟩
  · exact ⟨⟨hburst, (congrArg State.still heq).trans rfl, .inl hr⟩, (congrArg State.straps heq).trans rfl, (congrArg State.time heq).trans rfl,
      (congrArg State.captures heq).trans rfl, (congrArg State.report heq).trans rfl, (congrArg State.tickLimits heq).trans rfl⟩
  · obtain ⟨hdecode, hcandidates, htable, hdelays, hdisc, hpulses, hprofiles, hmonitor⟩ := still_fields hrest.still
    obtain ⟨hstraps, htime, hcaptures, hreport, hlimits⟩ := hfields
    cases s
    dsimp only at *
    subst hr hdecode hcandidates htable hdelays hdisc hpulses hprofiles hmonitor hstraps htime hcaptures hreport hlimits
    rfl

/-- The part in bypass, field by field. -/
theorem bypassInv_iff {s : State} : BypassInv s ↔ (s.resetHeld = false → s.straps.bypass = true →
    Resting s ∧ s.time.rho = 0 ∧
    (∀ n : Fin 2, s.captures[n] = { State.reset.captures[n] with level := s.captures[n].level, sampling := s.captures[n].sampling }) ∧
    s.report = { State.reset.report with queue := [] }) := by
  refine forall_congr' fun hr => forall_congr' fun hbypass => ⟨fun ⟨hburst, hrho, hcaptures, heq⟩ => ?_,
    fun ⟨hrest, hrho, hcaptures, hreport⟩ => ⟨hrest.burst, hrho, hcaptures, ?_⟩⟩
  · have hreport : s.report = { State.reset.report with queue := [] } :=
      (congrArg State.report heq).trans rfl
    exact ⟨⟨hburst, (congrArg State.still heq).trans rfl, .inr ⟨hbypass, by rw [hreport]⟩⟩, hrho, hcaptures, hreport⟩
  · obtain ⟨hdecode, hcandidates, htable, hdelays, hdisc, hpulses, hprofiles, hmonitor⟩ := still_fields hrest.still
    clear hbypass hrest hrho hcaptures
    cases s
    dsimp only at *
    subst hr hdecode hcandidates htable hdelays hdisc hpulses hprofiles hmonitor hreport
    rfl

/-- A move keeps the part held in reset. -/
theorem heldInv_moves {s t : State} (h : Moves s t) (hs : HeldInv s) : HeldInv t := by
  obtain ⟨m, p, x, hx, rfl⟩ := h
  refine heldInv_iff.2 fun hr => ?_
  obtain ⟨hrest, hfields⟩ := heldInv_iff.1 hs hr
  exact ⟨⟨hx, hrest.still, .inl hr⟩, hfields⟩

/-- A move keeps the part in bypass. -/
theorem bypassInv_moves {s t : State} (h : Moves s t) (hs : BypassInv s) : BypassInv t := by
  obtain ⟨m, p, x, hx, rfl⟩ := h
  refine bypassInv_iff.2 fun hr hbypass => ?_
  obtain ⟨hrest, hfields⟩ := bypassInv_iff.1 hs hr hbypass
  exact ⟨⟨hx, hrest.still, hrest.undecoded⟩, hfields⟩

/-- A re-anchored record keeps its rate (R43). -/
theorem TimeBase.reanchor_seen_rho (b : TimeBase) (sec : BitVec 32) :
    TimeBase.rho { b.reanchor with secondsSeen := sec } = b.rho := rfl

/-- In bypass a grant after an event keeps the part (R16). -/
theorem bypassInv_grantIfFree {s : State} (hr : s.resetHeld = false) (hbypass : s.straps.bypass = true) (hs : BypassInv s) :
    BypassInv (grantIfFree s) := by
  obtain ⟨hrest, -⟩ := bypassInv_iff.1 hs hr hbypass
  exact bypassInv_moves (moves_grantIfFree hrest s.arbiter hrest.burst) hs

/-- The level of an input recorded is all that an edge leaves in bypass (R16, R137). -/
theorem bypassInv_recordLevel {s : State} (n : Fin 2) (level : Bool) (hs : BypassInv s) : BypassInv (recordLevel n level s) := by
  refine bypassInv_iff.2 fun hr hbypass => ?_
  obtain ⟨hrest, hrho, hcaptures, hreport⟩ := bypassInv_iff.1 hs hr hbypass
  refine ⟨⟨hrest.burst, hrest.still, hrest.undecoded⟩, hrho, fun m => ?_, hreport⟩
  unfold recordLevel
  rw [State.withCaptures_captures]
  by_cases hm : m = n
  · subst hm
    rw [Fin.getElem_fin, Vector.getElem_set_self, hcaptures m]
  · rw [Fin.getElem_fin, Vector.getElem_set_ne _ _ fun hv => hm (Fin.ext hv.symm)]
    exact hcaptures m

/-- The record re-anchored keeps the part in bypass. -/
theorem bypassInv_reanchor {s : State} (sec : BitVec 32) (hs : BypassInv s) :
    BypassInv (s.withTime { s.time.reanchor with secondsSeen := sec }) := by
  refine bypassInv_iff.2 fun hr hbypass => ?_
  obtain ⟨hrest, hrho, hcaptures, hreport⟩ := bypassInv_iff.1 hs hr hbypass
  exact ⟨⟨hrest.burst, hrest.still, hrest.undecoded⟩, (TimeBase.reanchor_seen_rho s.time sec).trans hrho, hcaptures, hreport⟩

/-- While reset is held an event row does nothing (R51). -/
theorem event_held {i : Instr} {s t : State} (hr : s.resetHeld = true) (hevent : eventRow i = true) (h : exec i s = .next t) :
    t = s := by
  have hheld {c : Bool} {f : State → State} (hx : Host.Outcome.next (φ := Fault) (ρ := Refusal) (happens c f s) = .next t) :
      t = s := (Host.Outcome.next.inj hx).symm.trans (happens_held c f hr)
  cases i with
  | rollover | entryAgeExpiry | probeRecordExpiry | responderRecordExpiry | missingTimerExpiry | holdoverTimerExpiry
  | pulseLeadingInstant | pulseTrailingInstant | activeEdge | inputLevelChange => exact hheld h
  | _ => cases hevent

/-- A row that is none of the reset pin's leaves the pin and the straps. -/
theorem Does.pins_eq {i : Instr} {s t : State} (h : Does i s t) : t.resetHeld = s.resetHeld ∧ t.straps = s.straps := by
  have hwork {u v : State} (hw : Work (powersOf i) u v) : v.resetHeld = u.resetHeld ∧ v.straps = u.straps := by
    obtain ⟨hheld, hstraps, -⟩ := outside_fields hw.outside_eq
    exact ⟨hheld, hstraps⟩
  cases h with
  | nothing => exact ⟨rfl, rfl⟩
  | arrives a => exact ⟨grantIfFree_resetHeld _, grantIfFree_straps _⟩
  | word row next before passes after =>
    obtain ⟨hheld, hstraps⟩ := hwork before
    obtain ⟨hheld', hstraps'⟩ := hwork after
    exact ⟨by rw [hheld', passes.resetHeld_eq, hheld], by rw [hstraps', passes.straps_eq, hstraps]⟩
  | accessEnds a => exact ⟨endAccess_resetHeld s, endAccess_straps s⟩
  | burstEnds row b => exact ⟨endBurst_resetHeld b s, endBurst_straps b s⟩
  | event released acts =>
    obtain ⟨hheld, hstraps⟩ := hwork acts
    exact ⟨by rw [grantIfFree_resetHeld, hheld], by rw [grantIfFree_straps, hstraps]⟩

/-- The part brought up in bypass (R16, R18). -/
theorem bypassInv_bringUp (base : BitVec 8) (bypass level0 level1 : Bool) (s : State) :
    BypassInv (grantIfFree (bringUp base bypass level0 level1 s)) := by
  cases bypass with
  | false =>
    intro _ hbypass
    rw [grantIfFree_straps] at hbypass
    exact absurd hbypass (by simp [bringUp])
  | true =>
    refine bypassInv_grantIfFree rfl rfl (bypassInv_iff.2 fun _ _ => ⟨⟨rfl, rfl, .inr ⟨rfl, rfl⟩⟩, rfl, fun n => ?_, rfl⟩)
    have hcapture : (bringUp base true level0 level1 s).captures[n] =
        { State.reset.captures[n] with level := if n = 0 then level0 else level1 } := tab2_get _ n
    rw [hcapture]

/-- A row of the reset pin leaves the part held, or brought up (R15, R18). -/
theorem heldAndBypass_resetRow {i : Instr} {s t : State} (hi : resetRow i = true) (h : exec i s = .next t)
    (hs : HeldInv s ∧ BypassInv s) : HeldInv t ∧ BypassInv t := by
  rcases exec_resetRow hi h with rfl | ⟨-, rfl⟩ | ⟨-, base, bypass, level0, level1, -, rfl⟩
  · exact hs
  · exact ⟨fun _ => ⟨rfl, rfl⟩, fun hr => by cases hr⟩
  · refine ⟨fun hr => ?_, bypassInv_bringUp base bypass level0 level1 s⟩
    rw [grantIfFree_resetHeld] at hr
    cases hr

/-- Every row leaves the part held in reset, or in bypass, as it is (R16, R18). -/
theorem heldAndBypass_exec {i : Instr} {s t : State} (h : exec i s = .next t) (hs : HeldInv s ∧ BypassInv s) :
    HeldInv t ∧ BypassInv t := by
  cases hi : resetRow i with
  | true => exact heldAndBypass_resetRow hi h hs
  | false =>
    obtain ⟨hheld, hstraps⟩ := (does_exec hi h).pins_eq
    have hmoves (hrest : Resting s) (hevent : eventRow i = false) : HeldInv t ∧ BypassInv t :=
      have hm := moves_exec hrest hi hevent h
      ⟨heldInv_moves hm hs.1, bypassInv_moves hm hs.2⟩
    cases hr : s.resetHeld with
    | true =>
      cases hevent : eventRow i with
      | false => exact hmoves (heldInv_iff.1 hs.1 hr).1 hevent
      | true => exact event_held hr hevent h ▸ hs
    | false =>
      refine ⟨fun hr' => absurd hr' (by simp [hheld, hr]), ?_⟩
      cases hbypass : s.straps.bypass with
      | false => exact fun _ hbypass' => absurd hbypass' (by simp [hstraps, hbypass])
      | true =>
        have hrest := (bypassInv_iff.1 hs.2 hr hbypass).1
        cases hevent : eventRow i with
        | false => exact (hmoves hrest hevent).2
        | true =>
          rcases event_rests hrest.still hbypass hevent h with rfl | rfl | ⟨n, level, rfl⟩
          · exact hs.2
          · exact bypassInv_grantIfFree hr hbypass (bypassInv_reanchor _ hs.2)
          · exact bypassInv_grantIfFree hr hbypass (bypassInv_recordLevel n level hs.2)

/-- The queue's rest is no part of either invariant. -/
theorem heldAndBypass_withPending {s : State} (rest : List Instr) (hs : HeldInv s ∧ BypassInv s) :
    HeldInv (s.withPending rest) ∧ BypassInv (s.withPending rest) := by
  refine ⟨heldInv_iff.2 fun hr => ?_, bypassInv_iff.2 fun hr hbypass => ?_⟩
  · obtain ⟨hrest, hfields⟩ := heldInv_iff.1 hs.1 hr
    exact ⟨⟨hrest.burst, hrest.still, .inl hr⟩, hfields⟩
  · obtain ⟨hrest, hfields⟩ := bypassInv_iff.1 hs.2 hr hbypass
    exact ⟨⟨hrest.burst, hrest.still, hrest.undecoded⟩, hfields⟩

/-- A tick moves the raw count and the sampling alone (R38, R137). -/
theorem bypassInv_tick {s : State} (hs : BypassInv s) : BypassInv (tick s) := by
  refine bypassInv_iff.2 fun hr hbypass => ?_
  have hpin : (tick s).resetHeld = s.resetHeld ∧ (tick s).straps = s.straps := by rw [tick_eq]; exact ⟨rfl, rfl⟩
  obtain ⟨⟨hburst, hstill, hundecoded⟩, hrho, hcaptures, hreport⟩ :=
    bypassInv_iff.1 hs (hpin.1.symm.trans hr) ((congrArg Straps.bypass hpin.2).symm.trans hbypass)
  have hcapture (n : Fin 2) : (tick s).captures[n] = { s.captures[n] with sampling := s.captures[n].sampling.next } := by
    unfold tick sampleInputs
    rw [State.withTickLimits_captures, State.withCaptures_captures, State.withTime_captures, tab2_get]
  have hrest : (tick s).still = s.still ∧ (tick s).arbiter = s.arbiter ∧ (tick s).report = s.report := by
    simp only [State.still, tick_eq, and_self]
  obtain ⟨hstill', harbiter, hreport'⟩ := hrest
  refine ⟨⟨(congrArg Arbiter.burst harbiter).trans hburst, hstill'.trans hstill, ?_⟩, (tick_rho s).trans hrho, fun n => ?_, hreport'.trans hreport⟩
  · rw [hpin.1, hpin.2, hreport']
    exact hundecoded
  rw [hcapture, hcaptures n]

/-- Settles O54: where words pass undecoded no owner acts, and the events that happen move the Time Base and the sampling
alone. -/
theorem stepKeepsHeldAndBypass : Obligations.StepKeepsHeldAndBypass := by
  intro s t h hs
  rcases step_next h with ⟨i, rest, -, hx⟩ | ⟨i, -, -, -, hx⟩ | ⟨-, -, rfl⟩ | ⟨-, hr, -, rfl⟩
  · exact heldAndBypass_exec hx (heldAndBypass_withPending rest hs)
  · exact heldAndBypass_exec hx hs
  · exact hs
  · refine ⟨fun hr' => ?_, bypassInv_tick hs.2⟩
    rw [tick_eq] at hr'
    exact absurd hr' (by simp [hr])

end Sys2Proof.Machine
end

section
/-! Which rows go on (log 9), and the front of the queue (log 1). -/

namespace Sys2Proof.Machine

/-- Settles O1: by the definition of a step. -/
theorem stepTakesFront : Obligations.StepTakesFront := by
  intro c rest s h
  unfold step
  rw [h]

/-- Every row goes on but an access of a length outside 1 to 16, which faults (R2; log 9). -/
theorem exec_cases (c : Instr) (s : State) :
    (∃ t, exec c s = .next t ∧ ∀ a d n, c = .fabricAccessRequest a d n → 1 ≤ n ∧ n ≤ 16) ∨
      ∃ a d n, c = .fabricAccessRequest a d n ∧ ¬ (1 ≤ n ∧ n ≤ 16) ∧ exec c s = .fault .burstLength := by
  have hcommand (hi : c.commandCode.isSome = true) : ∃ t, exec c s = .next t := by
    rcases exec_command hi with ⟨w, code, tag, imm, act, -, hrow⟩ | ⟨-, hnone⟩
    · exact ⟨_, hrow.takes s⟩
    · exact ⟨_, hnone s⟩
  cases c with
  | fabricAccessRequest a d n =>
    by_cases hn : 1 ≤ n ∧ n ≤ 16
    · exact .inl ⟨presentAccess (newAccess a d n) s, if_pos hn, fun _ _ _ he => by cases he; exact hn⟩
    · exact .inr ⟨a, d, n, rfl, hn, if_neg hn⟩
  | hardwareReset | rollover | entryAgeExpiry | probeRecordExpiry | responderRecordExpiry | missingTimerExpiry
  | holdoverTimerExpiry | pulseLeadingInstant | pulseTrailingInstant | activeEdge | inputLevelChange =>
    exact .inl ⟨_, rfl, nofun⟩
  | resetRelease base bypass level0 level1 =>
    refine .inl ?_
    change ∃ t, execResetRelease base bypass level0 level1 s = .next t ∧ _
    unfold execResetRelease
    split <;> exact ⟨_, rfl, nofun⟩
  | fabricWordPass en data =>
    refine .inl ?_
    change ∃ t, execFabricWordPass en data s = .next t ∧ _
    unfold execFabricWordPass
    split <;> exact ⟨_, rfl, nofun⟩
  | shadowWrite en data =>
    refine .inl ?_
    change ∃ t, execShadowWrite en data s = .next t ∧ _
    unfold execShadowWrite
    split <;> exact ⟨_, rfl, nofun⟩
  | cellWordWrite en data =>
    refine .inl ?_
    change ∃ t, execCellWordWrite en data s = .next t ∧ _
    unfold execCellWordWrite
    split <;> exact ⟨_, rfl, nofun⟩
  | cellWordRead =>
    refine .inl ?_
    change ∃ t, execCellWordRead s = .next t ∧ _
    unfold execCellWordRead
    split <;> exact ⟨_, rfl, nofun⟩
  | fabricAccessEnd =>
    refine .inl ?_
    change ∃ t, execFabricAccessEnd s = .next t ∧ _
    unfold execFabricAccessEnd
    split
    · exact ⟨_, rfl, nofun⟩
    · split <;> exact ⟨_, rfl, nofun⟩
  | reportBurstEnd =>
    refine .inl ?_
    change ∃ t, execReportBurstEnd s = .next t ∧ _
    unfold execReportBurstEnd
    split <;> exact ⟨_, rfl, nofun⟩
  | _ =>
    obtain ⟨t, ht⟩ := hcommand rfl
    exact .inl ⟨t, ht, nofun⟩

/-- A row that is no access request goes on. -/
theorem exec_next {c : Instr} (h : ∀ a d n, c ≠ .fabricAccessRequest a d n) (s : State) : ∃ t, exec c s = .next t := by
  rcases exec_cases c s with ⟨t, ht, -⟩ | ⟨a, d, n, hc, -⟩
  · exact ⟨t, ht⟩
  · exact absurd hc (h a d n)

/-- Settles O3: the one row that does not go on is an access request of another length. -/
theorem onlyBadBurstLengthStops : Obligations.OnlyBadBurstLengthStops := by
  intro c s
  rcases exec_cases c s with ⟨t, ht, hc⟩ | ⟨a, d, n, hc, hn, hf⟩
  · exact ⟨fun r hr => by simp [ht] at hr, fun f => ⟨fun hf => by simp [ht] at hf,
      fun ⟨a, d, n, he, hn⟩ => absurd (hc a d n he) hn⟩⟩
  · refine ⟨fun r hr => by simp [hf] at hr, fun f => ⟨fun _ => ⟨a, d, n, hc, hn⟩, fun _ => ?_⟩⟩
    cases f
    exact hf

end Sys2Proof.Machine
end

section
/-! The laws of the table and its candidates are no step invariant as they stand (02 R30, R32; 04 R57): they leave open that an
OPEN entry holds every word it needs while its candidate still waits for words before the header's, and the next write of the cell
then completes the entry alone. -/

namespace Sys2Proof.Machine

/-- Window 0: cells of 16 words from word 4,096. -/
def unevenWindow : PoolWindow :=
  { enable := true, base := 4096, cellSize := 16, cellCount := 4, ingressTracking := true, processorTracking := true }

/-- A word wholly captured, of value 0. -/
def unevenWord : CapturedWord := { data := 0, present := 0b1111 }

/-- The candidate of port 0's lane on cell 0, gone on as a DETAIL at h = 4: of its words h+2 to h+7 are present, h+0 is not. -/
def unevenCandidate : Candidate where
  key := { window := 0, index := 0 }
  arrival := 0
  words := Vector.ofFn fun i => if 6 ≤ i.val ∧ i.val ≤ 11 then unevenWord else .empty
  header := some .four
  allocated := some .detail

/-- The OPEN entry made from it, with the same words, which are all that a DETAIL needs. -/
def unevenEntry : Entry where
  order := 0
  state := .opened
  key := { window := 0, index := 0 }
  header := .four
  origin := .ingress 0
  kind := .detail
  detailFollows := false
  sequence := 0
  domain := 0
  copy := tab8 fun i => unevenCandidate.word (6 + i.val)
  rawIn := 0
  snapshot := none
  link := .absent
  slots := tab6 fun _ => .idle

/-- The part with the two, and a write of word 1 of the cell next to pass. -/
def uneven : State :=
  { State.reset with
    resetHeld := false
    decode := { State.reset.decode with pool := State.reset.decode.pool.set 0 unevenWindow }
    candidates := State.reset.candidates.set 1 (some unevenCandidate)
    table := { entries := [unevenEntry], nextOrder := 1 }
    arbiter :=
      { State.reset.arbiter with
        owner := .fabric
        current := some { lane := 1, start := 4097, direction := .write, length := 1, passed := 0, passThrough := false } }
    pending := [.cellWordWrite 0b1111 0] }

/-- The state a step leaves; the same one where the step does not go on. -/
def stepped (s : State) : State :=
  match step s with
  | .next t => t
  | _ => s

/-- The laws hold before the write. -/
theorem uneven_laws : (TableInv uneven ∧ CellInv uneven) ∧ OriginInv uneven := by
  refine ⟨⟨?_, ?_⟩, ?_⟩
  all_goals decide +kernel

/-- After it the entry is COMPLETE, and the candidate is still open. -/
theorem stepped_uneven : (stepped uneven).candidates[(1 : Fin 7)].isSome = true ∧
    ((stepped uneven).table.entries.map (·.state)) = [.complete] ∧ ¬ OriginInv (stepped uneven) := by
  decide +kernel

/-- Refutes O51: the write of word 1 completes the entry, whose words are all present, but not its candidate, whose word h+0 is
not, and the entry is then no longer OPEN beside its candidate. -/
theorem not_stepKeepsTable : ¬ Obligations.StepKeepsTable := by
  intro h
  have hstep : step uneven = .next (stepped uneven) := by
    obtain ⟨t, ht⟩ := exec_next (c := .cellWordWrite 0b1111 0) nofun (uneven.withPending [])
    have hfront : step uneven = .next t := (stepTakesFront _ [] uneven rfl).trans ht
    rw [stepped, hfront]
  obtain ⟨hlaws, horigin⟩ := uneven_laws
  exact stepped_uneven.2.2 ((h uneven _ hlaws hstep).2.2 horigin)

end Sys2Proof.Machine
end

section
/-! Links in pairs (04 R65, R66, R68): the table's order and its pairs of links are kept by every act on its entries. -/

namespace Sys2Proof.Machine

/-- The laws of the table, of the table of a state. -/
theorem laws_of_table {s t : State} (h : t.table = s.table) (hs : s.table.Laws) : t.table.Laws := h ▸ hs

/-- The decode change retires entries (R68), and no more in the table. -/
theorem laws_decodeChange {s : State} (hs : s.table.Laws) : (decodeChange s).table.Laws := by
  unfold decodeChange
  split
  · exact hs
  · have hretired : (retireChanged s).table.Laws := hs.retireAll _
    exact laws_of_table (by simp) hretired

/-- No act breaks the laws of the table. -/
theorem laws_act {w : Powers} {s t : State} (h : Act w s t) (hs : s.table.Laws) : t.table.Laws := by
  cases h with
  | exchange =>
    rw [swapPulses_table, clampRates_table, swapDelays_table]
    exact laws_decodeChange (laws_of_table (exchangeBanks_table s) hs)
  | decodeChange => exact laws_decodeChange hs
  | setSlot o q x => exact hs.change o (keepsLink_setSlot q x)
  | retire o => exact hs.retire o
  | emptyTable => exact .empty s.table
  | frames allowed x y laws => exact laws hs
  | stage p source => exact laws_of_table (by simp [setStaged]) hs
  | _ => exact laws_of_table (by simp) hs

/-- A tick leaves the table (R38). -/
theorem tick_table (s : State) : (tick s).table = s.table := by rw [tick_eq]

/-- Settles O52: no act breaks the order of the table or its pairs of links. -/
theorem stepKeepsLinks : Obligations.StepKeepsLinks := by
  intro s t htable hlinks h
  have hblocks {u v : State} (hb : v.blocks = u.blocks) : u.table.Laws → v.table.Laws :=
    laws_of_table (blocks_fields hb).2.2.1
  have hlaws : t.table.Laws := by
    refine step_keeps (I := fun u => u.table.Laws) hblocks
      (fun hi hx hu => (does_exec hi hx).keeps hblocks laws_act hu) (fun x => ?_) (@fun u => laws_of_table (tick_table u))
      ⟨htable, hlinks⟩ h
    exact laws_of_table (State.withCaptures_table _ _) (s := .reset) (.empty State.reset.table)
  exact hlaws.2

end Sys2Proof.Machine
end

section
/-! The commands of the Report Writer and of the Profile Store (09 R156 to R161, 10 R169, R174): what each does to the part, and
their statements. -/

namespace Sys2Proof.Machine

/-- A taken command answers in its slot what its owner makes of the state after the word (R165). -/
theorem takeCommand_result {s : State} {a : Access} {slot : Fin 16} (h : AtCommand s a slot) {code tag : BitVec 8}
    {imm : BitVec 16} {act : Fin 16 → State → State × CommandResult} {t : State} {r : CommandResult}
    (hact : act slot (written a 0b1111 (commandWord code tag imm) s) = (t, r)) (ht : t.straps = s.straps) :
    takeCommand code tag imm act s = answered slot r tag code t := by
  rw [takeCommand_eq_answered h code tag imm act (by rw [hact, ht]), hact]

/-! ## The Report Writer -/

/-- FLAG_CLEAR in a part that is not in bypass (R169). -/
theorem clearFlags_eq {s : State} (h : s.straps.bypass = false) (mask : BitVec 16) :
    clearFlags mask s =
      { s with
        report := { s.report with flags := s.report.flags &&& ~~~mask, queue := joinQueue s.report.queue .status } } :=
  request_eq (s := s.withReport { s.report with flags := s.report.flags &&& ~~~mask }) h [.status]

/-- FLAG_ENABLE in a part that is not in bypass (R169). -/
theorem enableFlags_eq {s : State} (h : s.straps.bypass = false) (mask : BitVec 16) :
    enableFlags mask s =
      { s with report := { s.report with enables := mask, queue := joinQueue s.report.queue .status } } :=
  request_eq (s := s.withReport { s.report with enables := mask }) h [.status]

/-- Kinds that join a queue in turn stand behind those queued, each that is not queued yet once (R171). -/
theorem joinAll_eq_append {ks : List BlockKind} (hnodup : ks.Nodup) :
    ∀ q : List BlockKind, joinAll q ks = q ++ ks.filter fun k => !q.contains k := by
  induction ks with
  | nil => exact fun q => (List.append_nil q).symm
  | cons k ks ih =>
    intro q
    obtain ⟨hk, hnodup⟩ := List.nodup_cons.1 hnodup
    change joinAll (joinQueue q k) ks = _
    rw [ih hnodup]
    unfold joinQueue
    cases hq : q.contains k with
    | true => simp only [List.filter_cons, hq, if_true, Bool.not_true, Bool.false_eq_true, if_false]
    | false =>
      have hrest : (ks.filter fun j => !(q ++ [k]).contains j) = ks.filter fun j => !q.contains j := by
        refine List.filter_congr fun j hj => ?_
        have hne : j ≠ k := fun hjk => hk (hjk ▸ hj)
        simp [hne]
      simp only [Bool.false_eq_true, if_false, List.filter_cons, hq, Bool.not_false, if_true, hrest, List.append_assoc,
        List.singleton_append]

/-- The Commands block joins nothing when it is queued (R171). -/
theorem joinQueue_of_mem {q : List BlockKind} {k : BlockKind} (h : k ∈ q) : joinQueue q k = q :=
  if_pos (by simpa using h)

/-- A kind that has joined joins no more (R171). -/
theorem joinQueue_joinQueue (q : List BlockKind) (k : BlockKind) : joinQueue (joinQueue q k) k = joinQueue q k :=
  joinQueue_of_mem (mem_joinQueue.2 (.inr rfl))

/-- REPORT_NOW in a part that is not in bypass requests all blocks, its own answer's among them (R174). -/
theorem joinAll_allBlocks_commands (q : List BlockKind) :
    joinQueue (joinAll q allBlocks) .commands = q ++ allBlocks.filter fun k => !q.contains k := by
  rw [joinAll_eq_append (by decide)]
  refine joinQueue_of_mem ?_
  by_cases hq : BlockKind.commands ∈ q
  · exact List.mem_append_left _ hq
  · exact List.mem_append_right _ (List.mem_filter.2 ⟨by decide, by simpa using hq⟩)

/-- Settles O38: each command writes its register and requests its blocks, REPORT_NOW all eleven. -/
theorem reportCommandsAct : Obligations.ReportCommandsAct := by
  intro s a slot tag imm hat
  have ⟨⟨_, _, _, hbypass, _⟩, _⟩ := hat
  refine ⟨fun code hcode => ?_, ?_, ?_, _, ?_, rfl⟩
  · have hunknown : execUnknownCommand code tag imm s =
        .next (takeCommand code tag imm (fun _ s => (s, .unknownCommand)) s) := if_neg (by simpa using hcode)
    exact hunknown.trans (congrArg Host.Outcome.next (takeCommand_result hat rfl rfl))
  · exact congrArg Host.Outcome.next (takeCommand_result hat (act := fun _ s => (clearFlags imm s, .done))
      (congrArg (·, CommandResult.done) (clearFlags_eq (s := written a 0b1111 (commandWord 0x60 tag imm) s) hbypass imm)) rfl)
  · exact congrArg Host.Outcome.next (takeCommand_result hat (act := fun _ s => (enableFlags imm s, .done))
      (congrArg (·, CommandResult.done) (enableFlags_eq (s := written a 0b1111 (commandWord 0x61 tag imm) s) hbypass imm)) rfl)
  · have htaken := takeCommand_result hat (code := 0x62) (tag := tag) (act := fun _ s => (request allBlocks s, .done))
      (congrArg (·, CommandResult.done) (request_eq (s := written a 0b1111 (commandWord 0x62 tag imm) s) hbypass allBlocks)) rfl
    refine (congrArg Host.Outcome.next htaken).trans ?_
    unfold answered
    dsimp only
    rw [joinAll_allBlocks_commands]
    rfl

/-! ## The Profile Store -/

/-- The staged bank after it was written (R152, R156). -/
theorem setStaged_staged (p : Profile) (s : State) : (setStaged p s).staged = p := by
  cases h : s.profiles.active <;> simp [State.staged, setStaged, ProfileStore.withStaged, h]

/-- What a write of the staged bank leaves of the Profile Store (R152). -/
theorem setStaged_active_swap (p : Profile) (s : State) :
    (setStaged p s).profiles.active = s.profiles.active ∧ (setStaged p s).profiles.swap = s.profiles.swap := by
  cases h : s.profiles.active <;> simp [setStaged, ProfileStore.withStaged, h]

/-- A swap is requested (R156). -/
theorem swapRequested_iff {s : State} : swapRequested s = true ↔ s.profiles.swap ≠ .none := bne_iff_ne

/-- PROFILE_WRITE while a swap is requested (R156). -/
theorem profileWrite_busy {s : State} (h : s.profiles.swap ≠ .none) (slot : Fin 16) : profileWrite slot s = (s, .busy) :=
  if_pos (swapRequested_iff.2 h)

/-- The item a PROFILE_WRITE of this slot names, as it would be stored (R153). -/
abbrev namedItem (slot : Fin 16) (s : State) : Option (Stored Profile) :=
  writeItem ((s.monitor.shadows[slot][0]).extractLsb' 16 16).toNat ((s.monitor.shadows[slot][0]).extractLsb' 0 16).toNat
    (s.monitor.shadows[slot][1] ++ s.monitor.shadows[slot][2]) s.staged

/-- PROFILE_WRITE of no item (R153, R156). -/
theorem profileWrite_badItem {s : State} (h : s.profiles.swap = .none) {slot : Fin 16} (hitem : namedItem slot s = none) :
    profileWrite slot s = (s, .badItem) := by
  unfold profileWrite
  rw [if_neg fun hr => swapRequested_iff.1 hr h]
  dsimp only
  split
  · rfl
  next hx => exact absurd (hitem.symm.trans hx) (by simp)

/-- PROFILE_WRITE of an item (R156). -/
theorem profileWrite_item {s : State} (h : s.profiles.swap = .none) {slot : Fin 16} {x : Stored Profile}
    (hitem : namedItem slot s = some x) :
    profileWrite slot s = (setStaged x.value s, if x.adjusted then .clamped else .done) := by
  unfold profileWrite
  rw [if_neg fun hr => swapRequested_iff.1 hr h]
  dsimp only
  split
  next hx => exact absurd (hitem.symm.trans hx) (by simp)
  next y hy =>
    obtain rfl := Option.some.inj (hitem.symm.trans hy)
    rfl

/-- Settles O35: the word that passes changes neither the banks nor the shadow, and the item is written to the staged bank
alone. -/
theorem profileWriteStagesOneItem : Obligations.ProfileWriteStagesOneItem := by
  intro s a slot tag imm item hat hitem
  subst hitem
  have hexec {t : State} {r : CommandResult}
      (hact : profileWrite slot (written a 0b1111 (commandWord 0x50 tag imm) s) = (t, r)) (ht : t.straps = s.straps) :
      exec (.profileWrite tag imm) s = .next (answered slot r tag 0x50 t) :=
    congrArg Host.Outcome.next (takeCommand_result hat hact ht)
  let w := written a 0b1111 (commandWord 0x50 tag imm) s
  refine ⟨fun hswap => hexec (profileWrite_busy (s := w) hswap slot) rfl,
    fun hswap hitem => hexec (profileWrite_badItem (s := w) hswap hitem) rfl,
    fun hswap x hitem => ⟨_, hexec (profileWrite_item (s := w) hswap hitem) rfl, rfl, setStaged_staged x.value w,
      setStaged_bank x.value w, ?_⟩⟩
  have hkept := setStaged_active_swap x.value w
  exact ⟨hkept.1, hkept.2.trans hswap⟩

/-- PROFILE_COPY (R157). -/
theorem profileCopy_free {s : State} (h : s.profiles.swap = .none) : profileCopy s = (setStaged s.bank s, .done) :=
  if_neg fun hr => swapRequested_iff.1 hr h

/-- PROFILE_SWAP while no swap is requested, in a part that is not in bypass (R158, R159). -/
theorem requestSwap_free {s : State} (h : s.profiles.swap = .none) (hbypass : s.straps.bypass = false) (r : SwapRequest)
    (x : CommandResult) :
    requestSwap r x s =
      ({ s with
          profiles := { s.profiles with swap := r }
          report := { s.report with queue := joinQueue s.report.queue .status } }, x) :=
  (if_neg fun hr => swapRequested_iff.1 hr h).trans
    (congrArg (·, x) (request_eq (s := s.withProfiles { s.profiles with swap := r }) hbypass [.status]))

/-- The slot of a swap that ends shows how, if it still shows PENDING, in a part that is not in bypass (R159; log 15). -/
theorem rewriteSwapStatus_eq {s : State} (hbypass : s.straps.bypass = false) (slot : Fin 16) (r : CommandResult) :
    rewriteSwapStatus slot r s =
      if s.monitor.status[slot].result = .pending then
        { s with
          monitor := { s.monitor with status := s.monitor.status.set slot { s.monitor.status[slot] with result := r } }
          report := { s.report with queue := joinQueue s.report.queue .commands } }
      else s := by
  have hholds : slotHoldsSwap slot s = true ↔ s.monitor.status[slot].result = .pending := beq_iff_eq
  unfold rewriteSwapStatus
  simp only [hholds]
  split
  · exact request_eq (s := setStatus slot { s.monitor.status[slot] with result := r } s) hbypass [.commands]
  · rfl

/-- A pending swap cancelled, in a part that is not in bypass (R161). -/
theorem cancelSwap_pending {s : State} {given : Fin 16} (h : s.profiles.swap = .pending given) (hbypass : s.straps.bypass = false) :
    cancelSwap s = rewriteSwapStatus given .cancelled
      { s with
        profiles := { s.profiles with swap := .none }
        report := { s.report with queue := joinQueue s.report.queue .status } } := by
  unfold cancelSwap
  rw [h]
  exact congrArg (rewriteSwapStatus given .cancelled)
    (request_eq (s := s.withProfiles { s.profiles with swap := .none }) hbypass [.status])

/-- Settles O37: a request is refused while a swap is requested, a pending swap is cancelled and no other. -/
theorem profileRequestsAct : Obligations.ProfileRequestsAct := by
  intro s a slot tag imm high hat
  have ⟨⟨_, _, _, hbypass, _⟩, _⟩ := hat
  have hexec {i : Instr} {code : BitVec 8} {m : BitVec 16} {act : Fin 16 → State → State × CommandResult} {t : State}
      {r : CommandResult} (hi : exec i s = .next (takeCommand code tag m act s))
      (hact : act slot (written a 0b1111 (commandWord code tag m) s) = (t, r)) (ht : t.straps = s.straps) :
      exec i s = .next (answered slot r tag code t) :=
    hi.trans (congrArg Host.Outcome.next (takeCommand_result hat hact ht))
  refine ⟨⟨fun hswap => ?_, fun hswap => ?_⟩, ⟨fun hswap => ⟨?_, ?_⟩, fun hswap => ⟨?_, ?_⟩⟩, fun hnone => ?_, fun given hgiven => ?_⟩
  · exact hexec (act := fun _ s => profileCopy s) rfl (if_pos (swapRequested_iff.2 hswap)) rfl
  · let w := written a 0b1111 (commandWord 0x51 tag imm) s
    refine ⟨_, hexec (act := fun _ s => profileCopy s) rfl (profileCopy_free (s := w) hswap) rfl, rfl,
      setStaged_staged s.bank w, setStaged_bank s.bank w, ?_⟩
    have hkept := setStaged_active_swap s.bank w
    exact ⟨hkept.1, hkept.2.trans hswap⟩
  · exact hexec (act := fun _ s => requestSwap .waiting .done s) rfl (if_pos (swapRequested_iff.2 hswap)) rfl
  · exact hexec (act := fun slot s => requestSwap (.pending slot) .pending s) rfl (if_pos (swapRequested_iff.2 hswap)) rfl
  · exact hexec (act := fun _ s => requestSwap .waiting .done s) rfl
      (requestSwap_free (s := written a 0b1111 (commandWord 0x52 tag (high ++ 0#1)) s) hswap hbypass _ _) rfl
  · exact hexec (act := fun slot s => requestSwap (.pending slot) .pending s) rfl
      (requestSwap_free (s := written a 0b1111 (commandWord 0x52 tag (high ++ 1#1)) s) hswap hbypass _ _) rfl
  · refine hexec (act := fun _ s => profileCancel s) rfl ?_ rfl
    unfold profileCancel
    split
    next given hgiven => exact absurd hgiven (hnone given)
    · rfl
    · rfl
  · let w := written a 0b1111 (commandWord 0x53 tag imm) s
    have hcancelled : profileCancel w =
        (if s.monitor.status[given].result = .pending then
          { w with
            profiles := { s.profiles with swap := .none }
            monitor :=
              { s.monitor with status := s.monitor.status.set given { s.monitor.status[given] with result := .cancelled } }
            report := { s.report with queue := joinQueue (joinQueue s.report.queue .status) .commands } }
        else
          { w with
            profiles := { s.profiles with swap := .none }
            report := { s.report with queue := joinQueue s.report.queue .status } }, .done) := by
      unfold profileCancel
      split
      next other hother =>
        obtain rfl : given = other := by simpa using hgiven.symm.trans hother
        rw [cancelSwap_pending (s := w) hgiven hbypass, rewriteSwapStatus_eq (by exact hbypass)]
        rfl
      next hother => exact absurd (hgiven.symm.trans hother) (by simp)
      next hother => exact absurd (hgiven.symm.trans hother) (by simp)
    by_cases hstatus : s.monitor.status[given].result = .pending
    · refine (hexec (act := fun _ s => profileCancel s) rfl (hcancelled.trans (congrArg (·, _) (if_pos hstatus))) rfl).trans ?_
      rw [if_pos hstatus]
      unfold answered
      dsimp only
      rw [joinQueue_joinQueue]
    · refine (hexec (act := fun _ s => profileCancel s) rfl (hcancelled.trans (congrArg (·, _) (if_neg hstatus))) rfl).trans ?_
      rw [if_neg hstatus]
      rfl

end Sys2Proof.Machine
end

section
/-! The Discipline Unit's states (07 R114, R122 to R131): what a change of state does, and the timers and DISCIPLINE_HOLD that
bring one. -/

namespace Sys2Proof.Machine

/-! ## A change of state -/

/-- The outputs' gating tested at a discipline state (R147). -/
theorem gatePulses_pulses_get (s : State) (n : Fin 4) :
    (gatePulses s).pulses[n] =
      if s.bank.outputs[n].period = 0 then { schedule := none, trailing := none }
      else if s.bank.outputs[n].gating.holds s.disc.state then s.pulses[n] else { s.pulses[n] with trailing := none } :=
  tab4_get (fun n => s.pulses[n].gate s.bank.outputs[n] s.disc.state) n

/-- Two kinds requested (R171). -/
theorem request_pair (j k : BlockKind) (s : State) :
    request [j, k] s =
      { s with
        report :=
          { s.report with
            queue := if s.straps.bypass then s.report.queue else joinQueue (joinQueue s.report.queue j) k } } := by
  cases h : s.straps.bypass with
  | true => exact request_bypass h _
  | false => exact request_eq h _

/-- The Discipline Unit given new values and then a state: its gating is tested and its blocks are requested when the state is
another (section 7.4). -/
theorem disciplineBecomes_setDiscState (s : State) {d : Discipline} (hd : d.state = s.disc.state) (x : DisciplineState) :
    DisciplineBecomes { d with state := x } s (setDiscState x (s.withDisc d)) := by
  unfold setDiscState
  by_cases hx : d.state = x
  · subst hx
    rw [if_pos (by exact rfl)]
    exact ⟨rfl, fun _ => ⟨rfl, rfl⟩, fun hne => absurd hd hne⟩
  · have hsame : x ≠ s.disc.state := fun h => hx (hd.trans h.symm)
    rw [if_neg (by exact hx), request_pair]
    exact ⟨rfl, fun h => absurd h hsame, fun _ => ⟨gatePulses_pulses_get _, rfl⟩⟩

/-- A clamped rate, as the nearest rate of the range (R44). -/
theorem clampRate_eq_max {limit : Int} (h : 0 ≤ limit) (r : Int) : clampRate limit r = max (-limit) (min limit r) := by
  rw [clampRate_eq]
  split
  · omega
  · split <;> omega

/-- ρ given a rate: the record is re-anchored (R43, R44). -/
theorem giveRho_eq (r : Int) (s : State) :
    giveRho r s =
      { s with
        time :=
          { s.time with
            anchorRaw := s.time.raw, anchorStation := s.now, rho := max (-s.rateLimit) (min s.rateLimit r) } } := by
  rw [← clampRate_eq_max (rateLimit_nonneg s)]
  rfl

/-- The entry to HOLDOVER (R127): its timer starts, and then ρ is given ρ_i and HOLDOVER is raised. -/
theorem enterHoldover_eq (s : State) {u : State}
    (hu : u = setDiscState .holdover (s.withDisc { s.disc with holdover := some s.time.raw })) :
    enterHoldover s =
      raised 0x1000
        { u with
          time :=
            { s.time with
              anchorRaw := s.time.raw, anchorStation := s.now, rho := max (-s.rateLimit) (min s.rateLimit s.disc.rhoI) } } := by
  have htime : u.time = s.time := by rw [hu, setDiscState_time, State.withDisc_time]
  have hlimit : u.rateLimit = s.rateLimit :=
    rateLimit_of_profiles (by rw [hu, setDiscState_profiles, State.withDisc_profiles])
  have hnow : u.now = s.now := congrArg TimeBase.now htime
  have hrhoI : u.disc.rhoI = s.disc.rhoI := by
    rw [hu]
    unfold setDiscState
    split
    · rfl
    · rw [request_pair]
      rfl
  unfold enterHoldover
  rw [raise_eq_raised, ← hu, giveRho_eq, htime, hlimit, hnow, hrhoI]
  rfl

/-- What touches nothing outside the blocks leaves the straps. -/
theorem straps_of_outside {s t : State} (h : t.outside = s.outside) : t.straps = s.straps := congrArg (·.2.1) h

/-! ## DISCIPLINE_HOLD -/

/-- DISCIPLINE_HOLD that enters no state (R130). -/
theorem setHold_stays {on : Bool} {s : State} (h : on = false ∨ s.disc.hold = true ∨ s.disc.state ≠ .locked) :
    setHold on s = { s with disc := { s.disc with hold := on } } := by
  have hnot : ¬ ((on && !s.disc.hold) && s.disc.state == .locked) = true := by
    rcases h with h | h | h
    · simp [h]
    · simp [h]
    · simp [h]
  unfold setHold
  exact if_neg hnot

/-- DISCIPLINE_HOLD turned on in LOCKED (R130). -/
theorem setHold_locked {s : State} (hhold : s.disc.hold = false) (hstate : s.disc.state = .locked) :
    setHold true s = enterHoldover (s.withDisc { s.disc with hold := true }) := by
  unfold setHold
  exact if_pos (by simp [hhold, hstate])

/-- Settles O33: the word that passes leaves the Discipline Unit, and hold turned on in LOCKED enters HOLDOVER, where ρ_i lies in
the rate limit already. -/
theorem holdSetsHold : Obligations.HoldSetsHold := by
  intro s a slot tag imm hat
  have hexec {t : State} (hact : setHold (imm.getLsbD 0) (written a 0b1111 (commandWord 0x31 tag imm) s) = t)
      (ht : t.straps = s.straps) : exec (.disciplineHold tag imm) s = .next (answered slot .done tag 0x31 t) :=
    congrArg Host.Outcome.next
      (takeCommand_result hat (act := fun _ s => (setHold (imm.getLsbD 0) s, .done)) (congrArg (·, CommandResult.done) hact) ht)
  let w := written a 0b1111 (commandWord 0x31 tag imm) s
  refine ⟨fun hstays => hexec (setHold_stays (s := w) hstays) rfl, fun hon hhold hstate hrate => ?_⟩
  let u := setDiscState .holdover (w.withDisc { s.disc with hold := true, holdover := some s.time.raw })
  refine ⟨u, disciplineBecomes_setDiscState w (d := { s.disc with hold := true, holdover := some s.time.raw }) rfl .holdover, ?_⟩
  have hentered : setHold (imm.getLsbD 0) w =
      raised 0x1000
        { u with time := { s.time with anchorRaw := s.time.raw, anchorStation := s.now, rho := s.disc.rhoI } } := by
    rw [hon, setHold_locked (s := w) hhold hstate, enterHoldover_eq _ (u := u) rfl]
    have hrho : max (-s.rateLimit) (min s.rateLimit s.disc.rhoI) = s.disc.rhoI := by
      obtain ⟨-, -, hlow, hhigh⟩ := hrate
      omega
    exact congrArg (fun r => raised 0x1000
      { u with time := { s.time with anchorRaw := s.time.raw, anchorStation := s.now, rho := r } }) hrho
  refine hexec hentered ?_
  have hu : u.straps = w.straps := straps_of_outside (setDiscState_outside _ _)
  exact hu

end Sys2Proof.Machine
end

section
/-! What is due at a tick (03 R45; 04 R70; 06 R95, R99; 07 R114, R127; 08 R145): when each event of time happens, and what an
empty queue brings. -/

namespace Sys2Proof.Machine

/-! ## When each event is due -/

/-- A reading is so old (R40). -/
theorem elapsed_iff {now start : Raw} {n : Nat} : elapsed now start n = true ↔ (n : Int) ≤ rawDiff now start := decide_eq_true_iff

/-- The rollover is due (R45). -/
theorem rolloverDue_iff {s : State} : rolloverDue s = true ↔ DueAt s .rollover := bne_iff_ne

/-- An entry is due to age out (R70). -/
theorem ageDue_iff {e : Entry} {s : State} :
    ageDue e s = true ↔ (s.tickLimits.age : Int) ≤ rawDiff s.time.raw e.rawIn ∧
      (s.bank.ageLimit : Int) * 65536000000 ≤ rawDiff s.time.raw e.rawIn := by
  simp only [ageDue, Bool.and_eq_true, elapsed_iff, Profile.timerLimits, Nat.cast_mul, Nat.cast_ofNat]

/-- A record of a probe or responder list is due to expire (R95, R99). -/
theorem probeTimedOut_iff {start : Raw} {s : State} :
    probeTimedOut start s = true ↔ (s.tickLimits.probe : Int) ≤ rawDiff s.time.raw start ∧
      (s.bank.probeTimeout : Int) * 655360000000 ≤ rawDiff s.time.raw start := by
  simp only [probeTimedOut, Bool.and_eq_true, elapsed_iff, Profile.timerLimits, Nat.cast_mul, Nat.cast_ofNat]

/-- The missing timer is due (R114). -/
theorem missingDue_iff {s : State} : missingDue s = true ↔ DueAt s .missingTimerExpiry := by
  change _ ↔ ∃ x, s.disc.missing = some x ∧ (s.tickLimits.missing : Int) ≤ rawDiff s.time.raw x ∧
    (s.bank.discipline.missingTimeout : Int) * 6553600000000 ≤ rawDiff s.time.raw x
  unfold missingDue
  cases s.disc.missing with
  | none => simp
  | some x =>
    simp only [Bool.and_eq_true, elapsed_iff, Profile.timerLimits, Nat.cast_mul, Nat.cast_ofNat, Option.some.injEq,
      exists_eq_left']

/-- The holdover timer is due (R127). -/
theorem holdoverDue_iff {s : State} : holdoverDue s = true ↔ DueAt s .holdoverTimerExpiry := by
  change _ ↔ s.disc.state = .holdover ∧ ∃ x limit, s.disc.holdover = some x ∧ s.tickLimits.holdover = some limit ∧
    (limit : Int) ≤ rawDiff s.time.raw x ∧ s.bank.discipline.holdoverLimit ≠ 0 ∧
    (s.bank.discipline.holdoverLimit : Int) * 65536000000000 ≤ rawDiff s.time.raw x
  unfold holdoverDue
  rw [Bool.and_eq_true, beq_iff_eq]
  refine and_congr_right fun _ => ?_
  by_cases hlimit : s.bank.discipline.holdoverLimit = 0
  · simp [Profile.timerLimits, hlimit]
  · cases s.disc.holdover with
    | none => simp
    | some x => cases s.tickLimits.holdover with
      | none => simp
      | some n =>
        simp only [Profile.timerLimits, hlimit, if_false, Bool.and_eq_true, elapsed_iff, Nat.cast_mul, Nat.cast_ofNat,
          Option.some.injEq, exists_and_left, exists_eq_left', ne_eq, not_false_eq_true, true_and]

/-- An output has reached its next leading instant (R145). -/
theorem leadingDue_iff {n : Fin 4} {s : State} : leadingDue n s = true ↔ DueAt s (.pulseLeadingInstant n) := by
  change _ ↔ ∃ c, s.pulses[n].schedule = some c ∧ 0 ≤ s.now.sub c.next
  unfold leadingDue
  cases hc : s.pulses[n].schedule with
  | none => simp
  | some c => simp [StationTime.reached]

/-- An output has reached the end of its pulse (R145). -/
theorem trailingDue_iff {n : Fin 4} {s : State} : trailingDue n s = true ↔ DueAt s (.pulseTrailingInstant n) := by
  change _ ↔ ∃ x, s.pulses[n].trailing = some x ∧ 0 ≤ s.now.sub x
  unfold trailingDue
  cases hx : s.pulses[n].trailing with
  | none => simp
  | some x => simp [StationTime.reached]

/-- An entry of the table is due by its order (R70). -/
theorem dueAt_entryAge {s : State} {o : Nat} :
    DueAt s (.entryAgeExpiry o) ↔ ∃ e ∈ s.table.entries, e.order = o ∧ ageDue e s = true := by
  simp only [ageDue_iff]
  rfl

/-- A record of a Probe List is due by its sequence (R95). -/
theorem dueAt_probeRecord {s : State} {p : Port} {q : BitVec 16} :
    DueAt s (.probeRecordExpiry p q) ↔ ∃ r ∈ s.delays[p].probes, r.sequence = q ∧ probeTimedOut r.t1 s = true := by
  simp only [probeTimedOut_iff]
  rfl

/-- A record of a Responder List is due by its sequence and source (R99). -/
theorem dueAt_responderRecord {s : State} {p : Port} {q : BitVec 16} {i : Ident} :
    DueAt s (.responderRecordExpiry p q i) ↔
      ∃ r ∈ s.delays[p].responders, r.sequence = q ∧ r.source = i ∧ probeTimedOut r.t2 s = true := by
  simp only [probeTimedOut_iff]
  rfl

/-- The first member of a list that has a property which one member alone has. -/
theorem find?_eq_of_unique {α : Type} {p : α → Bool} {l : List α} {x : α} (hx : x ∈ l) (hp : p x = true)
    (hunique : ∀ y ∈ l, p y = true → y = x) : l.find? p = some x := by
  cases h : l.find? p with
  | none => exact absurd (List.find?_eq_none.1 h x hx) (by simp [hp])
  | some y => rw [hunique y (List.mem_of_find?_eq_some h) (List.find?_some h)]

/-- Of the records of a Probe List one alone has a sequence (R93). -/
theorem probe_unique {d : PortDelay} {b : Profile} (h : d.Inv b) {x y : ProbeRecord} (hx : x ∈ d.probes) (hy : y ∈ d.probes)
    (hs : x.sequence = y.sequence) : x = y := by
  have hnodup : (d.probes.map (·.sequence)).Nodup := List.pairwise_map.2 h.2.1
  exact List.inj_on_of_nodup_map hnodup hx hy hs

/-- Of the records of a Responder List one alone has a sequence and source (R96). -/
theorem responder_unique {d : PortDelay} {b : Profile} (h : d.Inv b) {x y : ResponderRecord} (hx : x ∈ d.responders)
    (hy : y ∈ d.responders) (hs : x.sequence = y.sequence) (hi : x.source = y.source) : x = y := by
  have hnodup : (d.responders.map fun r => (r.sequence, r.source)).Nodup := by
    refine List.pairwise_map.2 (h.2.2.2.1.imp fun hne heq => hne ?_)
    exact Prod.mk.inj heq
  exact List.inj_on_of_nodup_map hnodup hx hy (Prod.ext hs hi)

/-- The Probe List record of a sequence is the one found (R93, R95). -/
theorem probeDue_eq {s : State} (h : DelayInv s) {p : Port} {r : ProbeRecord} (hr : r ∈ s.delays[p].probes) :
    probeDue p r.sequence s = probeTimedOut r.t1 s := by
  unfold probeDue
  rw [find?_eq_of_unique hr (by simp) fun y hy hs => probe_unique (h p) hy hr (by simpa using hs)]
  rfl

/-- The Responder List record of a sequence and source is the one found (R96, R99). -/
theorem responderDue_eq {s : State} (h : DelayInv s) {p : Port} {r : ResponderRecord} (hr : r ∈ s.delays[p].responders) :
    responderDue p r.sequence r.source s = probeTimedOut r.t2 s := by
  unfold responderDue findResponder
  rw [find?_eq_of_unique hr (by simp [ResponderRecord.matches]) fun y hy hs => by
    have hs : y.sequence = r.sequence ∧ y.source = r.source := by simpa [ResponderRecord.matches] using hs
    exact responder_unique (h p) hy hr hs.1 hs.2]
  rfl

/-! ## What the search for a due event finds -/

/-- The entry found due (R70). -/
theorem dueEntry_some {s : State} {o : Nat} (h : dueEntry s = some o) : DueAt s (.entryAgeExpiry o) := by
  obtain ⟨e, he, rfl⟩ := Option.map_eq_some_iff.1 h
  exact dueAt_entryAge.2 ⟨e, List.mem_of_find?_eq_some he, rfl, List.find?_some (p := fun x => ageDue x s) he⟩

/-- No entry is found due exactly when none is (R70). -/
theorem dueEntry_none {s : State} : dueEntry s = none ↔ ∀ o, ¬ DueAt s (.entryAgeExpiry o) := by
  simp only [dueEntry, Option.map_eq_none_iff, List.find?_eq_none, dueAt_entryAge]
  exact ⟨fun h o ⟨e, he, _, hd⟩ => h e he hd, fun h e he hd => h e.order ⟨e, he, rfl, hd⟩⟩

/-- The probe record found due (R95). -/
theorem dueProbe_some {s : State} {p : Port} {q : BitVec 16} (h : dueProbe s = some (p, q)) :
    DueAt s (.probeRecordExpiry p q) := by
  obtain ⟨p', -, hp⟩ := List.exists_of_findSome?_eq_some h
  obtain ⟨r, hr, heq⟩ := Option.map_eq_some_iff.1 hp
  obtain ⟨rfl, rfl⟩ := Prod.mk.inj heq
  have hdue := List.find?_some hr
  rw [Bool.and_eq_true] at hdue
  exact dueAt_probeRecord.2 ⟨r, List.mem_of_find?_eq_some hr, rfl, hdue.1⟩

/-- No probe record is found due exactly when none is (R95). -/
theorem dueProbe_none {s : State} (hs : DelayInv s) : dueProbe s = none ↔ ∀ p q, ¬ DueAt s (.probeRecordExpiry p q) := by
  simp only [dueProbe, List.findSome?_eq_none_iff, Option.map_eq_none_iff, List.find?_eq_none, Bool.and_eq_true,
    dueAt_probeRecord]
  constructor
  · rintro h p q ⟨r, hr, rfl, hd⟩
    exact h p (mem_allPorts p) r hr ⟨hd, (probeDue_eq hs hr).trans hd⟩
  · exact fun h p _ r hr hd => h p r.sequence ⟨r, hr, rfl, hd.1⟩

/-- The responder record found due (R99). -/
theorem dueResponder_some {s : State} {p : Port} {q : BitVec 16} {i : Ident} (h : dueResponder s = some (p, q, i)) :
    DueAt s (.responderRecordExpiry p q i) := by
  obtain ⟨p', -, hp⟩ := List.exists_of_findSome?_eq_some h
  obtain ⟨r, hr, heq⟩ := Option.map_eq_some_iff.1 hp
  obtain ⟨rfl, hpair⟩ := Prod.mk.inj heq
  obtain ⟨rfl, rfl⟩ := Prod.mk.inj hpair
  have hdue := List.find?_some hr
  rw [Bool.and_eq_true] at hdue
  exact dueAt_responderRecord.2 ⟨r, List.mem_of_find?_eq_some hr, rfl, rfl, hdue.1⟩

/-- No responder record is found due exactly when none is (R99). -/
theorem dueResponder_none {s : State} (hs : DelayInv s) :
    dueResponder s = none ↔ ∀ p q i, ¬ DueAt s (.responderRecordExpiry p q i) := by
  simp only [dueResponder, List.findSome?_eq_none_iff, Option.map_eq_none_iff, List.find?_eq_none, Bool.and_eq_true,
    dueAt_responderRecord]
  constructor
  · rintro h p q i ⟨r, hr, rfl, rfl, hd⟩
    exact h p (mem_allPorts p) r hr ⟨hd, (responderDue_eq hs hr).trans hd⟩
  · exact fun h p _ r hr hd => h p r.sequence r.source ⟨r, hr, rfl, rfl, hd.1⟩

/-- The output found due (R145). -/
theorem dueOutput_some {due : Fin 4 → State → Bool} {s : State} {n : Fin 4} (h : dueOutput due s = some n) : due n s = true :=
  List.find?_some (p := fun n => due n s) h

/-- No output is found due exactly when none is (R145). -/
theorem dueOutput_none {due : Fin 4 → State → Bool} {s : State} : dueOutput due s = none ↔ ∀ n, ¬ due n s = true := by
  simp only [dueOutput, List.find?_eq_none, List.mem_cons, List.not_mem_nil, or_false]
  refine ⟨fun h n => h n ?_, fun h n _ => h n⟩
  revert n
  decide

/-- The event found due is due. -/
theorem dueAt_of_dueEvent {s : State} {i : Instr} (h : dueEvent s = some i) : DueAt s i := by
  unfold dueEvent at h
  split at h
  next hroll => exact Option.some.inj h ▸ rolloverDue_iff.1 hroll
  next =>
    split at h
    next o _ _ he => exact Option.some.inj h ▸ dueEntry_some he
    next p q _ _ hp => exact Option.some.inj h ▸ dueProbe_some hp
    next p q i _ _ hr => exact Option.some.inj h ▸ dueResponder_some hr
    next =>
      split at h
      next hm => exact Option.some.inj h ▸ missingDue_iff.1 hm
      next =>
        split at h
        next hh => exact Option.some.inj h ▸ holdoverDue_iff.1 hh
        next =>
          split at h
          next n _ ht => exact Option.some.inj h ▸ trailingDue_iff.1 (dueOutput_some ht)
          next n _ hl => exact Option.some.inj h ▸ leadingDue_iff.1 (dueOutput_some hl)
          next => cases h

/-- No event is found due exactly when each of the searches finds nothing. -/
theorem dueEvent_none {s : State} :
    dueEvent s = none ↔ ¬ rolloverDue s = true ∧ dueEntry s = none ∧ dueProbe s = none ∧ dueResponder s = none ∧
      ¬ missingDue s = true ∧ ¬ holdoverDue s = true ∧ dueOutput trailingDue s = none ∧ dueOutput leadingDue s = none := by
  unfold dueEvent
  split
  next hroll => simp [hroll]
  next hroll =>
    split
    next he => simp [he]
    next hp => simp [hp]
    next hr => simp [hr]
    next he hp hr =>
      split
      next hm => simp [hm]
      next hm =>
        split
        next hh => simp [hh]
        next hh =>
          split
          next ht => simp [ht]
          next hl => simp [hl]
          next ht hl => simp [hroll, he, hp, hr, hm, hh, ht, hl]

/-- No event is found due exactly when none is. -/
theorem dueEvent_none_iff {s : State} (hs : DelayInv s) : dueEvent s = none ↔ ∀ i, ¬ DueAt s i := by
  rw [dueEvent_none, rolloverDue_iff, dueEntry_none, dueProbe_none hs, dueResponder_none hs, missingDue_iff, holdoverDue_iff,
    dueOutput_none, dueOutput_none]
  simp only [trailingDue_iff, leadingDue_iff]
  constructor
  · rintro ⟨hroll, hentry, hprobe, hresponder, hmissing, hholdover, htrailing, hleading⟩ i
    cases i with
    | rollover => exact hroll
    | entryAgeExpiry o => exact hentry o
    | probeRecordExpiry p q => exact hprobe p q
    | responderRecordExpiry p q i => exact hresponder p q i
    | missingTimerExpiry => exact hmissing
    | holdoverTimerExpiry => exact hholdover
    | pulseTrailingInstant n => exact htrailing n
    | pulseLeadingInstant n => exact hleading n
    | _ => exact id
  · exact fun h => ⟨h _, fun o => h _, fun p q => h _, fun p q i => h _, h _, h _, fun n => h _, fun n => h _⟩

/-- Settles O2: with an empty queue a part held in reset rests, and otherwise a due event happens or a tick passes. -/
theorem emptyQueueRunsClock : Obligations.EmptyQueueRunsClock := by
  intro s hpending
  have hstep : step s = match idleKind s with
      | .rest => .next s
      | .event i => exec i s
      | .tick => .next (tick s) := by
    unfold step
    split
    next hcons => exact absurd (hpending.symm.trans hcons) (by simp)
    next => rfl
  refine ⟨fun hheld => ?_, fun hreleased => ⟨fun i hi => ⟨dueAt_of_dueEvent hi, ?_⟩, dueEvent_none_iff, fun hnone => ?_⟩⟩
  · have hidle : idleKind s = .rest := by simp [idleKind, hheld]
    rw [hstep, hidle]
  · have hidle : idleKind s = .event i := by simp [idleKind, hreleased, hi]
    rw [hstep, hidle]
  · have hidle : idleKind s = .tick := by simp [idleKind, hreleased, hnone]
    rw [hstep, hidle]
    exact congrArg Host.Outcome.next (tick_eq s)

end Sys2Proof.Machine
end

section
/-! The events of time of the Residence Table, the Delay Unit and the Discipline Unit (04 R66, R70; 06 R95, R99; 07 R114, R127):
what each leaves, and the grant after it. -/

namespace Sys2Proof.Machine

/-! ## An event, and the grant after it -/

/-- An event that is due happens while the part is released (R51). -/
theorem happens_eq {c : Bool} (f : State → State) {s : State} (hr : s.resetHeld = false) (hc : c = true) :
    happens c f s = grantIfFree (f s) := by
  simp [happens, hr, hc]

/-- What an event leaves is granted where it found the port free (R12). -/
theorem event_grantAfter {s v : State} (hr : s.resetHeld = false) (hv : v.outside = s.outside) :
    GrantAfter s v (grantIfFree v) :=
  grantAfter_grantIfFree ((congrArg (·.1) hv).trans hr) (congrArg (·.2.2.2.2.1) hv)

/-- An event that requests no report finds no work waiting at a free port (R12). -/
theorem grantIfFree_event {s v : State} (hr : s.resetHeld = false) (hs : PortInv s) (hv : v.outside = s.outside)
    (hq : v.report.queue = s.report.queue) : grantIfFree v = v := by
  have harbiter : v.arbiter = s.arbiter := congrArg (·.2.2.2.2.1) hv
  have hheld : v.resetHeld = s.resetHeld := congrArg (·.1) hv
  refine grantIfFree_of_portInv ?_ (hheld.trans hr)
  unfold PortInv portFree at hs ⊢
  rwa [harbiter, hheld, hq]

/-! ## The end of an entry -/

/-- The end of an entry of a table in order, by its own link (R66). -/
theorem retireEntry_of_mem {es : List Entry} (horder : InOrder es) {e : Entry} (he : e ∈ es) :
    retireEntry e.order es = endLink e (es.filter fun x => x.order != e.order) := by
  unfold retireEntry
  rw [findOrder_eq horder he]

/-- The end of an entry of a table in order: the entry goes, and its linked partner follows (R66, R67). -/
theorem entryEnds_retireEntry {es : List Entry} (horder : InOrder es) {e : Entry} (he : e ∈ es) :
    EntryEnds e es (retireEntry e.order es) := by
  rw [retireEntry_of_mem horder he]
  refine ⟨fun hnone => ?_, fun f hf hlink => ?_⟩
  · unfold endLink
    split
    next o ho =>
      have hnot : ∀ x ∈ es.filter (fun x => x.order != e.order), x.order ≠ o := fun x hx hxo =>
        hnone x (List.mem_filter.1 hx).1 (hxo ▸ ho)
      split
      · have hstay : (es.filter fun x => x.order != e.order).filter (fun m => !(m.order == o && m.state == .detached)) =
            es.filter fun x => x.order != e.order :=
          List.filter_eq_self.2 fun x hx => by simp [hnot x hx]
        rw [hstay]
        exact (List.map_congr_left fun x hx => if_neg (hnot x hx)).trans (List.map_id _)
      · exact (List.map_congr_left fun x hx => if_neg (hnot x hx)).trans (List.map_id _)
    next => rfl
  · unfold endLink
    rw [hlink]
    dsimp only
    refine ⟨fun hdetail hstate => ?_, fun hdetail hstate => ?_, fun hdetail => if_neg hdetail⟩
    · rw [if_pos hdetail]
      have hstay : (es.filter fun x => x.order != e.order).filter (fun m => !(m.order == f.order && m.state == .detached)) =
          es.filter fun x => x.order != e.order := by
        refine List.filter_eq_self.2 fun x hx => ?_
        by_cases ho : x.order = f.order
        · obtain rfl := horder.inj (List.mem_filter.1 hx).1 hf ho
          simp [hstate]
        · simp [ho]
      rw [hstay]
    · rw [if_pos hdetail]
      have hgone : (es.filter fun x => x.order != e.order).filter (fun m => !(m.order == f.order && m.state == .detached)) =
          es.filter fun x => x.order != e.order && x.order != f.order := by
        rw [List.filter_filter]
        refine List.filter_congr fun x hx => ?_
        by_cases ho : x.order = f.order
        · obtain rfl := horder.inj hx hf ho
          simp [hstate]
        · have hne : (x.order == f.order) = false := by simpa using ho
          simp [bne, hne]
      rw [hgone]
      refine (List.map_congr_left fun x hx => if_neg fun ho => ?_).trans (List.map_id _)
      simp [ho] at hx

/-- The other entries stay when one ends, but that linked to it (R66). -/
theorem mem_retireEntry_of_unlinked {es : List Entry} (horder : InOrder es) {e : Entry} (he : e ∈ es) {f : Entry} (hf : f ∈ es)
    (ho : f.order ≠ e.order) (hlink : e.link ≠ .entry f.order) : f ∈ retireEntry e.order es := by
  have hstays : f ∈ es.filter fun x => x.order != e.order := List.mem_filter.2 ⟨hf, by simpa using ho⟩
  rw [retireEntry_of_mem horder he]
  unfold endLink
  split
  next o hlo =>
    have hfo : f.order ≠ o := fun h => hlink (h ▸ hlo)
    split
    · exact List.mem_map.2 ⟨f, List.mem_filter.2 ⟨hstays, by simp [hfo]⟩, if_neg hfo⟩
    · exact mem_changeEntry.2 ⟨f, hstays, if_neg hfo⟩
  next => exact hstays

/-- The entry that ends is gone (R66). -/
theorem order_ne_of_mem_retireEntry {es : List Entry} {o : Nat} {f : Entry} (hf : f ∈ retireEntry o es) : f.order ≠ o := by
  have hfiltered {e g : Entry} (hg : g ∈ endLink e (es.filter fun x => x.order != o)) : g.order ≠ o := by
    have hleft {x : Entry} (hx : x ∈ es.filter fun x => x.order != o) : x.order ≠ o := by simpa using (List.mem_filter.1 hx).2
    unfold endLink at hg
    split at hg
    · split at hg
      · obtain ⟨x, hx, rfl⟩ := List.mem_map.1 hg
        have ho := hleft (List.mem_filter.1 hx).1
        split <;> exact ho
      · obtain ⟨x, hx, rfl⟩ := mem_changeEntry.1 hg
        have ho := hleft hx
        split <;> exact ho
    · exact hleft hg
  unfold retireEntry at hf
  split at hf
  next hnone => exact fun ho => absurd (List.find?_eq_none.1 hnone f hf) (by simp [ho])
  next => exact hfiltered hf

/-! ## The expiries -/

/-- Settles O25: each expiry takes out its record and no other, for the laws of the lists leave no second one of its name. -/
theorem recordsExpire : Obligations.RecordsExpire := by
  refine ⟨fun s e hr hport htable he hage hlimit => ?_, fun s p hr hdelays => ⟨fun r hmem hage hlimit => ?_,
    fun hport r hmem hage hlimit => ?_⟩⟩
  · have horder : InOrder s.table.entries := htable.2.1
    have hdue : agedOut e.order s = true := by
      unfold agedOut
      rw [findOrder_eq horder he]
      exact ageDue_iff.2 ⟨hage, hlimit⟩
    have hexec : exec (.entryAgeExpiry e.order) s = .next (expireEntry e.order s) :=
      congrArg Host.Outcome.next ((happens_eq _ hr hdue).trans (grantIfFree_event hr hport rfl rfl))
    exact ⟨_, hexec, rfl, rfl, fun f hf => order_ne_of_mem_retireEntry hf, entryEnds_retireEntry horder he,
      fun f hf ho hlink => mem_retireEntry_of_unlinked horder he hf ho hlink⟩
  · have hdue : probeDue p r.sequence s = true := (probeDue_eq hdelays hmem).trans (probeTimedOut_iff.2 ⟨hage, hlimit⟩)
    refine ⟨_, congrArg Host.Outcome.next (happens_eq _ hr hdue), ?_⟩
    dsimp only
    rw [raise_eq_raised]
    exact event_grantAfter hr rfl
  · have hdue : responderDue p r.sequence r.source s = true :=
      (responderDue_eq hdelays hmem).trans (probeTimedOut_iff.2 ⟨hage, hlimit⟩)
    exact congrArg Host.Outcome.next ((happens_eq _ hr hdue).trans (grantIfFree_event hr hport rfl rfl))

/-! ## The timers of the Discipline Unit -/

/-- The Discipline Unit once the missing timer has run out: the source may switch to INPUT, with the timer started again, or the
timer stops (R114). -/
def missed (s : State) : Discipline :=
  if s.bank.discipline.mode = .networkThenInput ∧ s.disc.source = .network then
    { s.disc with source := .input, missing := some s.time.raw }
  else { s.disc with missing := none }

/-- The missing timer that runs out leaves the state, the rates and the counts at first (R114). -/
theorem missed_state (s : State) : (missed s).state = s.disc.state ∧ (missed s).rhoI = s.disc.rhoI := by
  unfold missed
  split <;> exact ⟨rfl, rfl⟩

/-- MISSING_TIMER_EXPIRY by state (R114). -/
theorem expireMissing_eq (s : State) :
    expireMissing s =
      match s.disc.state with
      | .acquire => fallFreeRun (s.withDisc (missed s))
      | .locked => enterHoldover (s.withDisc (missed s))
      | .freeRun => s.withDisc (missed s)
      | .holdover => s.withDisc (missed s) := by
  unfold expireMissing missed
  by_cases hswitches : s.bank.discipline.mode = .networkThenInput ∧ s.disc.source = .network
  · have hbool : (s.bank.discipline.mode == .networkThenInput && s.disc.source == .network) = true := by
      simpa using hswitches
    rw [if_pos hswitches, hbool]
    rfl
  · have hbool : (s.bank.discipline.mode == .networkThenInput && s.disc.source == .network) = false := by
      simpa using hswitches
    rw [if_neg hswitches, hbool]
    rfl

/-- The powers of a row that does nothing a row may do alone. -/
abbrev Powers.none : Powers := { clears := False, steps := False, writes := False }

/-- A run of acts that cannot step station time leaves it (R43, R46). -/
theorem Work.now_eq {w : Powers} (hw : ¬ w.steps) {s t : State} (h : Work w s t) : t.now = s.now :=
  h.keeps (I := fun u => u.now = s.now) (fun ha hu => (ha.now_eq hw).trans hu) rfl

/-- A grant leaves station time now. -/
theorem grantIfFree_now (s : State) : (grantIfFree s).now = s.now := now_of_time (grantIfFree_time s)

/-- Settles O26: the missing timer switches the source or stops, and LOCKED and ACQUIRE then leave their state; the holdover timer
ends HOLDOVER. -/
theorem disciplineTimersAct : Obligations.DisciplineTimersAct := by
  refine ⟨fun s start hr hmissing hage hlimit => ?_, fun s start hr hstate hstart => ⟨fun hzero => ?_,
    fun limit htick hage hnonzero hlimit => ?_⟩⟩
  · have hdue : missingDue s = true := missingDue_iff.2 ⟨start, hmissing, hage, hlimit⟩
    have hwork : Work .none s (expireMissing s) := work_expireMissing s
    obtain ⟨hmissed, hrhoI⟩ := missed_state s
    let u := match s.disc.state with
      | .locked => setDiscState .holdover (s.withDisc { missed s with holdover := some s.time.raw })
      | _ => setDiscState .freeRun (s.withDisc { missed s with holdover := none })
    refine ⟨missed s, u, expireMissing s, _, congrArg Host.Outcome.next (happens_eq _ hr hdue),
      event_grantAfter hr hwork.outside_eq, fun hmode hsource => if_pos ⟨hmode, hsource⟩,
      fun hnot => if_neg fun h => hnot.elim (fun hn => hn h.1) fun hn => hn h.2, fun hstate => ?_, fun hstate => ?_,
      fun hstate => ?_, (grantIfFree_now _).trans (hwork.now_eq id)⟩
    · have hu : u = setDiscState .freeRun (s.withDisc { missed s with holdover := none }) := by simp only [u, hstate]
      rw [expireMissing_eq, hstate, hu]
      exact ⟨disciplineBecomes_setDiscState s (d := { missed s with holdover := none }) hmissed .freeRun, raise_eq_raised _ _⟩
    · have hu : u = setDiscState .holdover (s.withDisc { missed s with holdover := some s.time.raw }) := by simp only [u, hstate]
      have hentered := enterHoldover_eq (s.withDisc (missed s)) (u := u) hu
      rw [State.withDisc_disc, hrhoI] at hentered
      rw [expireMissing_eq, hstate]
      refine ⟨hu ▸ disciplineBecomes_setDiscState s (d := { missed s with holdover := some s.time.raw }) hmissed .holdover,
        hentered, fun hrate => ?_⟩
      obtain ⟨-, -, hlow, hhigh⟩ := hrate
      dsimp only
      rw [hentered]
      change max (-s.rateLimit) (min s.rateLimit s.disc.rhoI) = s.disc.rhoI
      omega
    · rw [expireMissing_eq]
      rcases hstate with hstate | hstate
      · rw [hstate]
        rfl
      · rw [hstate]
        rfl
  · have hdue : holdoverDue s = false := by
      rw [Bool.eq_false_iff, ne_eq, holdoverDue_iff]
      exact fun ⟨_, _, _, _, _, _, hnonzero, _⟩ => hnonzero hzero
    exact congrArg Host.Outcome.next (happens_false fallFreeRun s hdue)
  · have hdue : holdoverDue s = true := holdoverDue_iff.2 ⟨hstate, start, limit, hstart, htick, hage, hnonzero, hlimit⟩
    let u := setDiscState .freeRun (s.withDisc { s.disc with holdover := none })
    have hbecomes := disciplineBecomes_setDiscState s (d := { s.disc with holdover := none }) rfl .freeRun
    have hraised : fallFreeRun s = raised 0x2000 u := raise_eq_raised _ _
    have hfell : (grantIfFree (fallFreeRun s)).disc.state = .freeRun := by
      rw [grantIfFree_disc, hraised]
      exact congrArg (·.disc.state) hbecomes.1
    refine ⟨u, _, congrArg Host.Outcome.next (happens_eq _ hr hdue), hbecomes, ?_, ?_⟩
    · rw [← hraised]
      exact event_grantAfter hr (work_fallFreeRun (w := .none) s).outside_eq
    · unfold State.timeValidPin
      rw [hfell]
      exact Bool.and_false _

end Sys2Proof.Machine
end

section
/-! Samples of the Discipline Unit and of the Delay Unit (06 R100 to R104; 07 R113 to R126, R130): the tests of a hand-off, the
samples they form, and what each sample does by state. -/

namespace Sys2Proof.Machine

/-! ## Flags and counts -/

/-- A flag raised, in its fields (R167). -/
theorem raise_fields (f : Flag) (s : State) :
    raise f s =
      { s with
        report :=
          { s.report with
            flags := s.report.flags ||| f.bit
            queue := if s.straps.bypass then s.report.queue else joinQueue s.report.queue .status } } :=
  raise_eq_raised f s

/-! ## The tests of a network hand-off -/

/-- A hand-off that meets a discipline that is off, that follows the input, or another domain (R115). -/
theorem networkHandoff_discards {m : NetworkHandoff} {s : State}
    (h : s.bank.discipline.enable = false ∨ s.bank.discipline.mode = .input ∨ s.bank.domains[0].enable = false ∨
      s.bank.domains[0].value ≠ m.domain) : networkHandoff m s = s := by
  unfold networkHandoff Profile.disciplineDomain
  split
  · rfl
  next hon =>
    refine if_neg fun hdomain => ?_
    simp only [Bool.or_eq_true, Bool.not_eq_true', beq_iff_eq, not_or] at hon
    split at hdomain
    next henable =>
      have hvalue := Option.some.inj hdomain
      exact h.elim hon.1 fun h => h.elim hon.2 fun h => h.elim (fun h => by simp [h] at henable) fun h => h hvalue
    next => cases hdomain

/-- A hand-off that passes the first tests meets that of its source (R115). -/
theorem networkHandoff_passes {m : NetworkHandoff} {s : State} (henable : s.bank.discipline.enable = true)
    (hmode : s.bank.discipline.mode ≠ .input) (hdomain : s.bank.domains[0].enable = true)
    (hvalue : s.bank.domains[0].value = m.domain) : networkHandoff m s = testSource m s := by
  unfold networkHandoff Profile.disciplineDomain
  rw [if_neg (by simp [henable, hmode]), if_pos (by rw [if_pos hdomain, hvalue])]

/-- Settles O41: the source is tested against the expected one, or against the latched one, which the first MARK gives. -/
theorem networkHandoffIsTested : Obligations.NetworkHandoffIsTested := by
  intro m s
  refine ⟨networkHandoff_discards, fun henable hmode hdomain hvalue => ?_⟩
  rw [networkHandoff_passes henable hmode hdomain hvalue]
  unfold testSource
  dsimp only
  refine ⟨fun hexpected hsource => ?_, fun hexpected hlatched => ?_, fun hexpected hlatched => ?_, fun hforeign => ?_⟩
  · rw [if_pos hexpected, if_pos hsource]
  · rw [if_neg (not_not.2 hexpected), hlatched]
    exact if_pos rfl
  · rw [if_neg (not_not.2 hexpected), hlatched]
    rfl
  · rcases hforeign with ⟨hexpected, hsource⟩ | ⟨hexpected, l, hlatched, hl⟩
    · rw [if_pos hexpected, if_neg hsource]
      exact raise_fields .foreignSource s
    · rw [if_neg (not_not.2 hexpected), hlatched]
      exact (if_neg (Ne.symm hl)).trans (raise_fields .foreignSource s)

/-! ## The samples of tested hand-offs -/

/-- A Seen-Mark record pairs with a DETAIL (R119). -/
theorem SeenMark.pairs_iff {r : SeenMark} {m : NetworkHandoff} :
    r.pairs m = true ↔ r.source = m.source ∧ r.sequence = m.sequence ∧ r.port = m.port ∧ r.awaiting = true := by
  simp [SeenMark.pairs, SeenMark.names, and_assoc]

/-- Of the Seen-Mark records one alone has a source and sequence (R118). -/
theorem seen_unique {s : State} (h : CountInv s) {x y : SeenMark} (hx : x ∈ s.disc.seen) (hy : y ∈ s.disc.seen)
    (hsource : x.source = y.source) (hsequence : x.sequence = y.sequence) : x = y := by
  have hnodup : (s.disc.seen.map fun r => (r.source, r.sequence)).Nodup := by
    refine List.pairwise_map.2 (h.2.2.2.imp fun hne heq => hne ?_)
    exact Prod.mk.inj heq
  exact List.inj_on_of_nodup_map hnodup hx hy (Prod.ext hsource hsequence)

/-- Settles O42: a MARK joins the Seen-Mark list once, and a DETAIL pairs with the one record of its source and sequence. -/
theorem networkSampleIsFormed : Obligations.NetworkSampleIsFormed := by
  intro m s offset hoffset
  have hformed (r : SeenMark) (c : Int) : offsetSample r m.originSec m.originNs c = offset r c := (hoffset r c).symm
  refine ⟨fun hmark => ⟨fun ⟨r, hr, hnames⟩ => ?_, fun hnew => ?_⟩, fun hdetail => ⟨fun hnone => ?_,
    fun hcounts r hr hsource hsequence hport hawaiting => ?_⟩⟩
  · have hseen : s.disc.seen.any (·.names m.source m.sequence) = true :=
      List.any_eq_true.2 ⟨r, hr, SeenMark.names_iff.2 hnames⟩
    unfold takeHandoff takeMark
    rw [if_neg (by simp [hmark]), if_pos hseen]
    rfl
  · have hseen : ¬ s.disc.seen.any (·.names m.source m.sequence) = true := fun h =>
      have ⟨r, hr, hnames⟩ := List.any_eq_true.1 h
      hnew r hr (SeenMark.names_iff.1 hnames)
    have hdelay : (match s.bank.ports[m.port].delayMode with | .link => s.delays[m.port].delay | .none => 0) =
        if s.bank.ports[m.port].delayMode = .link then s.delays[m.port].delay else 0 := by
      cases s.bank.ports[m.port].delayMode <;> rfl
    refine ⟨newSeenMark m s, _, congrArg (fun x => ({ newSeenMark m s with delay := x } : SeenMark)) hdelay, rfl, ?_⟩
    unfold takeHandoff takeMark
    rw [if_neg (by simp [hmark]), if_neg hseen]
    simp only [hformed]
    rfl
  · have hfound : s.disc.seen.find? (·.pairs m) = none :=
      List.find?_eq_none.2 fun r hr hp => hnone r hr (SeenMark.pairs_iff.1 hp)
    unfold takeHandoff takeDetail
    rw [if_pos hdetail, hfound]
  · have hpairs : r.pairs m = true := SeenMark.pairs_iff.2 ⟨hsource, hsequence, hport, hawaiting⟩
    have hunique : ∀ x ∈ s.disc.seen, x.pairs m = true → x = r := fun x hx hp =>
      have ⟨hxsource, hxsequence, _⟩ := SeenMark.pairs_iff.1 hp
      seen_unique hcounts hx hr (hxsource.trans hsource.symm) (hxsequence.trans hsequence.symm)
    have hcleared : (s.disc.seen.map fun x => if x.pairs m then { x with awaiting := false } else x) =
        s.disc.seen.map fun x => if x = r then { x with awaiting := false } else x := by
      refine List.map_congr_left fun x hx => ?_
      by_cases hxr : x = r
      · rw [if_pos hxr, if_pos (hxr ▸ hpairs)]
      · rw [if_neg hxr, if_neg fun hp => hxr (hunique x hx hp)]
    unfold takeHandoff takeDetail
    rw [if_pos hdetail, find?_eq_of_unique hr hpairs hunique]
    dsimp only
    rw [hcleared, hformed]
    rfl

/-! ## A sample in each state -/

/-- A sample that is not held, before its state answers: the active source and the missing timer follow it (R113, R114). -/
theorem takeSample_eq {s : State} (hhold : s.disc.hold = false) (theta : Option Int) (o : SampleOrigin) :
    takeSample theta o s =
      match theta with
      | some x => answerValue x o (s.withDisc (sampled o s.time.raw s.disc))
      | none => answerUnordered o (s.withDisc (sampled o s.time.raw s.disc)) := by
  unfold takeSample
  rw [if_neg (by simp [hhold])]
  cases o <;> rfl

/-- The entry to ACQUIRE (R122, R124, R125). -/
theorem enterAcquire_becomes (s : State) : DisciplineBecomes (acquired s.time.raw s.disc) s (enterAcquire s) :=
  disciplineBecomes_setDiscState s
    (d := { s.disc with lockCount := 0, rejectCount := 0, holdover := none, missing := some s.time.raw }) rfl .acquire

/-- A rejected sample of LOCKED, by the reject count (R124). -/
theorem addReject_cases (s : State) :
    (s.disc.rejectCount < 3 → addReject s = { s with disc := { s.disc with rejectCount := s.disc.rejectCount + 1 } }) ∧
    (3 ≤ s.disc.rejectCount → DisciplineBecomes (acquired s.time.raw s.disc) s (addReject s)) := by
  unfold addReject
  refine ⟨fun hlow => if_neg (by omega), fun hhigh => ?_⟩
  rw [if_pos (by omega)]
  exact enterAcquire_becomes s

/-- An UNORDERED sample rejected (R123; policy of R84). -/
theorem rejectUnordered_eq (o : SampleOrigin) (s : State) :
    rejectUnordered o s =
      { s with
        disc := { s.disc with last := some { cls := .unordered, theta := 0, origin := o } }
        report :=
          if s.bank.unordered = .signal then
            { rejectedOne s.report with
              flags := s.report.flags ||| 0x0400
              queue := if s.straps.bypass then s.report.queue else joinQueue s.report.queue .status }
          else rejectedOne s.report } := by
  unfold rejectUnordered raiseIf
  by_cases hsignal : s.bank.unordered = .signal
  · rw [if_pos hsignal, if_pos (by simpa using hsignal)]
    exact raise_fields .sampleRejected _
  · rw [if_neg hsignal, if_neg (by simpa using hsignal)]
    rfl

/-- Settles O45: a held sample is counted alone; an UNORDERED one is rejected, and then the state answers. -/
theorem unorderedAndHeldSamples : Obligations.UnorderedAndHeldSamples := by
  intro s o
  refine ⟨fun hhold theta => if_pos hhold, fun hhold => ⟨_, _, rfl, rfl, ?_⟩⟩
  rw [takeSample_eq hhold]
  dsimp only
  have hrejected := rejectUnordered_eq o (s.withDisc (sampled o s.time.raw s.disc))
  have hsame : (s.withDisc (sampled o s.time.raw s.disc)).disc.state = s.disc.state := rfl
  unfold answerUnordered
  rw [hsame]
  refine ⟨fun hstate => ?_, fun hstate => ?_, fun hstate => ?_⟩
  · rcases hstate with hstate | hstate
    · rw [hstate]
      exact hrejected
    · rw [hstate]
      exact hrejected
  · rw [hstate]
    dsimp only
    rw [hrejected]
    rfl
  · rw [hstate]
    have hcases := addReject_cases (rejectUnordered o (s.withDisc (sampled o s.time.raw s.disc)))
    rw [hrejected] at hcases ⊢
    exact hcases

/-! ## A sample with a value in LOCKED -/

/-- The size of an offset within a bound (R122 to R124). -/
theorem absFn_le_nsFn {x : Int} {n : Nat} : absFn x ≤ nsFn n ↔ -(n : Int) * 65536 ≤ x ∧ x ≤ (n : Int) * 65536 := by
  unfold absFn nsFn
  split <;> omega

/-- The size of an offset (R122, R123). -/
theorem absFn_eq_max (x : Int) : absFn x = max x (-x) := by
  unfold absFn
  split <;> omega

/-- The input of the PI update is held in its range (R126). -/
theorem piInput_eq (theta : Int) : piInput theta = max (-1099511627776) (min 1099511627776 theta) / 64 := by
  unfold piInput clampInt
  split
  · omega
  · split <;> omega

/-- The PI update in its fields: the record is re-anchored (R43, R126). -/
theorem piUpdate_eq (theta : Int) (s : State) :
    ∃ i r : Int, PiUpdates theta s i r ∧
      piUpdate theta s =
        { s with
          time := { s.time with anchorRaw := s.time.raw, anchorStation := s.now, rho := r }
          disc := { s.disc with rhoI := i } } := by
  have hclamp (x : Int) : clampRate s.rateLimit x = max (-s.rateLimit) (min s.rateLimit x) :=
    clampRate_eq_max (rateLimit_nonneg s) x
  have hgain (k : Nat) : ((2 ^ k : Nat) : Int) = 2 ^ k := Nat.cast_pow 2 k
  let i := max (-s.rateLimit) (min s.rateLimit (s.disc.rhoI - piInput theta / 2 ^ s.bank.discipline.ki))
  let r := max (-s.rateLimit) (min s.rateLimit (i - piInput theta / 2 ^ s.bank.discipline.kp))
  refine ⟨i, r, ⟨piInput theta, piInput_eq theta, rfl, rfl⟩, ?_⟩
  have hrhoI : giveRhoI (s.disc.rhoI - piInput theta / (2 ^ s.bank.discipline.ki : Nat)) s = s.withDisc { s.disc with rhoI := i } := by
    unfold giveRhoI
    rw [hclamp, hgain]
  unfold piUpdate
  dsimp only
  rw [hrhoI, hgain]
  exact giveRho_eq _ _

/-- Settles O43: within the gate limit the PI update is made; above it the sample is rejected. -/
theorem lockedSampleUpdatesOrRejects : Obligations.LockedSampleUpdatesOrRejects := by
  intro s theta o t hstate hhold ht
  subst ht
  let v := s.withDisc (sampled o s.time.raw s.disc)
  have hlocked : takeSample (some theta) o s = answerLocked theta o v := by
    rw [takeSample_eq hhold]
    have hsame : v.disc.state = .locked := hstate
    dsimp only
    unfold answerValue
    rw [hsame]
  have hwork : Work .none v (answerLocked theta o v) := work_answerLocked v theta o
  refine ⟨(congrArg State.now hlocked).trans (hwork.now_eq id), fun hlow hhigh => ?_, fun habove => ?_⟩
  · obtain ⟨i, r, hpi, heq⟩ := piUpdate_eq theta v
    refine ⟨i, r, hpi, ?_⟩
    rw [hlocked]
    unfold answerLocked
    have hwithin : absFn theta ≤ nsFn v.bank.discipline.gateLimit := absFn_le_nsFn.2 ⟨hlow, hhigh⟩
    rw [if_pos hwithin, heq]
    rfl
  · refine ⟨_, _, rfl, rfl, ?_⟩
    have hnot : ¬ absFn theta ≤ nsFn v.bank.discipline.gateLimit := fun h => by
      have := absFn_le_nsFn.1 h
      have hbank : v.bank = s.bank := rfl
      rw [hbank] at this
      omega
    have hraised := raise_fields .sampleRejected (count .samplesRejected (recordSample .above theta o v))
    have hcases := addReject_cases (raise .sampleRejected (count .samplesRejected (recordSample .above theta o v)))
    rw [hlocked]
    unfold answerLocked
    rw [if_neg hnot]
    rw [hraised] at hcases ⊢
    exact hcases

end Sys2Proof.Machine
end

section
/-! Echo hand-offs of the Delay Unit (06 R100 to R106): the delay sample, the gate and the ring. -/

namespace Sys2Proof.Machine

/-! ## The ring and D(p) -/

/-- The smallest of a list begun with `x`. -/
theorem foldl_min_mem_le (xs : List Nat) : ∀ x : Nat, xs.foldl min x ∈ x :: xs ∧ ∀ y ∈ x :: xs, xs.foldl min x ≤ y := by
  induction xs with
  | nil => exact fun x => ⟨List.mem_singleton_self x, fun y hy => by rw [List.mem_singleton.1 hy]; exact Nat.le_refl x⟩
  | cons z zs ih =>
    intro x
    obtain ⟨hmem, hle⟩ := ih (min x z)
    have hfirst : zs.foldl min (min x z) ≤ min x z := hle _ List.mem_cons_self
    refine ⟨?_, fun y hy => ?_⟩
    · rcases List.mem_cons.1 hmem with hmin | hmem
      · rw [List.foldl_cons, hmin]
        rcases Nat.le_total x z with h | h
        · rw [Nat.min_eq_left h]
          exact List.mem_cons_self
        · rw [Nat.min_eq_right h]
          exact List.mem_cons_of_mem _ List.mem_cons_self
      · exact List.mem_cons_of_mem _ (List.mem_cons_of_mem _ hmem)
    · rcases List.mem_cons.1 hy with rfl | hy
      · exact hfirst.trans (Nat.min_le_left _ _)
      · rcases List.mem_cons.1 hy with rfl | hy
        · exact hfirst.trans (Nat.min_le_right _ _)
        · exact hle y (List.mem_cons_of_mem _ hy)

/-- D(p) is the smallest sample of a ring that holds one (R105). -/
theorem ringDelay_mem_le {ring : List Nat} (h : ring ≠ []) (ns : Nat) :
    ringDelay ns ring ∈ ring ∧ ∀ y ∈ ring, ringDelay ns ring ≤ y := by
  cases ring with
  | nil => exact absurd rfl h
  | cons x xs => exact foldl_min_mem_le xs x

/-- A sample joins the ring, whose oldest leaves one that holds the window length (R104). -/
theorem joinRing_eq {ring : List Nat} {window : Nat} (h : ring.length ≤ window) (hwindow : 1 ≤ window) (x : Nat) :
    joinRing ring x window = (if ring.length < window then ring else ring.drop 1) ++ [x] := by
  unfold joinRing
  rw [List.length_append, List.length_singleton]
  split
  next hroom =>
    have hnone : ring.length + 1 - window = 0 := by omega
    rw [hnone, List.drop_zero]
  next hfull =>
    have hone : ring.length + 1 - window = 1 := by omega
    rw [hone, List.drop_append_of_le_length (by omega)]

/-- A port settled, in its fields: Port p is requested where D(p) or delay valid changed (R105, R106). -/
theorem settleDelay_eq (p : Port) (d : PortDelay) (s : State) :
    settleDelay p d s =
      { s with
        delays := s.delays.set p (d.settle s.bank.defaultDelay)
        report :=
          { s.report with
            queue :=
              if s.straps.bypass = false ∧ s.delays[p].ShowsOther (d.settle s.bank.defaultDelay) then
                joinQueue s.report.queue (.port p)
              else s.report.queue } } := by
  have hsettled : settleDelay p d s =
      if s.delays[p].ShowsOther (d.settle s.bank.defaultDelay) then
        request [.port p] (setDelay p (d.settle s.bank.defaultDelay) s)
      else setDelay p (d.settle s.bank.defaultDelay) s := rfl
  rw [hsettled]
  by_cases hother : s.delays[p].ShowsOther (d.settle s.bank.defaultDelay)
  · rw [if_pos hother]
    cases hbypass : s.straps.bypass with
    | true =>
      rw [request_bypass (s := setDelay p (d.settle s.bank.defaultDelay) s) hbypass, if_neg (by simp)]
      rfl
    | false =>
      rw [request_eq (s := setDelay p (d.settle s.bank.defaultDelay) s) hbypass, if_pos ⟨rfl, hother⟩]
      rfl
  · rw [if_neg hother, if_neg fun h => hother h.2]
    rfl

/-! ## The delay sample -/

/-- A rejected delay sample, in its fields (R103). -/
theorem rejectDelay_eq (p : Port) (k : DelayClass) (s : State) :
    rejectDelay p k s =
      { s with
        report :=
          if k = .unordered ∧ s.bank.unordered = .quiet then
            { s.report with
              ports := s.report.ports.set p { s.report.ports[p] with delayRejected := s.report.ports[p].delayRejected + 1 } }
          else
            { s.report with
              ports := s.report.ports.set p { s.report.ports[p] with delayRejected := s.report.ports[p].delayRejected + 1 }
              flags := s.report.flags ||| 0x0100
              queue := if s.straps.bypass then s.report.queue else joinQueue s.report.queue .status } } := by
  unfold rejectDelay raiseIf
  by_cases hquiet : k = .unordered ∧ s.bank.unordered = .quiet
  · rw [if_pos hquiet, if_neg (by simp [hquiet])]
    rfl
  · rw [if_neg hquiet, if_pos (by simpa [or_iff_not_imp_left] using hquiet)]
    exact raise_fields .delayRejected _

/-- An accepted delay sample, in its fields (R104, R105). -/
theorem acceptDelay_eq (p : Port) (x : Nat) (s : State) {e : PortDelay}
    (he : PortDelay.settle { s.delays[p] with ring := joinRing s.delays[p].ring x s.bank.windowLength } s.bank.defaultDelay = e) :
    acceptDelay p x s =
      { s with
        delays := s.delays.set p e
        report :=
          { s.report with
            ports := s.report.ports.set p { s.report.ports[p] with delayAccepted := s.report.ports[p].delayAccepted + 1 }
            queue :=
              if s.straps.bypass = false ∧ s.delays[p].ShowsOther e then joinQueue s.report.queue (.port p)
              else s.report.queue } } := by
  subst he
  exact settleDelay_eq p _ (countPort p .delayAccepted s)

/-- The class of a delay sample inside the gate (R102). -/
theorem delayClass_within {x : Int} {n : Nat} (hlow : 0 ≤ x) (hhigh : x ≤ (n : Int) * 65536) : delayClass x n = .within := by
  unfold delayClass
  rw [if_neg (by omega), if_pos hhigh]

/-- The class of a delay sample outside the gate (R102). -/
theorem delayClass_outside {x : Int} {n : Nat} (h : x < 0 ∨ (n : Int) * 65536 < x) :
    delayClass x n = .below ∨ delayClass x n = .above := by
  unfold delayClass
  split
  · exact .inl rfl
  · exact .inr (if_neg (by omega))

/-- Settles O40: the PROBE's record leaves, and its sample is accepted, rejected or UNORDERED. -/
theorem echoGivesDelaySample : Obligations.EchoGivesDelaySample := by
  intro s p seq c t4
  refine ⟨fun hnone => ?_, fun r hr hseq hdelays => ?_⟩
  · have hfound : s.delays[p].probes.find? (·.sequence == seq) = none :=
      List.find?_eq_none.2 fun r hr => by simpa using hnone r hr
    unfold echoHandoff
    rw [hfound]
    exact raise_fields .echoStray s
  · have hfound : s.delays[p].probes.find? (·.sequence == seq) = some r :=
      find?_eq_of_unique hr (by simpa using hseq) fun y hy hs =>
        probe_unique (hdelays p) hy hr (Eq.trans (by simpa using hs) hseq.symm)
    let d : PortDelay := { s.delays[p] with probes := s.delays[p].probes.filter fun y => y.sequence != seq }
    let u : State := { s with delays := s.delays.set p d }
    have hecho : echoHandoff p seq c t4 s = takeDelaySample p r.t1 t4 c u := by
      unfold echoHandoff
      rw [hfound]
      rfl
    have hget : u.delays[p] = d := Vector.getElem_set_self _
    let x := delaySample (rawDiff t4 r.t1) s.time.rho s.bank.ports[p].latencyIn s.bank.ports[p].latencyOut c
    have hknown (hc : c ≠ 0x7FFFFFFFFFFFFFFF) : takeDelaySample p r.t1 t4 c u =
        match delayClass x s.bank.delayMax with
        | .within => acceptDelay p x.toNat u
        | c => rejectDelay p c u := if_neg hc
    refine ⟨d, x, _, rfl, rfl, rfl, fun hc hlow hhigh hwindow => ?_, fun hrejected => ?_, fun hc hquiet => ?_⟩
    · have hring := joinRing_eq (hdelays p).2.2.2.2.1 hwindow x.toNat
      have hnonempty : joinRing s.delays[p].ring x.toNat s.bank.windowLength ≠ [] := by
        rw [hring]
        exact List.append_ne_nil_of_right_ne_nil _ (List.cons_ne_nil _ _)
      obtain ⟨hmem, hle⟩ := ringDelay_mem_le hnonempty s.bank.defaultDelay
      refine ⟨_, _, hring, hmem, hle, ?_⟩
      let e : PortDelay :=
        { d with
          ring := joinRing s.delays[p].ring x.toNat s.bank.windowLength
          delay := ringDelay s.bank.defaultDelay (joinRing s.delays[p].ring x.toNat s.bank.windowLength)
          valid := true }
      have hvalid : (!(joinRing s.delays[p].ring x.toNat s.bank.windowLength).isEmpty) = true := by simpa using hnonempty
      have hsettled : PortDelay.settle
          { d with ring := joinRing s.delays[p].ring x.toNat s.bank.windowLength } s.bank.defaultDelay = e :=
        congrArg (fun v => ({ e with valid := v } : PortDelay)) hvalid
      have hshows : d.ShowsOther e ↔ e.delay ≠ s.delays[p].delay ∨ s.delays[p].valid = false :=
        or_congr ne_comm (by rw [← Bool.not_eq_true])
      have haccepted := acceptDelay_eq p x.toNat u (e := e) (by rw [hget]; exact hsettled)
      rw [hget] at haccepted
      rw [hecho, hknown hc, delayClass_within hlow hhigh]
      refine haccepted.trans ?_
      simp only [hshows, u, Vector.set_set]
      rfl
    · rcases hrejected with ⟨hc, houtside⟩ | ⟨hc, hsignal⟩
      · have hreject : takeDelaySample p r.t1 t4 c u = rejectDelay p (delayClass x s.bank.delayMax) u := by
          rw [hknown hc]
          rcases delayClass_outside houtside with h | h <;> rw [h]
        have hordered : ¬ (delayClass x s.bank.delayMax = .unordered ∧ u.bank.unordered = .quiet) := by
          rcases delayClass_outside houtside with h | h <;> simp [h]
        rw [hecho, hreject, rejectDelay_eq, if_neg hordered]
      · have hreject : takeDelaySample p r.t1 t4 c u = rejectDelay p .unordered u := if_pos hc
        have hloud : ¬ (DelayClass.unordered = .unordered ∧ u.bank.unordered = .quiet) := fun h => by
          have hbank : u.bank.unordered = .signal := hsignal
          simp [hbank] at h
        rw [hecho, hreject, rejectDelay_eq, if_neg hloud]
    · have hreject : takeDelaySample p r.t1 t4 c u = rejectDelay p .unordered u := if_pos hc
      rw [hecho, hreject, rejectDelay_eq, if_pos ⟨rfl, hquiet⟩]

end Sys2Proof.Machine
end

section
/-! Capture inputs and pulse outputs (08 R137 to R145): what a change of level, a capture and a pulse instant do. -/

namespace Sys2Proof.Machine

/-! ## Captures -/

/-- The Captures block requested after an overrun was raised, or not (R138, R139). -/
theorem request_captures_raiseIf (c : Bool) (s : State) :
    request [.captures] (raiseIf c .captureOverrun s) =
      { s with
        report :=
          { s.report with
            flags := if c then s.report.flags ||| 0x4000 else s.report.flags
            queue :=
              if s.straps.bypass then s.report.queue
              else joinQueue (if c then joinQueue s.report.queue .status else s.report.queue) .captures } } := by
  cases hbypass : s.straps.bypass with
  | true =>
    have hraised : (raiseIf c .captureOverrun s).straps.bypass = true := by
      rw [straps_of_outside (raiseIf_outside _ _ _)]
      exact hbypass
    rw [request_bypass hraised]
    cases c with
    | true =>
      refine (raise_fields .captureOverrun s).trans ?_
      rw [hbypass]
      rfl
    | false => rfl
  | false =>
    have hraised : (raiseIf c .captureOverrun s).straps.bypass = false := by
      rw [straps_of_outside (raiseIf_outside _ _ _)]
      exact hbypass
    rw [request_eq hraised]
    cases c with
    | true =>
      have hfields : raiseIf true .captureOverrun s = _ := raise_fields .captureOverrun s
      rw [hfields, hbypass]
      rfl
    | false => rfl

/-- A capture leaves its record, and its requests come before the sample of I0 (R121, R138, R139; log 11). -/
theorem capturedFrom_capture (n : Fin 2) (s : State) :
    CapturedFrom n
      { s.captures[n] with
        time := s.now.add (-(s.bank.inputs[n].inputDelay * 65536)), count := s.captures[n].count + 1, pending := true }
      s (capture n s) := by
  let c : CaptureInput :=
    { s.captures[n] with
      time := s.now.add (-(s.bank.inputs[n].inputDelay * 65536)), count := s.captures[n].count + 1, pending := true }
  have hcapture : capture n s =
      let u := request [.captures] (raiseIf s.captures[n].pending .captureOverrun (s.withCaptures (s.captures.set n c)))
      if n = 0 then inputHandoff c.time u else u := rfl
  refine ⟨_, rfl, ?_, ?_⟩
  · rintro ⟨hn, henable, hsource⟩
    rw [hcapture, request_captures_raiseIf]
    dsimp only
    rw [if_pos hn]
    exact if_pos (by simpa using ⟨henable, hsource⟩)
  · intro hnot
    rw [hcapture, request_captures_raiseIf]
    dsimp only
    by_cases hn : n = 0
    · rw [if_pos hn]
      refine if_neg fun h => hnot ⟨hn, ?_⟩
      have hfollows : s.bank.discipline.enable = true ∧ (s.disc.source == .input) = true := (Bool.and_eq_true _ _).mp h
      exact ⟨hfollows.1, beq_iff_eq.1 hfollows.2⟩
    · rw [if_neg hn]
      rfl

/-- A capture after the level was recorded (R137, R138). -/
theorem capturedFrom_recordLevel (n : Fin 2) (level : Bool) (s : State) :
    CapturedFrom n
      { time := s.now.add (-(s.bank.inputs[n].inputDelay * 65536)), count := s.captures[n].count + 1, pending := true,
        level := level, sampling := .taken }
      s (capture n (recordLevel n level s)) := by
  have hget : (recordLevel n level s).captures[n] = { s.captures[n] with level := level, sampling := .taken } :=
    Vector.getElem_set_self _
  have hset (c : CaptureInput) : (recordLevel n level s).captures.set n c = s.captures.set n c := Vector.set_set _ _
  obtain ⟨u, hu, htaken, hnot⟩ := capturedFrom_capture n (recordLevel n level s)
  rw [hset, hget] at hu
  rw [hget] at htaken
  exact ⟨u, hu, htaken, hnot⟩

/-- Settles O28: the level is recorded first, and then an enabled input captures as CAPTURE_TEST does. -/
theorem inputEdgesAct : Obligations.InputEdgesAct := by
  refine ⟨fun s n hr hport hready => ⟨fun hlevel => ⟨fun hdisabled => ?_, fun henabled => ?_⟩, fun hlevel => ?_⟩,
    fun s a slot tag imm n hat hn => ?_⟩
  · have hshows : sampleShows n (activeLevelOf n s) s = true := sampleShows_iff.2 ⟨hready, hlevel⟩
    have hedge : takeEdge n s = recordLevel n (activeLevelOf n s) s := by
      unfold takeEdge
      exact if_neg fun henabled => Bool.false_ne_true (hdisabled.symm.trans henabled)
    have hexec := happens_eq (takeEdge n) hr hshows
    rw [hedge, grantIfFree_event (s := s) (v := recordLevel n (activeLevelOf n s) s) hr hport rfl rfl] at hexec
    exact congrArg Host.Outcome.next hexec
  · have hshows : sampleShows n (activeLevelOf n s) s = true := sampleShows_iff.2 ⟨hready, hlevel⟩
    refine ⟨_, takeEdge n s, congrArg Host.Outcome.next (happens_eq (takeEdge n) hr hshows), ?_,
      event_grantAfter hr (work_takeEdge (w := powersOf (.activeEdge n)) s (steps_activeEdge n) n).outside_eq⟩
    have hedge : takeEdge n s = capture n (recordLevel n (activeLevelOf n s) s) := if_pos henabled
    rw [hedge]
    exact capturedFrom_recordLevel n (activeLevelOf n s) s
  · have hshows : sampleShows n (!activeLevelOf n s) s = true :=
      sampleShows_iff.2 ⟨hready, by rw [hlevel]; exact (Bool.not_ne_self _).symm⟩
    have hexec := happens_eq (fun s => recordLevel n (!activeLevelOf n s) s) hr hshows
    rw [grantIfFree_event (s := s) (v := recordLevel n (!activeLevelOf n s) s) hr hport rfl rfl] at hexec
    exact congrArg Host.Outcome.next hexec
  · subst hn
    refine ⟨_, capturedFrom_capture _ (written a 0b1111 (commandWord 0x41 tag imm) s), ?_⟩
    have hwork := work_capture (w := powersOf (.captureTest tag imm)) (written a 0b1111 (commandWord 0x41 tag imm) s)
      (steps_captureTest tag imm) (if imm.getLsbD 0 then 1 else 0)
    have hstraps := straps_of_outside hwork.outside_eq
    exact congrArg Host.Outcome.next
      (takeCommand_result hat (act := fun _ s => (capture (if imm.getLsbD 0 then 1 else 0) s, .done)) rfl hstraps)

/-! ## Pulse instants -/

/-- The settings an output works with (R144). -/
theorem settings_eq_pulseSettings (i : PulseItems) : i.settings = pulseSettings i := by
  unfold PulseItems.settings pulseSettings
  congr 1
  split <;> split <;> omega

/-- Every listed pulse period divides a second (R144). -/
theorem pulsePeriods_dvd : ∀ q ∈ pulsePeriods, 0 < q ∧ q * 1000000 ∣ 1000000000 := by decide

/-- A station time told from its femtosecond count within the cycle. -/
theorem ofFn_eq {sec : BitVec 32} {ns : Nat} (hns : ns < 1000000000) {z : Int}
    (hz : z = sec.toNat * 65536000000000 + ns * 65536) : StationTime.ofFn z = { sec := sec, ns := ⟨ns, hns⟩, frac := 0 } := by
  have hsec := sec.isLt
  refine StationTime.ofFn_of_emod ?_
  have hfn : (StationTime.toFn { sec := sec, ns := ⟨ns, hns⟩, frac := 0 }) = z := by
    rw [hz]
    unfold StationTime.toFn secondFn
    simp
  rw [hfn, Int.emod_eq_of_lt]
  · omega
  · unfold stationCycle
    omega

/-- A station time told from a count one second past the cycle's second. -/
theorem ofFn_carry {sec : BitVec 32} {ns : Nat} (hns : ns < 1000000000) {z : Int}
    (hz : z = sec.toNat * 65536000000000 + (ns + 1000000000) * 65536) :
    StationTime.ofFn z = { sec := sec + 1, ns := ⟨ns, hns⟩, frac := 0 } := by
  have hsec := sec.isLt
  refine StationTime.ofFn_of_emod ?_
  have hnext : (sec + 1).toNat = (sec.toNat + 1) % 4294967296 := BitVec.toNat_add _ _
  unfold StationTime.toFn stationCycle secondFn
  have hzero : (0 : BitVec 16).toNat = 0 := rfl
  simp only [hnext, hzero]
  omega

/-- The first leading instant later than a station time (R144): whole in ns, on the period, and one period later at most. -/
theorem firstAfter_spec {i : PulseItems} (hi : i.InRange) (hperiod : i.period ≠ 0) (now : StationTime) :
    (i.settings.firstAfter now).frac = 0 ∧
    (((i.settings.firstAfter now).ns.val : Int) - i.settings.offset) % i.settings.period = 0 ∧
    0 < (i.settings.firstAfter now).sub now ∧
    (i.settings.firstAfter now).sub now ≤ (i.settings.period : Int) * 65536 := by
  obtain ⟨hpos, hdvd⟩ := pulsePeriods_dvd i.period (hi.1.resolve_left hperiod)
  let p := i.period * 1000000
  let o := i.offset % p
  have hp : 0 < p := Nat.mul_pos hpos (by decide)
  have hle : p ≤ 1000000000 := Nat.le_of_dvd (by decide) hdvd
  have ho : o < p := Nat.mod_lt _ hp
  let q := ((now.ns.val : Int) - o) / p
  have hq : p * q + ((now.ns.val : Int) - o) % p = (now.ns.val : Int) - o := Int.mul_ediv_add_emod _ _
  have hrest : 0 ≤ ((now.ns.val : Int) - o) % p := Int.emod_nonneg _ (by omega)
  have hrest' : ((now.ns.val : Int) - o) % p < p := Int.emod_lt_of_pos _ (by omega)
  let ns : Int := o + p * (q + 1)
  have hns : ns = o + (p * q + p) := by
    dsimp only [ns]
    ring
  have hnow := now.ns.isLt
  have hfrac := now.frac.isLt
  have hfirst : i.settings.firstAfter now = .ofFn (now.sec.toNat * 65536000000000 + ns * 65536) := rfl
  have hsub {x : StationTime} (hx : (x.sec - now.sec).toInt * 65536000000000 + ((x.ns.val : Int) - now.ns.val) * 65536 =
      (ns - now.ns.val) * 65536) (h0 : x.frac = 0) : 0 < x.sub now ∧ x.sub now ≤ (p : Int) * 65536 := by
    unfold StationTime.sub
    have hzero : (0 : BitVec 16).toNat = 0 := rfl
    rw [hx, h0, hzero]
    omega
  by_cases hcarry : ns < 1000000000
  · have heq : i.settings.firstAfter now = { sec := now.sec, ns := ⟨ns.toNat, by omega⟩, frac := 0 } := by
      rw [hfirst]
      exact ofFn_eq (by omega) (by omega)
    rw [heq]
    refine ⟨rfl, ?_, hsub ?_ rfl⟩
    · have hval : ((ns.toNat : Nat) : Int) - (o : Int) = p * (q + 1) := by
        rw [Int.toNat_of_nonneg (by omega)]
        dsimp only [ns]
        ring
      exact (congrArg (· % (p : Int)) hval).trans (Int.mul_emod_right _ _)
    · simp only [BitVec.sub_self, BitVec.toInt_zero]
      omega
  · have heq : i.settings.firstAfter now = { sec := now.sec + 1, ns := ⟨(ns - 1000000000).toNat, by omega⟩, frac := 0 } := by
      rw [hfirst]
      exact ofFn_carry (by omega) (by omega)
    rw [heq]
    refine ⟨rfl, ?_, hsub ?_ rfl⟩
    · obtain ⟨k, hk⟩ := hdvd
      have hk' : (1000000000 : Int) = p * k := by exact_mod_cast hk
      have hval : (((ns - 1000000000).toNat : Nat) : Int) - (o : Int) = p * (q + 1 - k) := by
        rw [Int.toNat_of_nonneg (by omega), hk']
        dsimp only [ns]
        ring
      exact (congrArg (· % (p : Int)) hval).trans (Int.mul_emod_right _ _)
    · have hone : (now.sec + 1 - now.sec).toInt = 1 := by
        rw [BitVec.add_comm, BitVec.add_sub_cancel]
        rfl
      rw [hone]
      dsimp only
      omega

/-- Settles O27: the schedule moves on by its period, and the pulse starts or ends. -/
theorem pulseInstantsAct : Obligations.PulseInstantsAct := by
  refine ⟨fun i => ⟨settings_eq_pulseSettings i, fun hi hperiod now x hx => ?_⟩, fun s n hr hport => ⟨fun c hc hreached => ?_,
    fun x hx hreached => ?_⟩⟩
  · subst hx
    exact firstAfter_spec hi hperiod now
  · have hdue : leadingDue n s = true := leadingDue_iff.2 ⟨c, hc, hreached⟩
    have hlead : s.pulses[n].lead (s.bank.outputs[n].gating.holds s.disc.state) =
        { schedule := some { c with next := c.next.add ((c.settings.period : Int) * 65536) }
          trailing :=
            if s.bank.outputs[n].gating.holds s.disc.state then some (c.next.add ((c.settings.width : Int) * 65536))
            else s.pulses[n].trailing } := by
      unfold PulseOutput.lead
      rw [hc]
    have hexec := happens_eq (leadPulse n) hr hdue
    rw [grantIfFree_event (s := s) (v := leadPulse n s) hr hport rfl rfl] at hexec
    refine congrArg Host.Outcome.next (hexec.trans ?_)
    unfold leadPulse
    rw [hlead]
    rfl
  · have hdue : trailingDue n s = true := trailingDue_iff.2 ⟨x, hx, hreached⟩
    have hexec := happens_eq (trailPulse n) hr hdue
    rw [grantIfFree_event (s := s) (v := trailPulse n s) hr hport rfl rfl] at hexec
    exact congrArg Host.Outcome.next hexec

end Sys2Proof.Machine
end

section
/-! Words and lanes (01 R2 to R8; 10 R164, R165): which words reach the Command Monitor, what the words that reach no block do, and
the pins. -/

namespace Sys2Proof.Machine

/-! ## Which words reach the Command Monitor -/

/-- A word of the command area by its slot and its word (R8). -/
theorem next_of_wordClass_command {s : State} {x : WordAddress} {slot : Fin 16} {w : Fin 8} (h : s.wordClass x = .command slot w) :
    x.toNat = s.commandBase + 8 * slot.val + w.val := by
  unfold State.wordClass at h
  dsimp only at h
  split at h
  next harea =>
    obtain ⟨rfl, rfl⟩ := WordClass.command.inj h
    dsimp only
    omega
  next =>
    split at h
    · cases h
    · split at h
      · cases h
      · split at h <;> cases h

/-- A write that reaches a command slot (R5, R165). -/
theorem writeRoute_command {s : State} {a : Access} {en : Enables} {slot : Fin 16} (h : s.writeRoute a en = .command slot) :
    s.undecoded a = false ∧ a.lane = 0 ∧ a.next.toNat = s.commandBase + 8 * slot.val := by
  unfold State.writeRoute at h
  split at h
  · cases h
  next hdecoded =>
    have hundecoded : s.undecoded a = false := by
      simp only [Bool.or_eq_true, not_or, Bool.not_eq_true] at hdecoded
      exact hdecoded.1
    split at h
    next slot' word hclass =>
      split at h
      next hlane =>
        unfold commandRoute at h
        split at h
        next hword =>
          split at h
          · obtain rfl := Route.command.inj h
            have hnext := next_of_wordClass_command hclass
            exact ⟨hundecoded, laneClass_processor.1 hlane, by omega⟩
          · cases h
        next => cases h
      next => cases h
    next => cases h
    next => cases h

/-- A write that reaches a shadow word (R5, R164). -/
theorem writeRoute_shadow {s : State} {a : Access} {en : Enables} {slot : Fin 16} {n : Fin 7}
    (h : s.writeRoute a en = .shadow slot n) :
    s.undecoded a = false ∧ a.lane = 0 ∧ a.next.toNat = s.commandBase + 8 * slot.val + 1 + n.val := by
  unfold State.writeRoute at h
  split at h
  · cases h
  next hdecoded =>
    have hundecoded : s.undecoded a = false := by
      simp only [Bool.or_eq_true, not_or, Bool.not_eq_true] at hdecoded
      exact hdecoded.1
    split at h
    next slot' word hclass =>
      split at h
      next hlane =>
        unfold commandRoute at h
        split at h
        next hword => split at h <;> cases h
        next hword =>
          obtain ⟨rfl, rfl⟩ := Route.shadow.inj h
          have hnext := next_of_wordClass_command hclass
          refine ⟨hundecoded, laneClass_processor.1 hlane, ?_⟩
          dsimp only
          omega
      next => cases h
    next => cases h
    next => cases h

/-- A read reaches no slot (R5). -/
theorem readRoute_cases (s : State) (a : Access) : s.readRoute a = .pass ∨ ∃ k n q, s.readRoute a = .cellRead k n q := by
  unfold State.readRoute
  split
  · exact .inl rfl
  · split
    · split
      · exact .inr ⟨_, _, _, rfl⟩
      · exact .inl rfl
    · exact .inl rfl

/-- What reaches the Command Monitor is a decoded processor write at its address (R5, R164, R165). -/
theorem route_monitor {s : State} {en : Enables} {a : Access} {r : Route} (h : s.route en = some (a, r)) {slot : Fin 16}
    (hr : r = .command slot ∨ ∃ n, r = .shadow slot n) :
    s.arbiter.current = some a ∧ s.undecoded a = false ∧ a.lane = 0 ∧ a.direction = .write ∧
      (r = .command slot → a.next.toNat = s.commandBase + 8 * slot.val) ∧
      ∀ n, r = .shadow slot n → a.next.toNat = s.commandBase + 8 * slot.val + 1 + n.val := by
  obtain ⟨hword, ⟨hdirection, rfl⟩ | ⟨-, rfl⟩⟩ := route_some h
  · have hcurrent := (wordAccess_some hword).1
    rcases hr with hr | ⟨n, hr⟩
    · obtain ⟨hundecoded, hlane, hnext⟩ := writeRoute_command hr
      exact ⟨hcurrent, hundecoded, hlane, hdirection, fun _ => hnext, fun n hn => by simp [hr] at hn⟩
    · obtain ⟨hundecoded, hlane, hnext⟩ := writeRoute_shadow hr
      refine ⟨hcurrent, hundecoded, hlane, hdirection, fun hc => by simp [hr] at hc, fun m hm => ?_⟩
      obtain ⟨-, rfl⟩ := Route.shadow.inj (hr.symm.trans hm)
      exact hnext
  · rcases readRoute_cases s a with hpass | ⟨k, n, q, hread⟩
    · rcases hr with hr | ⟨n, hr⟩ <;> rw [hpass] at hr <;> cases hr
    · rcases hr with hr | ⟨m, hr⟩ <;> rw [hread] at hr <;> cases hr

/-- Settles O59: where a command is taken or a shadow word is written, none of the exceptions holds. -/
theorem onlyProcessorGivesCommands : Obligations.OnlyProcessorGivesCommands := by
  intro i s a hcurrent hi hnot
  have hexcluded {b : Access} {slot : Fin 16} {r : Route} {en : Enables} (h : s.route en = some (b, r))
      (hr : (i.commandCode.isSome = true ∧ r = .command slot) ∨ (i.commandCode.isSome = false ∧ ∃ n, r = .shadow slot n)) : False := by
    obtain ⟨hb, hundecoded, hlane, hdirection, hcommand, hshadow⟩ := route_monitor h (hr.imp And.right And.right)
    obtain rfl := Option.some.inj (hcurrent.symm.trans hb)
    simp only [State.undecoded, Bool.or_eq_false_iff] at hundecoded
    obtain ⟨⟨hheld, hbypass⟩, hthrough⟩ := hundecoded
    rcases hnot with h | h | h | h | h | ⟨hi', h⟩ | ⟨hi', h⟩
    · exact h hlane
    · simp [hbypass] at h
    · simp [hheld] at h
    · simp [hthrough] at h
    · simp [hdirection] at h
    · rcases hr with ⟨-, hr⟩ | ⟨hno, -⟩
      · exact h slot (hcommand hr)
      · simp [hno] at hi'
    · rcases hr with ⟨hyes, -⟩ | ⟨-, n, hr⟩
      · simp [hyes] at hi'
      · exact h slot n (hshadow n hr)
  rcases hi with hi | ⟨en, data, rfl⟩
  · rcases exec_command hi with ⟨w, code, tag, imm, act, -, htakes⟩ | ⟨-, hnothing⟩
    · rw [htakes.takes]
      cases htaken : commandTaken s with
      | none => rw [takeCommand_none htaken]
      | some x => exact absurd (commandTaken_some htaken) fun h => hexcluded h (.inl ⟨hi, rfl⟩)
    · exact hnothing s
  · change execShadowWrite en data s = .next s
    unfold execShadowWrite
    split
    next b slot n hroute => exact absurd hroute fun h => hexcluded h (.inr ⟨rfl, n, rfl⟩)
    next => rfl

/-! ## Words that pass -/

/-- No pool window claims an address that none of them contains (R6). -/
theorem claims_none {d : WindowSet} {n : Nat} (h : ∀ w : Fin 4, d.pool[w].contains n = false) : d.claims n = none :=
  List.find?_eq_none.2 fun w _ => by rw [Bool.not_eq_true]; exact h w

/-- A word outside the command area is of no slot (R6, R8). -/
theorem wordClass_outside {s : State} {x : WordAddress} (h : ¬ InCommandArea s x.toNat) :
    (¬ OutsideAreas s x.toNat → s.wordClass x = .report ∨ s.wordClass x = .excluded) ∧
    (OutsideAreas s x.toNat → (∀ w : Fin 4, s.decode.pool[w].contains x.toNat = false) → s.wordClass x = .untouched) ∧
    ∀ slot w, s.wordClass x ≠ .command slot w := by
  have hbase : s.reportBase = s.commandBase + 1024 := rfl
  have hclass : s.wordClass x =
      if s.reportBase ≤ x.toNat ∧ x.toNat < s.reportBase + 1024 then .report
      else if s.decode.exclusion[0].contains x.toNat || s.decode.exclusion[1].contains x.toNat then .excluded
      else match s.decode.claims x.toNat with
        | some w => .pool { window := w, index := (x.toNat - s.decode.pool[w].base) / s.decode.pool[w].cellSize }
            ((x.toNat - s.decode.pool[w].base) % s.decode.pool[w].cellSize)
        | none => .untouched := if_neg h
  refine ⟨fun hinside => ?_, fun ⟨_, hreport, hexclusion⟩ hnone => ?_, fun slot w hcommand => ?_⟩
  · rw [hclass]
    split
    · exact .inl rfl
    next hreport =>
      refine .inr (if_pos ?_)
      by_contra hexclusion
      simp only [Bool.or_eq_true, not_or, Bool.not_eq_true] at hexclusion
      refine hinside ⟨h, by rw [hbase] at hreport; omega, fun n => ?_⟩
      match n with
      | 0 => exact hexclusion.1
      | 1 => exact hexclusion.2
  · rw [hclass, if_neg (by rw [hbase]; omega), if_neg ?_, claims_none hnone]
    have h0 := hexclusion 0
    have h1 := hexclusion 1
    simp only [Bool.or_eq_true, not_or, Bool.not_eq_true]
    exact ⟨h0, h1⟩
  · exact h ⟨by have := next_of_wordClass_command hcommand; omega, by
      have := next_of_wordClass_command hcommand
      have := slot.isLt
      have := w.isLt
      omega⟩

/-- A lane that is no egress lane reads no cell (R4, R5). -/
theorem laneClass_ne_egress {lane : BitVec 4} (h : ¬ (9 ≤ lane.toNat ∧ lane.toNat ≤ 14)) (q : Port) :
    laneClass lane ≠ .egress q := by
  intro hq
  unfold laneClass at hq
  dsimp only at hq
  split at hq
  · cases hq
  · split at hq
    · cases hq
    · cases hq

/-- A word that reaches no block passes, whatever its enables (R5). -/
theorem route_of_atMemoryOnly {s : State} {a : Access} (h : AtMemoryOnly s a) (en : Enables) : s.route en = some (a, .pass) := by
  obtain ⟨hcurrent, hpassed, hcases⟩ := h
  have hword : s.wordAccess = some a := by
    unfold State.wordAccess
    rw [hcurrent]
    exact if_pos hpassed
  have hboth (hw : a.direction = .write → s.writeRoute a en = .pass) (hr : a.direction = .read → s.readRoute a = .pass) :
      s.route en = some (a, .pass) := by
    unfold State.route
    rw [hword]
    dsimp only
    split
    next hd => rw [hw hd]
    next hd => rw [hr hd]
  have hclass {c : WordClass} (hc : s.wordClass a.next = c)
      (hwrite : a.direction = .write → (∀ k n, c ≠ .pool k n) ∧ ((∃ slot w, c = .command slot w) → a.lane ≠ 0))
      (hread : a.direction = .read → ∀ k n, c = .pool k n → ∀ q, laneClass a.lane ≠ .egress q) :
      s.route en = some (a, .pass) := by
    refine hboth (fun hd => ?_) (fun hd => ?_)
    · obtain ⟨hpool, hcommand⟩ := hwrite hd
      unfold State.writeRoute
      split
      · rfl
      · rw [hc]
        split
        next slot w => exact if_neg fun hl => hcommand ⟨slot, w, rfl⟩ (laneClass_processor.1 hl)
        next k n => exact absurd rfl (hpool k n)
        next => rfl
    · unfold State.readRoute
      split
      · rfl
      · rw [hc]
        split
        next k n =>
          split
          next q hq => exact absurd hq (hread hd k n rfl q)
          next => rfl
        next => rfl
  rcases hcases with hundecoded | ⟨harea, hlane⟩ | ⟨harea, hinside⟩ | ⟨houtside, hnone⟩ | ⟨houtside, hd, hlane⟩
  · have hu : s.undecoded a = true := by
      simp only [State.undecoded, Bool.or_eq_true]
      tauto
    exact hboth (fun _ => if_pos (by simp [hu])) (fun _ => if_pos hu)
  · have hslot := wordClass_command (s := s) (x := a.next) ⟨(a.next.toNat - s.commandBase) / 8, by omega⟩
      ⟨(a.next.toNat - s.commandBase) % 8, by omega⟩ (by dsimp only; omega)
    refine hclass hslot (fun hd => ⟨fun k n => nofun, fun _ => hlane.resolve_left (by simp [hd])⟩) (fun _ k n => nofun)
  · rcases (wordClass_outside harea).1 hinside with hc | hc
    · exact hclass hc (fun _ => ⟨fun k n => nofun, fun ⟨_, _, h⟩ => nomatch h⟩) (fun _ k n => nofun)
    · exact hclass hc (fun _ => ⟨fun k n => nofun, fun ⟨_, _, h⟩ => nomatch h⟩) (fun _ k n => nofun)
  · exact hclass ((wordClass_outside houtside.1).2.1 houtside hnone)
      (fun _ => ⟨fun k n => nofun, fun ⟨_, _, h⟩ => nomatch h⟩) (fun _ k n => nofun)
  · exact hclass rfl (fun hw => by simp [hd] at hw) (fun _ k n _ q => laneClass_ne_egress hlane q)

/-- The enabled octets of a merged word (R2). -/
theorem getLsbD_mergeWord (old new : Word) (en : Enables) {i : Nat} (hi : i < 32) :
    (mergeWord old new en).getLsbD i = if en.getLsbD (i / 8) then new.getLsbD i else old.getLsbD i := by
  have hmask : ∀ en : Enables, ∀ i : Fin 32, (enableMask en).getLsbD i.val = en.getLsbD (i.val / 8) := by decide +kernel
  have hm := hmask en ⟨i, hi⟩
  dsimp only at hm
  unfold mergeWord
  simp only [BitVec.getLsbD_or, BitVec.getLsbD_and, BitVec.getLsbD_not, hm, hi, decide_true, Bool.true_and]
  cases en.getLsbD (i / 8) <;> simp

/-- A word of an access whose words are decoded, on its way as a write (R5). -/
theorem route_of_decoding_write {s : State} {a : Access} (h : Decoding s a) (hd : a.direction = .write) (en : Enables) :
    s.route en = some (a, s.writeRoute a en) := by
  unfold State.route
  rw [wordAccess_of_decoding h]
  dsimp only
  rw [hd]

/-- A write to word 0 of a slot with fewer than four enables takes no command (R165; log 16). -/
theorem route_of_atCommand_partial {s : State} {a : Access} {slot : Fin 16} (h : AtCommand s a slot) {en : Enables}
    (hen : en ≠ 0b1111) : s.route en = some (a, .pass) := by
  obtain ⟨hdecoding, hd, hlane, hnext⟩ := h
  rw [route_of_decoding_write hdecoding hd]
  unfold State.writeRoute
  split
  · rfl
  · rw [wordClass_command slot 0 (by simpa using hnext)]
    dsimp only
    rw [if_pos (laneClass_processor.2 hlane)]
    exact congrArg (fun r => some (a, r)) (if_neg hen)

/-- A write word with no enable set is no write event (R2). -/
theorem route_of_no_enable {s : State} {a : Access} (h : Decoding s a) (hd : a.direction = .write) :
    s.route 0 = some (a, .pass) := by
  rw [route_of_decoding_write h hd]
  exact congrArg (fun r => some (a, r)) (if_pos (by simp))

/-- A word that passes as a write (R3). -/
theorem exec_fabricWordPass_write {s : State} {a : Access} {en : Enables} (h : s.route en = some (a, .pass))
    (hd : a.direction = .write) (data : Word) : exec (.fabricWordPass en data) s = .next (written a en data s) := by
  have hcurrent := (wordAccess_some (route_some h).1).1
  change execFabricWordPass en data s = _
  unfold execFabricWordPass
  rw [h]
  dsimp only
  unfold passPlain
  rw [hd]
  exact congrArg Host.Outcome.next (passWrite_eq hcurrent en data)

/-- Settles O14: a word of no block goes through, and a shadow word takes its enabled octets. -/
theorem wordsPassAndShadowsMerge : Obligations.WordsPassAndShadowsMerge := by
  refine ⟨fun s a slot en data => ⟨fun hat hd => ?_, fun hat hd => ?_, fun hat hen => ?_, fun hdecoding hd => ?_⟩,
    fun s a slot n en data hat hen => ?_⟩
  · exact exec_fabricWordPass_write (route_of_atMemoryOnly hat en) hd data
  · change execFabricWordPass en data s = _
    unfold execFabricWordPass
    rw [route_of_atMemoryOnly hat en]
    dsimp only
    unfold passPlain
    rw [hd]
    exact congrArg Host.Outcome.next (passRead_eq hat.1 _)
  · exact exec_fabricWordPass_write (route_of_atCommand_partial hat hen) hat.2.1 data
  · exact exec_fabricWordPass_write (route_of_no_enable hdecoding hd) hd data
  · refine ⟨mergeWord s.monitor.shadows[slot][n] data en, ?_, fun i hi => getLsbD_mergeWord _ _ _ hi⟩
    change execShadowWrite en data s = _
    unfold execShadowWrite
    rw [route_of_atShadow hat hen]
    dsimp only
    rw [passWrite_eq hat.1.1]
    rfl

/-! ## The pins -/

/-- Settles O60: the pins follow from the state, and the laws of outputs and port say the rest. -/
theorem pinsFollowState : Obligations.PinsFollowState := by
  refine ⟨fun s hpulses => ⟨fun hheld hbypass => ?_, fun hlow => ?_⟩, fun s hport => ?_⟩
  · have hdriving : s.driving = true := by simp [State.driving, hheld, hbypass]
    refine ⟨fun n => ?_, ?_, ?_⟩
    · obtain ⟨hoff, -, hgated⟩ := hpulses n
      have hpin : s.pulsePin n = match s.bank.outputs[n].polarity with
          | .activeHigh => s.pulses[n].trailing.isSome
          | .activeLow => !s.pulses[n].trailing.isSome := by
        unfold State.pulsePin
        rw [hdriving, Bool.true_and] <;> rfl
      refine ⟨fun hhigh => by rw [hpin, hhigh], fun hlow => by rw [hpin, hlow]; simp, fun hidle => ?_⟩
      have hnone : s.pulses[n].trailing.isSome = false := by
        rcases hidle with hgate | hperiod
        · exact Bool.eq_false_iff.2 fun h => by rw [hgated h] at hgate; cases hgate
        · rw [(hoff hperiod).2]
          rfl
      rw [hpin, hnone]
      cases s.bank.outputs[n].polarity <;> simp
    · unfold State.timeValidPin
      rw [hdriving]
      cases s.disc.state <;> decide
    · unfold State.attentionPin
      rw [hdriving, Bool.true_and, decide_eq_true_iff]
      constructor
      · intro hne
        by_contra hnone
        refine hne (BitVec.eq_of_getLsbD_eq fun i hi => ?_)
        have hzero : (0 : BitVec 16).getLsbD i = false := BitVec.getLsbD_zero
        rw [BitVec.getLsbD_and, hzero, Bool.and_eq_false_iff]
        by_contra hboth
        simp only [not_or, Bool.not_eq_false] at hboth
        exact hnone ⟨i, hi, hboth⟩
      · rintro ⟨i, hi, hflag, henable⟩ hzero
        have hbit := congrArg (fun x : BitVec 16 => x.getLsbD i) hzero
        simp [hflag, henable] at hbit
  · have hdriving : s.driving = false := by rcases hlow with h | h <;> simp [State.driving, h]
    exact ⟨by simp [State.timeValidPin, hdriving], by simp [State.attentionPin, hdriving],
      fun n => by simp [State.pulsePin, hdriving]⟩
  · obtain ⟨-, hwaiting, -, howner, -, hreset, -⟩ := hport
    have hpin : s.waitPin = true ↔ s.resetHeld = false ∧ s.arbiter.owner = .report ∧ s.arbiter.waiting ≠ [] := by
      simp [State.waitPin, and_assoc]
    have hno (h : s.arbiter.burst = none) : s.waitPin = false :=
      Bool.eq_false_iff.2 fun hw => by
        have hburst := howner.1 (hpin.1 hw).2.1
        rw [h] at hburst
        cases hburst
    refine ⟨?_, ?_, fun a ha => (hwaiting a ha).2.2.1⟩
    · rw [hpin, howner, Option.isSome_iff_exists]
      refine ⟨fun ⟨_, hburst, hwait⟩ => ⟨hwait, hburst⟩, fun ⟨hwait, hburst⟩ => ⟨?_, hburst, hwait⟩⟩
      rw [← Bool.not_eq_true]
      intro hheld
      have hidle := (hreset hheld).1
      rw [howner.2 (Option.isSome_iff_exists.2 hburst)] at hidle
      cases hidle
    · rintro (hheld | ⟨hbypass, hinv⟩)
      · exact Bool.eq_false_iff.2 fun hw => by simp [(hpin.1 hw).1] at hheld
      · cases hheld : s.resetHeld with
        | true => exact Bool.eq_false_iff.2 fun hw => by simp [(hpin.1 hw).1] at hheld
        | false => exact hno (hinv hheld hbypass).1

end Sys2Proof.Machine
end

section
/-! Written words and their rows (10 R165; 11.2): the word of a command and the command of a word, and the row of every word that a
fabric access writes. -/

namespace Sys2Proof.Machine

/-! ## The word of a command -/

/-- The fields of a word-0 write by their weights (section 11.2). -/
theorem commandWord_toNat (code tag : BitVec 8) (imm : BitVec 16) :
    (commandWord code tag imm).toNat = code.toNat * 16777216 + tag.toNat * 65536 + imm.toNat := by
  have htag := tag.isLt
  have himm := imm.isLt
  unfold commandWord
  rw [BitVec.toNat_append, BitVec.toNat_append, ← Nat.shiftLeft_add_eq_or_of_lt himm, ← Nat.shiftLeft_add_eq_or_of_lt htag,
    Nat.shiftLeft_eq, Nat.shiftLeft_eq]
  omega

/-- A word is spelled by its fields (section 11.2). -/
theorem commandWord_fields (w : Word) : commandWord (wordCode w) (wordTag w) (wordImm w) = w := by
  refine BitVec.eq_of_toNat_eq ?_
  rw [commandWord_toNat]
  unfold wordCode wordTag wordImm
  simp only [BitVec.extractLsb'_toNat, Nat.shiftRight_eq_div_pow]
  have hw := w.isLt
  omega

/-- The codes of the software commands (section 11.2). -/
theorem toNat_mem_of_commandCode : ∀ code : BitVec 8, commandCodes.contains code = true →
    code.toNat ∈ ([0x01, 0x02, 0x03, 0x10, 0x20, 0x30, 0x31, 0x40, 0x41, 0x50, 0x51, 0x52, 0x53, 0x60, 0x61, 0x62, 0x7F] : List Nat) := by
  decide +kernel

/-- An immediate is its high bits and its bit 0 (section 11.2). -/
theorem high_append_bit (imm : BitVec 16) {b : BitVec 1} (hb : imm.getLsbD 0 = b.getLsbD 0) : imm.extractLsb' 1 15 ++ b = imm := by
  refine BitVec.eq_of_getLsbD_eq fun i hi => ?_
  rw [BitVec.getLsbD_append]
  split
  next hlow =>
    obtain rfl : i = 0 := by omega
    exact hb.symm
  next hhigh =>
    rw [BitVec.getLsbD_extractLsb', decide_eq_true (by omega), Bool.true_and]
    congr 1
    omega

/-- The high bits of an immediate that ends in one bit (section 11.2). -/
theorem extract_append_bit (high : BitVec 15) (b : BitVec 1) : (high ++ b).extractLsb' 1 15 = high := by
  refine BitVec.eq_of_getLsbD_eq fun i hi => ?_
  rw [BitVec.getLsbD_extractLsb', BitVec.getLsbD_append, if_neg (by omega), Nat.add_sub_cancel_left, decide_eq_true hi, Bool.true_and]

/-- Every word-0 write spells one row, which is given by that word (R165). -/
theorem commandOfWord_spelled (w : Word) :
    commandWordOf (commandOfWord w) = some w ∧ (commandOfWord w).wellFormed = true := by
  have hspelled {n : Nat} (h : (wordCode w).toNat = n) : commandWord (BitVec.ofNat 8 n) (wordTag w) (wordImm w) = w := by
    rw [← h, BitVec.ofNat_toNat, BitVec.setWidth_eq]
    exact commandWord_fields w
  unfold commandOfWord
  dsimp only
  split
  case h_12 h =>
    have hswap {b : BitVec 1} (hb : (wordImm w).getLsbD 0 = b.getLsbD 0) :
        commandWord 0x52 (wordTag w) ((wordImm w).extractLsb' 1 15 ++ b) = w := by
      rw [high_append_bit _ hb]
      exact hspelled h
    split
    next hset => exact ⟨congrArg some (hswap hset), rfl⟩
    next hclear => exact ⟨congrArg some (hswap (Bool.eq_false_iff.2 hclear)), rfl⟩
  case h_18 =>
    have hunknown : commandCodes.contains (wordCode w) = false := by
      refine Bool.eq_false_iff.2 fun hcode => ?_
      have hmem := toNat_mem_of_commandCode _ hcode
      simp only [List.mem_cons, List.not_mem_nil, or_false] at hmem
      tauto
    refine ⟨?_, by simp only [Instr.wellFormed, hunknown, Bool.not_false]⟩
    simp only [commandWordOf, hunknown, Bool.false_eq_true, if_false, commandWord_fields]
  all_goals exact ⟨congrArg some (hspelled ‹_›), rfl⟩

/-- The row of a word of given fields, by its code (R165). -/
theorem commandOfWord_commandWord (code tag : BitVec 8) (imm : BitVec 16) :
    commandOfWord (commandWord code tag imm) =
      match code.toNat with
      | 0x01 => .timeSet tag imm
      | 0x02 => .timeStep tag imm
      | 0x03 => .rateSet tag imm
      | 0x10 => .tableFlush tag imm
      | 0x20 => .pathClear tag imm
      | 0x30 => .disciplineRelatch tag imm
      | 0x31 => .disciplineHold tag imm
      | 0x40 => .captureAck tag imm
      | 0x41 => .captureTest tag imm
      | 0x50 => .profileWrite tag imm
      | 0x51 => .profileCopy tag imm
      | 0x52 =>
        if imm.getLsbD 0 then .profileSwapAtSecond tag (imm.extractLsb' 1 15) else .profileSwapImmediate tag (imm.extractLsb' 1 15)
      | 0x53 => .profileCancel tag imm
      | 0x60 => .flagClear tag imm
      | 0x61 => .flagEnable tag imm
      | 0x62 => .reportNow tag imm
      | 0x7F => .restart tag imm
      | _ => .unknownCommand code tag imm := by
  unfold commandOfWord
  rw [wordCode_commandWord, wordTag_commandWord, wordImm_commandWord] <;> rfl

/-- The code of a software command names no other: an unknown one stays unknown (R165). -/
theorem commandOfWord_unknown {code : BitVec 8} (hcode : commandCodes.contains code = false) (tag : BitVec 8) (imm : BitVec 16) :
    commandOfWord (commandWord code tag imm) = .unknownCommand code tag imm := by
  rw [commandOfWord_commandWord]
  have hknown : ∀ c : BitVec 8, commandCodes.contains c = false →
      c.toNat ∉ ([0x01, 0x02, 0x03, 0x10, 0x20, 0x30, 0x31, 0x40, 0x41, 0x50, 0x51, 0x52, 0x53, 0x60, 0x61, 0x62, 0x7F] : List Nat) := by
    decide +kernel
  have hnot := hknown code hcode
  split
  case h_18 => rfl
  all_goals exact absurd (by simp only [*, List.mem_cons, true_or, or_true]) hnot

/-- The word that gives a row spells it (R165). -/
theorem commandOfWord_of_commandWordOf {i : Instr} {w : Word} (h : commandWordOf i = some w) : commandOfWord w = i := by
  cases i with
  | profileSwapImmediate tag high =>
    obtain rfl := Option.some.inj h
    have hbit : (high ++ 0#1).getLsbD 0 = false := by
      rw [BitVec.getLsbD_append]
      rfl
    have hhigh := extract_append_bit high 0#1
    rw [commandOfWord_commandWord]
    exact (if_neg (by rw [hbit]; decide)).trans (congrArg _ hhigh)
  | profileSwapAtSecond tag high =>
    obtain rfl := Option.some.inj h
    have hbit : (high ++ 1#1).getLsbD 0 = true := by
      rw [BitVec.getLsbD_append]
      rfl
    have hhigh := extract_append_bit high 1#1
    rw [commandOfWord_commandWord]
    exact (if_pos hbit).trans (congrArg _ hhigh)
  | unknownCommand code tag imm =>
    simp only [commandWordOf] at h
    split at h
    · cases h
    next hcode =>
      obtain rfl := Option.some.inj h
      exact commandOfWord_unknown (Bool.eq_false_iff.2 hcode) tag imm
  | timeSet | timeStep | rateSet | tableFlush | pathClear | disciplineRelatch | disciplineHold | captureAck | captureTest
  | profileWrite | profileCopy | profileCancel | flagClear | flagEnable | reportNow | restart =>
    obtain rfl := Option.some.inj h
    exact commandOfWord_commandWord _ _ _
  | _ => cases h

/-! ## The row of a written word -/

/-- A command row that is taken leaves memory, port and arbiter as its word does (R3, R165). -/
theorem exec_command_outside {s : State} {a : Access} {slot : Fin 16} (htaken : commandTaken s = some (a, slot)) (data : Word) :
    ∃ t, exec (commandOfWord data) s = .next t ∧ t.outside = (passWrite a.next 0b1111 data s).outside := by
  obtain ⟨hword, -⟩ := commandOfWord_spelled data
  have hcode : (commandOfWord data).commandCode.isSome = true := by
    unfold commandOfWord
    dsimp only
    split
    case h_12 => split <;> rfl
    all_goals rfl
  rcases exec_command hcode with ⟨w, code, tag, imm, act, hw, htakes⟩ | ⟨hnone, -⟩
  · obtain rfl := Option.some.inj (hword.symm.trans hw)
    refine ⟨_, htakes.takes s, ?_⟩
    rw [takeCommand_some htaken, ← htakes.word]
    exact (work_finishCommand (w := .none) slot code tag _).outside_eq.trans (htakes.works slot _).outside_eq
  · rw [hword] at hnone
    cases hnone

/-- A command is a full write of its word 0 (R165). -/
theorem eq_of_writeRoute_command {s : State} {a : Access} {en : Enables} {slot : Fin 16} (h : s.writeRoute a en = .command slot) :
    en = 0b1111 := by
  unfold State.writeRoute at h
  split at h
  · cases h
  · split at h
    · split at h
      · unfold commandRoute at h
        split at h
        · split at h
          next hen => exact hen
          next => cases h
        · cases h
      · cases h
    · cases h
    · cases h

/-- Settles O15: a word's row is told by its route, and each of the four passes the word. -/
theorem writtenWordsAreRows : Obligations.WrittenWordsAreRows := by
  refine ⟨commandWord_toNat, fun w => ?_, fun i w => commandOfWord_of_commandWordOf, fun s a slot data hat => ?_,
    fun s a en data hcurrent hpassed hdirection => ?_⟩
  · obtain ⟨hword, hwf⟩ := commandOfWord_spelled w
    refine ⟨hword, hwf, ?_⟩
    unfold decodeTableWord
    rw [if_pos ⟨rfl, w.isLt⟩, BitVec.ofNat_toNat, BitVec.setWidth_eq]
  · exact writtenRow_eq (commandTaken_some (commandTaken_of_atCommand hat)) data
  · have hword : s.wordAccess = some a := by
      unfold State.wordAccess
      rw [hcurrent]
      exact if_pos hpassed
    have hroute : s.route en = some (a, s.writeRoute a en) := by
      unfold State.route
      rw [hword]
      dsimp only
      rw [hdirection]
    have hwritten : passWrite a.next en data s = written a en data s := passWrite_eq hcurrent en data
    have houtside {t : State} (ht : t.outside = (passWrite a.next en data s).outside) :
        t.memory = s.memory.writeWord a.next en data ∧ t.arbiter = advanced a s := by
      rw [hwritten] at ht
      exact ⟨congrArg (·.2.2.1) ht, congrArg (·.2.2.2.2.1) ht⟩
    suffices h : ∃ t, exec (writtenRow en data s) s = .next t ∧ t.outside = (passWrite a.next en data s).outside by
      obtain ⟨t, hexec, ht⟩ := h
      exact ⟨t, hexec, houtside ht⟩
    cases hr : s.writeRoute a en with
    | pass =>
      rw [hr] at hroute
      rw [show writtenRow en data s = .fabricWordPass en data from writtenRow_eq hroute data]
      refine ⟨_, exec_fabricWordPass_write hroute hdirection data, ?_⟩
      rw [hwritten]
    | command slot =>
      obtain rfl := eq_of_writeRoute_command hr
      rw [hr] at hroute
      rw [show writtenRow _ data s = commandOfWord data from writtenRow_eq hroute data]
      refine exec_command_outside (slot := slot) ?_ data
      unfold commandTaken
      rw [hroute]
    | shadow slot n =>
      rw [hr] at hroute
      rw [show writtenRow en data s = .shadowWrite en data from writtenRow_eq hroute data]
      refine ⟨writeShadow slot n en data (passWrite a.next en data s), ?_, rfl⟩
      change execShadowWrite en data s = _
      simp only [execShadowWrite, hroute]
    | cellWrite k n l =>
      rw [hr] at hroute
      rw [show writtenRow en data s = .cellWordWrite en data from writtenRow_eq hroute data]
      refine ⟨_, ?_, (work_cellWrite (w := powersOf (.cellWordWrite en data)) _ (steps_cellWordWrite en data)
        ⟨_, _, rfl⟩ k n l en data).outside_eq⟩
      change execCellWordWrite en data s = _
      simp only [execCellWordWrite, hroute]
    | cellRead k n q => exact absurd hr (writeRoute_ne_cellRead s a en k n q)

end Sys2Proof.Machine
end

section
/-! The reset pin, the requests for an access, and the grants at the ends of accesses and bursts (01 sections 1.7, 1.9 and 1.10). -/

namespace Sys2Proof.Machine

/-! ## The reset pin -/

/-- Settles O6: the burst in progress is abandoned, then every block takes its reset value. -/
theorem hardwareResetResets : Obligations.HardwareResetResets := by
  refine fun s => ⟨(abandonBurst s).memory, (abandonBurst s).ports, (abandonBurst s).freeIndex, (heldAccess s.arbiter).1,
    (heldAccess s.arbiter).2, ?_, fun a hcurrent => ?_, fun hcurrent hwaiting => ?_, fun hcurrent a rest hwaiting => ?_,
    fun hburst => ?_, fun b hburst => ?_⟩
  · have harbiter : (abandonBurst s).arbiter = s.arbiter := by
      unfold abandonBurst
      split <;> rfl
    have hpending : (abandonBurst s).pending = s.pending := by
      unfold abandonBurst
      split <;> rfl
    change Host.Outcome.next (holdReset (abandonBurst s)) = _
    unfold holdReset
    rw [harbiter, hpending]
  · have hheld : heldAccess s.arbiter =
        (some { a with passThrough := a.passThrough || decide (0 < a.passed) }, s.arbiter.waiting) := by
      unfold heldAccess
      rw [hcurrent]
    rw [hheld]
    refine ⟨rfl, fun hzero => ?_, fun hpassed => ?_⟩
    · rw [hzero, show decide (0 < 0) = false from rfl, Bool.or_false, ← hzero]
    · rw [decide_eq_true (Nat.pos_of_ne_zero hpassed), Bool.or_true]
  · simp only [heldAccess, hcurrent, hwaiting, and_self]
  · simp only [heldAccess, hcurrent, hwaiting, and_self]
  · simp only [abandonBurst, hburst, and_self]
  · refine ⟨Config.burstWordsWritten s.freeIndex % b.words.length, fun hwords => Nat.mod_lt _ (List.length_pos_of_ne_nil hwords), ?_⟩
    simp only [abandonBurst, hburst]
    rfl

/-- The access presented first is granted at a free port while no wait has been counted (R12). -/
theorem grantIfFree_first {s : State} {a : Access} {rest : List Access} (hf : portFree s = true) (hr : s.resetHeld = false)
    (hw : s.arbiter.waiting = a :: rest) (hc : s.arbiter.waitCount = 0) : grantIfFree s = grantFabric a rest s :=
  grantIfFree_fabric hf hr hw (.inr (by rw [hc]; decide))

/-- Settles O7: the part is brought up and the port granted, to the access presented first or else to the Status burst. -/
theorem resetReleaseBringsUp : Obligations.ResetReleaseBringsUp := by
  refine fun base bypass l0 l1 s => ⟨fun hreleased => ?_, fun hheld => ?_⟩
  · change execResetRelease _ _ _ _ _ = _
    unfold execResetRelease
    rw [hreleased]
    rfl
  · let v := bringUp base bypass l0 l1 s
    have hexec : exec (.resetRelease base bypass l0 l1) s = .next (grantIfFree v) := by
      change execResetRelease _ _ _ _ _ = _
      exact if_pos hheld
    obtain ⟨hframe, hbusy, -⟩ := grantAfter_grantIfFree (s := v) (v := v) rfl rfl
    have hfields {α : Type} (f : State → α) (hf : ∀ a r, f { v with arbiter := a, report := r } = f v) :
        f (grantIfFree v) = f v := (congrArg f hframe).trans (hf _ _)
    have hfree (h : (releasedAccess s.arbiter).1 = none) : portFree v = true := by
      change ((releasedAccess s.arbiter).1.isNone && true) = true
      rw [h]
      rfl
    refine ⟨grantIfFree v, hexec, hfields (·.resetHeld) fun _ _ => rfl, hfields (·.straps) fun _ _ => rfl,
      hfields (·.memory) fun _ _ => rfl, hfields (·.ports) fun _ _ => rfl, hfields (·.pending) fun _ _ => rfl,
      hfields (·.decode) fun _ _ => rfl, hfields (·.candidates) fun _ _ => rfl, hfields (·.table) fun _ _ => rfl,
      hfields (·.delays) fun _ _ => rfl, hfields (·.time) fun _ _ => rfl, hfields (·.disc) fun _ _ => rfl,
      hfields (·.pulses) fun _ _ => rfl, hfields (·.profiles) fun _ _ => rfl, hfields (·.monitor) fun _ _ => rfl,
      hfields (·.captures[0]) fun _ _ => rfl, hfields (·.captures[1]) fun _ _ => rfl, fun hbypass => ?_, fun hdecoding hcurrent hwaiting => ?_,
      fun a rest hpresented => ?_, fun a hcurrent hpassed => ?_⟩
    · have hqueue : v.report.queue = [] := if_pos hbypass
      cases hport : portFree v with
      | false =>
        rw [hbusy hport]
        exact ⟨congrArg (fun q => { State.reset.report with queue := q }) (if_pos hbypass), rfl⟩
      | true =>
        cases hwaiting : v.arbiter.waiting with
        | nil =>
          rw [grantIfFree_none hport rfl hwaiting hqueue]
          exact ⟨congrArg (fun q => { State.reset.report with queue := q }) (if_pos hbypass), rfl⟩
        | cons a rest =>
          rw [grantIfFree_first hport rfl hwaiting rfl]
          exact ⟨congrArg (fun q => { State.reset.report with queue := q }) (if_pos hbypass), rfl⟩
    · subst hdecoding
      have hreleased : releasedAccess s.arbiter = (none, []) := by
        simp only [releasedAccess, hcurrent, hwaiting]
      have hport := hfree (by rw [hreleased])
      rw [grantIfFree_report hport rfl (congrArg Prod.snd hreleased) (k := .status)
        (ks := [.discipline, .port 0, .port 1, .port 2, .port 3, .port 4, .port 5, .commands, .captures, .counters]) rfl]
      exact ⟨rfl, rfl, rfl⟩
    · have hreleased : releasedAccess s.arbiter = (none, a :: rest) := by
        unfold releasedAccess
        rcases hpresented with ⟨hcurrent, hzero, rfl⟩ | ⟨hcurrent, hwaiting⟩
        · rw [hcurrent]
          exact if_pos hzero
        · rw [hcurrent, ← hwaiting]
      rw [grantIfFree_first (hfree (by rw [hreleased])) rfl (congrArg Prod.snd hreleased) rfl]
      exact ⟨rfl, rfl, rfl, rfl, rfl⟩
    · have hreleased : releasedAccess s.arbiter = (some { a with passThrough := true }, s.arbiter.waiting) := by
        unfold releasedAccess
        rw [hcurrent]
        exact if_neg hpassed
      have hport : portFree v = false := by
        change ((releasedAccess s.arbiter).1.isNone && true) = false
        rw [hreleased]
        rfl
      rw [hbusy hport]
      refine ⟨?_, rfl⟩
      change { State.reset.arbiter with current := (releasedAccess s.arbiter).1, waiting := (releasedAccess s.arbiter).2 } = _
      rw [hreleased]

/-! ## Accesses -/

/-- Settles O8: the access joins those that wait, and the port is granted where it is free. -/
theorem accessRequestIsGrantedOrWaits : Obligations.AccessRequestIsGrantedOrWaits := by
  intro address d n s a hmin hmax ha
  let v := s.withArbiter { s.arbiter with waiting := s.arbiter.waiting ++ [a] }
  have hexec : exec (.fabricAccessRequest address d n) s = .next (grantIfFree v) := by
    subst ha
    exact if_pos ⟨hmin, hmax⟩
  have hwaits (h : s.arbiter.waiting = []) : v.arbiter.waiting = a :: [] := by
    change s.arbiter.waiting ++ [a] = [a]
    rw [h, List.nil_append]
  have hburst (h : portFree s = true) : s.arbiter.burst = none := by
    simp only [portFree, Bool.and_eq_true, Option.isNone_iff_eq_none] at h
    exact h.2
  rw [hexec]
  refine ⟨fun hport => congrArg _ (grantIfFree_busy (s := v) hport), fun hport hwaiting hheld => ?_, fun hport hwaiting hreleased hquiet => ?_,
    fun hport hwaiting hreleased hcount k ks hqueue => ⟨_, rfl, ?_⟩⟩
  · rw [grantIfFree_held (s := v) hport hheld]
    unfold grantHeld
    rw [hwaits hwaiting, ← hwaiting] <;> rfl
  · rw [grantIfFree_fabric (s := v) hport hreleased (hwaits hwaiting) hquiet, ← hwaiting]
    rfl
  · have hgranted := granted_grant v
    have hgrant : grantIfFree v = grant v := by
      unfold grantIfFree
      rw [show portFree v = true from hport, show v.resetHeld = false from hreleased]
      rfl
    rw [hgrant]
    unfold Granted at hgranted
    rw [hwaits hwaiting, show v.report.queue = k :: ks from hqueue] at hgranted
    dsimp only at hgranted
    rw [if_neg (show ¬ v.arbiter.waitCount < 64 from Nat.not_lt.2 hcount)] at hgranted
    obtain ⟨hreport, harbiter⟩ := hgranted
    refine ⟨?_, congrArg (·.flags) hreport⟩
    rw [harbiter]
    rfl

/-! ## Bursts -/

/-- Settles O11: the words are written, the port is free, and it is granted. -/
theorem burstEndGrantsPort : Obligations.BurstEndGrantsPort := by
  intro s b hburst hcurrent hreleased
  let v := (writeBurst b s).withArbiter { s.arbiter with burst := none, owner := .idle }
  have hexec : exec .reportBurstEnd s = .next (grantIfFree v) := by
    change execReportBurstEnd s = _
    simp only [execReportBurstEnd, hburst]
    rfl
  have hport : portFree v = true := by
    change (s.arbiter.current.isNone && true) = true
    rw [hcurrent]
    rfl
  obtain ⟨hframe, -, hgranted⟩ := grantAfter_grantIfFree (s := v) (v := v) hreleased rfl
  have hfields {α : Type} (f : State → α) (hf : ∀ a r, f { v with arbiter := a, report := r } = f v) :
      f (grantIfFree v) = f v := (congrArg f hframe).trans (hf _ _)
  have hmemory := hfields (·.memory) fun _ _ => rfl
  have hports := hfields (·.ports) fun _ _ => rfl
  refine ⟨_, hexec, hmemory, ?_, ?_, fun w hlast => ?_, hgranted hport⟩
  · rw [hports]
    rfl
  · rw [hmemory, hports]
    exact hframe
  · rw [hports]
    change (b.words.getLast?.map _).or _ = _
    rw [hlast]
    rfl

end Sys2Proof.Machine
end

section
/-! The decode change (01 section 1.9; 04 R66, R72): what becomes of entries and candidates of changed windows. -/

namespace Sys2Proof.Machine

/-! ## Several retirements -/

/-- Entries whose orders are some of those of entries in order are in order. -/
theorem InOrder.of_orders {es fs : List Entry} (h : InOrder es) (hs : (fs.map (·.order)).Sublist (es.map (·.order))) : InOrder fs :=
  inOrder_iff.2 ((inOrder_iff.1 h).sublist hs)

/-- A retirement keeps the orders of the entries left (R66). -/
theorem retireEntry_orders (o : Nat) (es : List Entry) : ((retireEntry o es).map (·.order)).Sublist (es.map (·.order)) := by
  have hleft : ((es.filter fun x => x.order != o).map (·.order)).Sublist (es.map (·.order)) := List.filter_sublist.map _
  unfold retireEntry
  split
  · exact List.Sublist.refl _
  · unfold endLink
    split
    · split
      · rw [List.map_map]
        rw [List.map_congr_left (g := fun x : Entry => x.order) fun x _ => by dsimp only [Function.comp]; split <;> rfl]
        exact (List.filter_sublist.map _).trans hleft
      · rwa [changeEntry_orders _ (f := fun d => { d with link := .absent }) fun _ => rfl]
    · exact hleft

/-- What becomes of an entry when the entries of these orders are retired (R66, R72). -/
def retiredByAny (os : List Nat) (x : Entry) : Option Entry :=
  if x.order ∈ os then none
  else if ∃ o ∈ os, x.link = .entry o then
    if x.kind = .detail then some { x with link := .absent }
    else if x.state = .detached then none
    else some { x with link := .ended }
  else some x

/-- An entry is retired by the first order and then by the rest. -/
theorem retiredByAny_cons (o : Nat) (os : List Nat) (x : Entry) :
    retiredByAny (o :: os) x = (retiredBy o x).bind (retiredByAny os) := by
  have hcut (y : Entry) (hl : ∀ p, y.link ≠ .entry p) : retiredByAny os y = if y.order ∈ os then none else some y := by
    simp [retiredByAny, hl]
  unfold retiredBy
  by_cases ho : x.order = o
  · simp [retiredByAny, ho]
  · rw [if_neg ho]
    by_cases hl : x.link = .entry o
    · by_cases hk : x.kind = .detail
      · simp [retiredByAny, ho, hl, hk]
      · by_cases hs : x.state = .detached
        · simp [retiredByAny, ho, hl, hk, hs]
        · simp [retiredByAny, ho, hl, hk, hs]
    · simp [retiredByAny, ho, hl]

/-- Several retirements entry by entry. -/
theorem retireEntries_eq (os : List Nat) :
    ∀ {es : List Entry}, InOrder es → LinksPaired es → retireEntries os es = es.filterMap (retiredByAny os) := by
  induction os with
  | nil =>
    intro es _ _
    rw [List.filterMap_congr (g := some) fun x _ => by simp [retiredByAny], List.filterMap_some]
    rfl
  | cons o os ih =>
    intro es horder hlinks
    have hstep := retireEntry_eq horder hlinks o
    change retireEntries os (retireEntry o es) = _
    rw [hstep, ih (horder.of_orders (filterMap_orders retiredBy_order _)) (linksPaired_retired hlinks o), List.filterMap_filterMap]
    exact List.filterMap_congr fun x _ => (retiredByAny_cons o os x).symm

/-- A retirement adds no entry and changes no more than a link, which it takes away (R66). -/
theorem mem_retireEntry {o : Nat} {es : List Entry} {e : Entry} (he : e ∈ retireEntry o es) :
    ∃ f ∈ es, e = { f with link := e.link } ∧ (∀ p, e.link = .entry p → f.link = .entry p) := by
  have hself {f : Entry} {es' : List Entry} (hf : f ∈ es'.filter fun x => x.order != o) :
      ∃ g ∈ es', f = { g with link := f.link } ∧ (∀ p, f.link = .entry p → g.link = .entry p) :=
    ⟨f, (List.mem_filter.1 hf).1, rfl, fun _ h => h⟩
  unfold retireEntry at he
  split at he
  · exact ⟨e, he, rfl, fun _ h => h⟩
  · unfold endLink at he
    split at he
    · split at he
      · obtain ⟨x, hx, rfl⟩ := List.mem_map.1 he
        have hx := (List.mem_filter.1 hx).1
        split
        · exact ⟨x, (List.mem_filter.1 hx).1, rfl, nofun⟩
        · exact hself hx
      · obtain ⟨x, hx, rfl⟩ := mem_changeEntry.1 he
        split
        · exact ⟨x, (List.mem_filter.1 hx).1, rfl, nofun⟩
        · exact hself hx
    · exact hself he

/-- Several retirements leave no entry of their orders, add none, and change no more than a link (R66). -/
theorem mem_retireEntries (os : List Nat) : ∀ {es : List Entry} {e : Entry}, e ∈ retireEntries os es →
    e.order ∉ os ∧ ∃ f ∈ es, e = { f with link := e.link } ∧ (∀ p, e.link = .entry p → f.link = .entry p) := by
  induction os with
  | nil => exact fun {es e} he => ⟨List.not_mem_nil, e, he, rfl, fun _ h => h⟩
  | cons o os ih =>
    intro es e he
    obtain ⟨hout, f, hf, hfe, hflink⟩ := ih (es := retireEntry o es) he
    obtain ⟨g, hg, hgf, hglink⟩ := mem_retireEntry hf
    refine ⟨?_, g, hg, ?_, fun p hp => hglink p (hflink p hp)⟩
    · have horder : e.order = f.order := congrArg (·.order) hfe
      simp only [List.mem_cons, not_or]
      exact ⟨horder ▸ order_ne_of_mem_retireEntry hf, hout⟩
    · rw [hfe, hgf]

/-- An entry to which none of the retired is linked stays (R66). -/
theorem mem_retireEntries_of_unlinked (os : List Nat) : ∀ {es : List Entry} {e : Entry}, InOrder es → e ∈ es → e.order ∉ os →
    (∀ f ∈ es, f.order ∈ os → f.link ≠ .entry e.order) → e ∈ retireEntries os es := by
  induction os with
  | nil => exact fun _ he _ _ => he
  | cons o os ih =>
    intro es e horder he hout hlink
    simp only [List.mem_cons, not_or] at hout
    have hstays : e ∈ retireEntry o es := by
      cases hfound : findOrder o es with
      | none =>
        unfold retireEntry
        rw [hfound]
        exact he
      | some x =>
        obtain ⟨hx, rfl⟩ := findOrder_some hfound
        exact mem_retireEntry_of_unlinked horder hx he hout.1 (hlink x hx List.mem_cons_self)
    have horder' : InOrder (retireEntry o es) := horder.of_orders (retireEntry_orders o es)
    refine ih horder' hstays hout.2 fun f hf hfo hfl => ?_
    obtain ⟨g, hg, hgf, hglink⟩ := mem_retireEntry hf
    have hgo : g.order = f.order := (congrArg (·.order) hgf).symm
    exact hlink g hg (List.mem_cons_of_mem _ (hgo ▸ hfo)) (hglink _ hfl)

/-! ## The decode change -/

/-- A decode change while an access is in progress is none (R17; log 14). -/
theorem decodeChange_busy {s : State} (h : accessInProgress s = true) : decodeChange s = s := if_pos h

/-- A decode change with no access in progress (R17). -/
theorem decodeChange_free {s : State} (h : accessInProgress s = false) :
    decodeChange s = { s with
      decode := { pool := s.bank.pool, exclusion := s.bank.exclusion }
      table := { s.table with
        entries := retireEntries ((s.table.entries.filter fun e => windowChanges e.key.window s).map (·.order)) s.table.entries }
      candidates := tab7 fun n => s.candidates[n].filter fun c => !windowChanges c.key.window s } := by
  unfold decodeChange
  rw [if_neg (by rw [h]; decide)]
  rfl

/-- An access is in progress once a word of it has passed (R17; log 14). -/
theorem accessInProgress_iff {s : State} : accessInProgress s = true ↔ ∃ a, s.arbiter.current = some a ∧ 0 < a.passed := by
  unfold accessInProgress
  cases s.arbiter.current <;> simp

/-- The decode change follows the active bank (R17, R66, R72). -/
theorem decodeFollows_decodeChange (s : State) : DecodeFollows s.bank s (decodeChange s) := by
  refine ⟨fun hbusy => by rw [decodeChange_busy (accessInProgress_iff.2 hbusy)]; exact ⟨rfl, rfl, rfl⟩, fun hfree => ?_⟩
  have hidle : accessInProgress s = false := by
    refine Bool.eq_false_iff.2 fun h => ?_
    obtain ⟨a, ha, hpassed⟩ := accessInProgress_iff.1 h
    exact absurd (hfree a ha) (Nat.pos_iff_ne_zero.1 hpassed)
  let os := (s.table.entries.filter fun e => windowChanges e.key.window s).map (·.order)
  have hgoes {e : Entry} (he : e ∈ s.table.entries) (h : windowChanges e.key.window s = true) : e.order ∈ os :=
    List.mem_map.2 ⟨e, List.mem_filter.2 ⟨he, h⟩, rfl⟩
  have hstays {e : Entry} (he : e ∈ s.table.entries) (horder : InOrder s.table.entries) (h : e.order ∈ os) :
      windowChanges e.key.window s = true := by
    obtain ⟨f, hf, hfo⟩ := List.mem_map.1 h
    obtain ⟨hf, hchanges⟩ := List.mem_filter.1 hf
    exact horder.inj hf he hfo ▸ hchanges
  have hsame (n : Fin 4) : windowChanges n s = false ↔ s.decode.pool[n] = s.bank.pool[n] := by simp [windowChanges]
  rw [decodeChange_free hidle]
  refine ⟨rfl, rfl, fun e he => ?_, fun htable hlinks => ?_, fun htable e he hwindow hpartners => ?_, fun n => ?_⟩
  · obtain ⟨hout, f, hf, hfe, -⟩ := mem_retireEntries os he
    have horder : e.order = f.order := congrArg (·.order) hfe
    have hkey : e.key = f.key := congrArg (·.key) hfe
    refine ⟨(hsame _).1 (Bool.eq_false_iff.2 fun h => hout ?_), f, hf, hfe⟩
    rw [horder]
    exact hgoes hf (hkey ▸ h)
  · refine (retireEntries_eq os htable.2.1 hlinks).trans (List.filterMap_congr fun e he => ?_)
    have hout : e.order ∈ os ↔ windowChanges e.key.window s = true := ⟨hstays he htable.2.1, hgoes he⟩
    have hpartner : (∃ o ∈ os, e.link = .entry o) ↔
        (s.table.entries.any fun x => e.link == .entry x.order && windowChanges x.key.window s) = true := by
      simp only [List.any_eq_true, Bool.and_eq_true, beq_iff_eq]
      constructor
      · rintro ⟨o, ho, hl⟩
        obtain ⟨x, hx, rfl⟩ := List.mem_map.1 ho
        obtain ⟨hx, hchanges⟩ := List.mem_filter.1 hx
        exact ⟨x, hx, hl, hchanges⟩
      · rintro ⟨x, hx, hl, hchanges⟩
        exact ⟨x.order, hgoes hx hchanges, hl⟩
    unfold retiredByAny
    simp only [hout, hpartner]
    rfl
  · refine mem_retireEntries_of_unlinked os htable.2.1 he (fun h => ?_) fun f hf hfo hfl => ?_
    · exact Bool.false_ne_true (((hsame _).2 hwindow).symm.trans (hstays he htable.2.1 h))
    · exact Bool.false_ne_true (((hsame _).2 (hpartners f hf hfl)).symm.trans (hstays hf htable.2.1 hfo))
  · have hkeeps (c : Candidate) : (!windowChanges c.key.window s) = (s.decode.pool[c.key.window] == s.bank.pool[c.key.window]) :=
      Bool.not_not _
    simp only [hkeeps]
    fin_cases n <;> rfl

end Sys2Proof.Machine
end

section
/-! The end of an access with no swap waiting (01 sections 1.7 and 1.9). -/

namespace Sys2Proof.Machine

/-- What the decode follows is told by its decode, table and candidates before and after, and the access before. -/
theorem DecodeFollows.congr {b : Profile} {s s' t t' : State} (h : DecodeFollows b s t)
    (hcurrent : s'.arbiter.current = s.arbiter.current) (hdecode : s'.decode = s.decode) (htable : s'.table = s.table)
    (hcandidates : s'.candidates = s.candidates) (hdecode' : t'.decode = t.decode) (htable' : t'.table = t.table)
    (hcandidates' : t'.candidates = t.candidates) : DecodeFollows b s' t' := by
  have hkept : keptEntry b s' = keptEntry b s := by
    funext e
    unfold keptEntry
    rw [hdecode, htable]
  unfold DecodeFollows TableInv LinkInv
  rw [hkept, hcurrent, hdecode, htable, hcandidates, hdecode', htable', hcandidates']
  exact h

/-- The state of an access end before the acts that follow it: no access has the port (R13). -/
def accessLeft (s : State) : State := s.withArbiter { s.arbiter with current := none }

/-- The grant at the end of an access, after the acts of the end left state `v` with the arbiter as it was (R13, R14). -/
theorem grantedAtEnd_of_left {s v : State} (hr : v.resetHeld = false) (hburst : s.arbiter.burst = none)
    (harbiter : v.arbiter = { s.arbiter with current := none }) :
    GrantedAtEnd s.arbiter v.report v.straps.bypass (grantIfFree (countWait v)) := by
  have hport : portFree (countWait v) = true := by
    change (v.arbiter.current.isNone && v.arbiter.burst.isNone) = true
    rw [harbiter]
    change (true && s.arbiter.burst.isNone) = true
    rw [hburst]
    rfl
  have hgranted := (grantAfter_grantIfFree (s := countWait v) (v := countWait v) hr rfl).2.2 hport
  have hcount : (countWait v).arbiter =
      { s.arbiter with current := none, waitCount := if v.report.queue = [] then 0 else min 64 (s.arbiter.waitCount + 1) } := by
    change { v.arbiter with waitCount := if v.resetHeld || v.report.queue.isEmpty then 0 else min 64 (v.arbiter.waitCount + 1) } = _
    rw [harbiter, hr, Bool.false_or]
    simp only [List.isEmpty_iff]
  unfold GrantedAtEnd
  rw [← hcount]
  exact hgranted

/-- The end of an access is its acts. -/
theorem exec_fabricAccessEnd {s : State} {a : Access} (hcurrent : s.arbiter.current = some a) (hpassed : a.length ≤ a.passed) :
    exec .fabricAccessEnd s = .next (grantIfFree (countWait (decodeChange (swapAtEnd (accessLeft s))))) := by
  change execFabricAccessEnd s = _
  simp only [execFabricAccessEnd, hcurrent, hpassed, if_true]
  rfl

/-- Settles O9: the decode change and the grant, for no swap waits. -/
theorem accessEndGrantsPort : Obligations.AccessEndGrantsPort := by
  intro s a hcurrent hpassed hburst
  rw [exec_fabricAccessEnd hcurrent hpassed]
  refine ⟨fun hheld hinv => ?_, fun hreleased hswap => ⟨_, rfl, ?_⟩⟩
  · have hstill : (accessLeft s).still = State.reset.still := (heldInv_iff.1 hinv hheld).1.still
    have hnoswap : swapAtEnd (accessLeft s) = accessLeft s := by
      unfold swapAtEnd
      rw [swap_rests hstill]
    have hport : portFree (countWait (accessLeft s)) = true := by
      change (true && s.arbiter.burst.isNone) = true
      rw [hburst]
      rfl
    have hcount : countWait (accessLeft s) = { s with arbiter := { s.arbiter with waitCount := 0, current := none } } := by
      unfold countWait
      rw [if_pos (by rw [show (accessLeft s).resetHeld = true from hheld]; rfl)]
      rfl
    rw [hnoswap, decodeChange_rests hstill, grantIfFree_held hport hheld, hcount]
    unfold grantHeld
    dsimp only
    split
    next hwaiting => rw [hwaiting]
    next b bs hwaiting => rw [hwaiting]; rfl
  · have hnoswap : swapAtEnd (accessLeft s) = accessLeft s := by
      unfold swapAtEnd
      split
      next hwaits => exact absurd hwaits hswap
      next => rfl
    have hdecode := decodeChange_free (s := accessLeft s) rfl
    have hgranted := grantedAtEnd_of_left (s := s) (v := decodeChange (accessLeft s)) (by rw [hdecode]; exact hreleased) hburst
      (by rw [hdecode]; rfl)
    have hframe := (grantAfter_grantIfFree (s := countWait (decodeChange (accessLeft s))) (by rw [hdecode]; exact hreleased) rfl).1
    rw [hnoswap]
    have hfields {α : Type} (f : State → α) (hf : ∀ v x r, f { v with arbiter := x, report := r } = f v) :
        f (grantIfFree (countWait (decodeChange (accessLeft s)))) = f (decodeChange (accessLeft s)) :=
      (congrArg f hframe).trans ((hf _ _ _).trans (hf _ { (decodeChange (accessLeft s)).arbiter with waitCount := _ } _))
    have hfollows : DecodeFollows s.bank (accessLeft s) (grantIfFree (countWait (decodeChange (accessLeft s)))) :=
      (decodeFollows_decodeChange (accessLeft s)).congr rfl rfl rfl rfl (hfields (·.decode) fun _ _ _ => rfl)
        (hfields (·.table) fun _ _ _ => rfl) (hfields (·.candidates) fun _ _ _ => rfl)
    refine ⟨?_, hfollows, ?_⟩
    · rw [hfields (·.decode) fun _ _ _ => rfl, hfields (·.table) fun _ _ _ => rfl, hfields (·.candidates) fun _ _ _ => rfl]
      rw [hdecode] at hframe ⊢
      exact hframe
    · rw [hdecode] at hgranted ⊢
      exact hgranted

end Sys2Proof.Machine
end

section
/-! The parts of a swap (09 R162): what each owner takes of the new bank, and the blocks it requests. -/

namespace Sys2Proof.Machine

/-! ## Requests -/

/-- State `t` has the Report Writer of `s` but for its queue, which the kinds of `P` have joined outside bypass (R171). -/
structure Joins (s t : State) (P : BlockKind → Prop) : Prop where
  straps : t.straps = s.straps
  report : t.report = { s.report with queue := t.report.queue }
  extends_ : s.report.queue <+: t.report.queue
  bypass : s.straps.bypass = true → t.report.queue = s.report.queue
  mem : s.straps.bypass = false → ∀ k, k ∈ t.report.queue ↔ k ∈ s.report.queue ∨ P k

/-- Nothing joins the same queue. -/
theorem Joins.of_report {s t : State} (hstraps : t.straps = s.straps) (hreport : t.report = s.report) :
    Joins s t fun _ => False :=
  ⟨hstraps, by rw [hreport], by rw [hreport], fun _ => by rw [hreport], fun _ k => by rw [hreport, or_false]⟩

/-- The kinds of one request and then of another join. -/
theorem Joins.trans {s t u : State} {P Q : BlockKind → Prop} (h : Joins s t P) (hu : Joins t u Q) :
    Joins s u fun k => P k ∨ Q k where
  straps := hu.straps.trans h.straps
  report := by rw [hu.report, h.report]
  extends_ := h.extends_.trans hu.extends_
  bypass hb := (hu.bypass (by rw [h.straps, hb])).trans (h.bypass hb)
  mem hb k := by rw [hu.mem (by rw [h.straps, hb]), h.mem hb, or_assoc]

/-- The kinds that join, told otherwise. -/
theorem Joins.congr {s t : State} {P Q : BlockKind → Prop} (h : Joins s t P) (hpq : ∀ k, P k ↔ Q k) : Joins s t Q :=
  ⟨h.straps, h.report, h.extends_, h.bypass, fun hb k => by rw [h.mem hb, hpq]⟩

/-- The kinds of a list are in the queue that they joined (R171). -/
theorem mem_joinAll {k : BlockKind} (ks : List BlockKind) : ∀ {q : List BlockKind}, k ∈ joinAll q ks ↔ k ∈ q ∨ k ∈ ks := by
  induction ks with
  | nil => exact fun {q} => by simp [joinAll]
  | cons j ks ih =>
    intro q
    have hstep : joinAll q (j :: ks) = joinAll (joinQueue q j) ks := rfl
    rw [hstep, ih, mem_joinQueue, List.mem_cons, or_assoc]

/-- The kinds of a request join (R171). -/
theorem joins_request (ks : List BlockKind) (s : State) : Joins s (request ks s) (· ∈ ks) := by
  cases hb : s.straps.bypass with
  | true =>
    rw [request_bypass hb]
    exact ⟨rfl, rfl, List.prefix_rfl, fun _ => rfl, fun h => absurd (hb.symm.trans h) (by decide)⟩
  | false =>
    rw [request_eq hb]
    exact ⟨rfl, rfl, (joinAll_grows ks _).1, fun h => absurd (hb.symm.trans h) (by decide), fun _ k => mem_joinAll ks⟩

/-! ## The banks -/

/-- The exchange of the banks (R158, R162). -/
theorem exchangeBanks_eq (s : State) :
    exchangeBanks s =
      { s with
        profiles := { s.profiles with active := s.profiles.active.other, swap := .none }
        report := { s.report with queue := if s.straps.bypass then s.report.queue else joinQueue s.report.queue .status } } := by
  let v := s.withProfiles { s.profiles with active := s.profiles.active.other, swap := .none }
  change request [.status] v = _
  cases hb : s.straps.bypass with
  | true => exact request_bypass (s := v) hb _
  | false => exact request_eq (s := v) hb _

/-- After the exchange the active bank is the one that was staged (R158). -/
theorem exchangeBanks_bank (s : State) : (exchangeBanks s).bank = s.staged := by
  rw [exchangeBanks_eq]
  unfold State.bank State.staged
  cases s.profiles.active <;> rfl

/-! ## The Delay Unit -/

/-- What a port of the Delay Unit takes of a swap from profile `old` to `b`, before its D(p) follows (R108, R109). -/
def PortDelay.cut (old b : Profile) (p : Port) (d : PortDelay) : PortDelay :=
  if old.ports[p].delayMode = .link ∧ b.ports[p].delayMode = .none then d.cleared
  else { d with ring := d.ring.drop (d.ring.length - b.windowLength) }

/-- One port at a swap (R108, R109). -/
theorem swapDelay_eq (old : Profile) (s : State) (p : Port) :
    swapDelay old s p = settleDelay p (s.delays[p].cut old s.bank p) s := by
  unfold swapDelay clearPort PortDelay.cut
  split <;> rfl

/-- A port at a swap, told by its items before and after (R105, R108, R109). -/
theorem swappedDelay_cut (old b : Profile) (p : Port) (d : PortDelay) :
    SwappedDelay old.ports[p] b.ports[p] b d ((d.cut old b p).settle b.defaultDelay) := by
  have hring (e : PortDelay) : (e.settle b.defaultDelay).valid = !(e.settle b.defaultDelay).ring.isEmpty ∧
      ((e.settle b.defaultDelay).ring = [] → (e.settle b.defaultDelay).delay = b.defaultDelay * 65536) ∧
      ((e.settle b.defaultDelay).ring ≠ [] → (e.settle b.defaultDelay).delay ∈ (e.settle b.defaultDelay).ring ∧
        ∀ z ∈ (e.settle b.defaultDelay).ring, (e.settle b.defaultDelay).delay ≤ z) := by
    refine ⟨rfl, fun hempty => ?_, fun hne => ringDelay_mem_le hne _⟩
    change ringDelay b.defaultDelay e.ring = _
    rw [show e.ring = [] from hempty]
    rfl
  unfold PortDelay.cut
  split
  next hoff => exact ⟨fun _ => ⟨rfl, rfl, rfl⟩, fun h => absurd hoff h, hring _⟩
  next hon => exact ⟨fun h => absurd h hon, fun _ => ⟨rfl, rfl, rfl⟩, hring _⟩

/-- A port settled: the blocks that join (R106). -/
theorem joins_settleDelay (p : Port) (d : PortDelay) (s : State) :
    Joins s (settleDelay p d s) fun k => k = .port p ∧ s.delays[p].ShowsOther (settleDelay p d s).delays[p] := by
  have hget : (settleDelay p d s).delays[p] = d.settle s.bank.defaultDelay := by
    rw [settleDelay_eq]
    exact Vector.getElem_set_self _
  rw [hget, settleDelay_eq]
  by_cases hother : s.delays[p].ShowsOther (d.settle s.bank.defaultDelay)
  · cases hb : s.straps.bypass with
    | true =>
      rw [if_neg fun h => absurd h.1 (by decide)]
      exact ⟨rfl, rfl, List.prefix_rfl, fun _ => rfl, fun h => absurd (hb.symm.trans h) (by decide)⟩
    | false =>
      rw [if_pos ⟨rfl, hother⟩]
      refine ⟨rfl, rfl, joinQueue_extends _ _, fun h => absurd (hb.symm.trans h) (by decide), fun _ k => ?_⟩
      rw [mem_joinQueue]
      exact or_congr_right ⟨fun h => ⟨h, hother⟩, fun h => h.1⟩
  · rw [if_neg fun h => hother h.2]
    exact Joins.congr (t := { s with delays := s.delays.set p (d.settle s.bank.defaultDelay) }) (Joins.of_report rfl rfl)
      fun k => ⟨False.elim, fun (h : k = .port p ∧ _) => hother h.2⟩

/-- Ports at a swap, one after the other (R108, R109). -/
theorem foldl_swapDelay (old : Profile) : ∀ (ps : List Port) (s : State), ps.Nodup →
    (∀ p : Port, (ps.foldl (swapDelay old) s).delays[p] =
      if p ∈ ps then (s.delays[p].cut old s.bank p).settle s.bank.defaultDelay else s.delays[p]) ∧
    Joins s (ps.foldl (swapDelay old) s) fun k =>
      ∃ p ∈ ps, k = .port p ∧ s.delays[p].ShowsOther (ps.foldl (swapDelay old) s).delays[p] := by
  intro ps
  induction ps with
  | nil =>
    exact fun s _ => ⟨fun p => (if_neg List.not_mem_nil).symm, (Joins.of_report rfl rfl).congr fun k => by simp⟩
  | cons p ps ih =>
    intro s hnodup
    obtain ⟨hp, hps⟩ := List.nodup_cons.1 hnodup
    have hbank : (swapDelay old s p).bank = s.bank := bank_eq_of_profiles (swapDelay_profiles old s p)
    have hself : (swapDelay old s p).delays[p] = (s.delays[p].cut old s.bank p).settle s.bank.defaultDelay := by
      rw [swapDelay_eq, settleDelay_eq]
      exact Vector.getElem_set_self _
    have hothers {q : Port} (hq : p ≠ q) : (swapDelay old s p).delays[q] = s.delays[q] := swapDelay_delays_ne old hq
    obtain ⟨hget, hjoins⟩ := ih (swapDelay old s p) hps
    rw [List.foldl_cons]
    have hgets : ∀ q : Port, (ps.foldl (swapDelay old) (swapDelay old s p)).delays[q] =
        if q ∈ p :: ps then (s.delays[q].cut old s.bank q).settle s.bank.defaultDelay else s.delays[q] := by
      intro q
      rw [hget q, hbank]
      by_cases hq : p = q
      · subst hq
        rw [if_neg hp, if_pos List.mem_cons_self, hself]
      · rw [hothers hq]
        simp only [List.mem_cons, Ne.symm hq, false_or]
    have hone : Joins s (swapDelay old s p) fun k =>
        k = .port p ∧ s.delays[p].ShowsOther (swapDelay old s p).delays[p] := by
      rw [swapDelay_eq]
      exact joins_settleDelay p _ s
    refine ⟨hgets, (hone.trans hjoins).congr fun k => ?_⟩
    have hlast : (ps.foldl (swapDelay old) (swapDelay old s p)).delays[p] = (swapDelay old s p).delays[p] := by
      rw [hget p, if_neg hp]
    constructor
    · rintro (⟨hk, hshows⟩ | ⟨q, hq, hk, hshows⟩)
      · exact ⟨p, List.mem_cons_self, hk, hlast.symm ▸ hshows⟩
      · have hpq : p ≠ q := fun h => hp (h ▸ hq)
        exact ⟨q, List.mem_cons_of_mem _ hq, hk, hothers hpq ▸ hshows⟩
    · rintro ⟨q, hq, hk, hshows⟩
      by_cases hpq : p = q
      · subst hpq
        exact .inl ⟨hk, hlast ▸ hshows⟩
      · have hq : q ∈ ps := (List.mem_cons.1 hq).resolve_left (Ne.symm hpq)
        exact .inr ⟨q, hq, hk, (hothers hpq).symm ▸ hshows⟩

/-- Every port of the Delay Unit at a swap (R105, R106, R108, R109). -/
theorem swapDelays_get (old : Profile) (s : State) (p : Port) :
    (swapDelays old s).delays[p] = (s.delays[p].cut old s.bank p).settle s.bank.defaultDelay :=
  ((foldl_swapDelay old allPorts s (by decide)).1 p).trans (if_pos (mem_allPorts p))

/-- The blocks that the Delay Unit requests at a swap (R106). -/
theorem joins_swapDelays (old : Profile) (s : State) :
    Joins s (swapDelays old s) fun k => ∃ p : Port, k = .port p ∧ s.delays[p].ShowsOther (swapDelays old s).delays[p] :=
  (foldl_swapDelay old allPorts s (by decide)).2.congr fun _ => ⟨fun ⟨p, _, h⟩ => ⟨p, h⟩, fun ⟨p, h⟩ => ⟨p, mem_allPorts p, h⟩⟩

/-! ## The rates -/

/-- A rate clamped at a swap (R44). -/
theorem clampRate_eq_swappedRate (s : State) (r : Int) : clampRate s.rateLimit r = swappedRate s.bank r :=
  clampRate_eq_max (rateLimit_nonneg s) r

/-- ρ_i given a rate (R44). -/
theorem giveRhoI_eq (r : Int) (s : State) : giveRhoI r s = s.withDisc { s.disc with rhoI := swappedRate s.bank r } := by
  unfold giveRhoI
  rw [clampRate_eq_swappedRate]

/-- ρ given a rate, of the record alone (R43, R44). -/
theorem giveRho_withTime (r : Int) (s : State) :
    giveRho r s = s.withTime { s.time.reanchor with rho := swappedRate s.bank r } := by
  unfold giveRho
  rw [clampRate_eq_swappedRate]
  rfl

/-- The record after the clamps of a swap: anchored anew if ρ changes, and otherwise as it was (R43, R44). -/
def clampedTime (b : Profile) (t : TimeBase) : TimeBase :=
  if swappedRate b t.rho = t.rho then t else { t.reanchor with rho := swappedRate b t.rho }

/-- The two clamps of a swap (R44). -/
theorem clampRates_eq (s : State) :
    clampRates s = (s.withTime (clampedTime s.bank s.time)).withDisc { s.disc with rhoI := swappedRate s.bank s.disc.rhoI } := by
  unfold clampRates clampedTime
  dsimp only
  rw [clampRate_eq_swappedRate]
  by_cases hsame : swappedRate s.bank s.time.rho = s.time.rho
  · rw [if_pos hsame, if_pos hsame, giveRhoI_eq]
    rfl
  · rw [if_neg hsame, if_neg hsame, giveRhoI_eq, giveRho_withTime]
    rfl

/-- ρ after the clamps of a swap (R44). -/
theorem clampedTime_rho (b : Profile) (t : TimeBase) : (clampedTime b t).rho = swappedRate b t.rho := by
  unfold clampedTime
  by_cases hsame : swappedRate b t.rho = t.rho
  · rw [if_pos hsame, hsame]
  · rw [if_neg hsame]

/-- The clamps of a swap keep a record anchored at this reading, the reading, and the seconds last seen (R43). -/
theorem clampedTime_record (b : Profile) (t : TimeBase) :
    (clampedTime b t).raw = t.raw ∧ (clampedTime b t).secondsSeen = t.secondsSeen ∧
      (t.anchorRaw = t.raw → t.anchorStation = t.now →
        (clampedTime b t).anchorRaw = t.raw ∧ (clampedTime b t).anchorStation = t.now) := by
  unfold clampedTime
  by_cases hsame : swappedRate b t.rho = t.rho
  · rw [if_pos hsame]
    exact ⟨rfl, rfl, fun hraw hstation => ⟨hraw, hstation⟩⟩
  · rw [if_neg hsame]
    exact ⟨rfl, rfl, fun _ _ => ⟨rfl, rfl⟩⟩

/-! ## The pulse outputs -/

/-- A gating condition that holds in FREE_RUN holds in every state (R147). -/
theorem holds_of_freeRun {g : Gating} (h : g.holds .freeRun = true) (d : DisciplineState) : g.holds d = true := by
  cases g with
  | always => rfl
  | validOnly => cases h
  | lockedOnly => cases h

/-- An output at a swap that leaves the discipline state, and one that ends in FREE_RUN, where the gating is tested once more
(R147, R149). -/
theorem swap_gate_eq (o : PulseOutput) (i j : PulseItems) (now : StationTime) {d d' : DisciplineState}
    (hd : d' = d ∨ d' = .freeRun) : (if d' = d then o.swap i j now d else (o.swap i j now d).gate j d') = swappedPulse i j now d' o := by
  have hone (e : DisciplineState) : o.swap i j now e = swappedPulse i j now e o := by
    unfold PulseOutput.swap swappedPulse PulseOutput.gate
    by_cases hperiod : j.period = 0
    · simp only [hperiod, if_true]
    · rw [if_neg hperiod, if_neg hperiod]
      have hdiffers : i.timingDiffers j = true ↔ ¬ (i.period = j.period ∧ i.offset = j.offset ∧ i.width = j.width) := by
        unfold PulseItems.timingDiffers
        simp only [Bool.or_eq_true, bne_iff_ne]
        tauto
      have hretime : o.retime j now =
          { o with
            schedule := some
              { settings := pulseSettings j
                next := (pulseSettings j).firstAfter
                  (match o.trailing with
                    | some x => if 0 ≤ x.sub now then x else now
                    | none => now) } } := by
        unfold PulseOutput.retime StationTime.reached
        rw [if_neg hperiod, settings_eq_pulseSettings]
        cases o.trailing with
        | none => rfl
        | some x => simp only [decide_eq_true_eq]
      by_cases hsame : i.period = j.period ∧ i.offset = j.offset ∧ i.width = j.width
      · have hkeeps : (if i.timingDiffers j = true then o.retime j now else o) = o := if_neg fun h => hdiffers.1 h hsame
        rw [hkeeps, if_pos hsame]
        split <;> rfl
      · have htakes : (if i.timingDiffers j = true then o.retime j now else o) = o.retime j now := if_pos (hdiffers.2 hsame)
        rw [htakes, if_neg hsame, hretime]
        split <;> rfl
  by_cases hsame : d' = d
  · rw [if_pos hsame, hone, hsame]
  · have hfree : d' = .freeRun := hd.resolve_left hsame
    subst hfree
    rw [if_neg hsame, hone]
    unfold swappedPulse PulseOutput.gate
    by_cases hperiod : j.period = 0
    · simp only [hperiod, if_true]
    · simp only [hperiod, if_false]
      by_cases hgate : j.gating.holds .freeRun = true
      · rw [if_pos hgate, if_pos (holds_of_freeRun hgate d), if_pos hgate]
      · rw [if_neg hgate, if_neg hgate]

/-! ## The Discipline Unit -/

/-- What the Discipline Unit becomes keeps its being told when fields that the state does not show are set after it. -/
theorem DisciplineBecomes.withDisc {d : Discipline} {s t : State} (h : DisciplineBecomes d s t) {d' : Discipline}
    (hd : d'.state = d.state) : DisciplineBecomes d' s (t.withDisc d') := by
  obtain ⟨hframe, hsame, hother⟩ := h
  refine ⟨(congrArg (fun u : State => u.withDisc d') hframe).trans rfl, fun hs => hsame (hd.symm.trans hs), fun hs => ?_⟩
  obtain ⟨hgated, hqueue⟩ := hother (hd ▸ hs)
  rw [hd]
  exact ⟨hgated, hqueue⟩

/-- The Discipline Unit at a swap from profile `old` to the active bank, its rates apart (R133). -/
theorem swapDiscipline_becomes (old : Profile) (s : State) :
    DisciplineBecomes { swappedDisc old.discipline s.bank s.time.raw s.disc with rhoI := s.disc.rhoI } s (swapDiscipline old s) := by
  let o := old.discipline
  let n := s.bank.discipline
  have hexpected {d : Discipline} {u : State} (hu : DisciplineBecomes d s u) :
      DisciplineBecomes
        { d with
          seen := if o.expected ≠ n.expected then [] else d.seen
          latched := if o.expected = n.expected then d.latched else expectedLatch n.expected } s
        (if o.expected = n.expected then u else disciplineExpected u) := by
    by_cases hsame : o.expected = n.expected
    · simp only [hsame, if_true, ne_eq, not_true_eq_false, if_false]
      exact hu
    · simp only [hsame, if_false, ne_eq, not_false_eq_true, if_true]
      have hdisc : u.disc = d := (congrArg (·.disc) hu.1).trans rfl
      have hbank : u.bank = s.bank := bank_eq_of_profiles ((congrArg (·.profiles) hu.1).trans rfl)
      unfold disciplineExpected
      rw [hdisc, hbank]
      exact hu.withDisc rfl
  have hbecomes {d : Discipline} {u : State} (hu : DisciplineBecomes d s u)
      (hswap : swapDiscipline old s = if o.expected = n.expected then u else disciplineExpected u)
      (hd : { swappedDisc o s.bank s.time.raw s.disc with rhoI := s.disc.rhoI } =
        { d with
          seen := if o.expected ≠ n.expected then [] else d.seen
          latched := if o.expected = n.expected then d.latched else expectedLatch n.expected }) :
      DisciplineBecomes { swappedDisc o s.bank s.time.raw s.disc with rhoI := s.disc.rhoI } s (swapDiscipline old s) := by
    rw [hswap, hd]
    exact hexpected hu
  have hsource : n.mode.source = if n.mode = .input then .input else .network := by
    cases n.mode <;> rfl
  cases ho : o.enable <;> cases hn : n.enable
  all_goals
    have ho : old.discipline.enable = _ := ho
    have hn : s.bank.discipline.enable = _ := hn
  case true.false =>
    refine hbecomes (disciplineBecomes_setDiscState s (d := { s.disc with
      source := .none, missing := none, holdover := none, seen := [], lockCount := 0, rejectCount := 0 }) rfl .freeRun) ?_ ?_
    · simp only [swapDiscipline, ho, hn, Bool.not_false, Bool.and_self, if_true]
      rfl
    · simp [swappedDisc, ho, hn, o, n, expectedLatch]
  case false.true =>
    refine hbecomes (disciplineBecomes_setDiscState s (d := { s.disc with
      source := n.mode.source, lockCount := 0, rejectCount := 0, missing := some s.time.raw }) rfl .freeRun) ?_ ?_
    · simp only [swapDiscipline, ho, hn, Bool.not_false, Bool.not_true, Bool.and_self, Bool.false_eq_true, if_true, if_false]
      rfl
    · rw [hsource]
      simp [swappedDisc, ho, hn, o, n, expectedLatch]
  case false.false =>
    refine hbecomes (d := s.disc) (u := s) ⟨rfl, fun _ => ⟨rfl, rfl⟩, fun h => absurd rfl h⟩ ?_ ?_
    · simp only [swapDiscipline, ho, hn, Bool.not_false, Bool.and_false, Bool.false_and, Bool.false_eq_true, if_false]
      rfl
    · simp [swappedDisc, ho, hn, o, n, expectedLatch]
  case true.true =>
    have hstays : DisciplineBecomes s.disc s s := ⟨rfl, fun _ => ⟨rfl, rfl⟩, fun h => absurd rfl h⟩
    have hswap {v : State} (hv : (if o.mode != n.mode then disciplineMode s else s) = v) :
        swapDiscipline old s = if o.expected = n.expected then v else disciplineExpected v := by
      subst hv
      simp only [swapDiscipline, ho, hn, Bool.not_true, Bool.and_false, Bool.false_eq_true, if_false, Bool.true_and]
      rfl
    by_cases hmode : o.mode = n.mode
    · refine hbecomes hstays (hswap (if_neg (by simpa using hmode))) ?_
      have hmode : old.discipline.mode = s.bank.discipline.mode := hmode
      simp [swappedDisc, ho, hn, o, n, expectedLatch, hmode]
    · have hchanges : (if o.mode != n.mode then disciplineMode s else s) = disciplineMode s := if_pos (by simpa using hmode)
      have hmode : old.discipline.mode ≠ s.bank.discipline.mode := hmode
      by_cases hsame : s.disc.source = n.mode.source
      · refine hbecomes hstays (hswap (hchanges.trans (if_pos hsame))) ?_
        rw [hsource] at hsame
        simp [swappedDisc, ho, hn, o, n, expectedLatch, hmode, ← hsame]
      · refine hbecomes (hstays.withDisc (d' := { s.disc with source := n.mode.source, missing := some s.time.raw }) rfl)
          (hswap (hchanges.trans (if_neg hsame))) ?_
        rw [hsource] at hsame ⊢
        simp [swappedDisc, ho, hn, o, n, expectedLatch, hmode, hsame]

end Sys2Proof.Machine
end

section
/-! The swap (09 R162): every owner's part in it, together. -/

namespace Sys2Proof.Machine

/-- State `t` is `s` after a swap: banks, decode, owners, requests, and nothing else (R158, R162). -/
structure SwapDone (s t : State) : Prop where
  profiles : t.profiles = { s.profiles with active := s.profiles.active.other, swap := .none }
  bank : t.bank = s.staged
  follows : DecodeFollows s.staged s t
  owners : OwnersSwap s t s.now s.disc t.disc s.pulses t.pulses
  joins : Joins s t (SwapRequests s t)
  frame : t = { s with
    decode := t.decode, table := t.table, candidates := t.candidates, delays := t.delays, time := t.time, disc := t.disc
    pulses := t.pulses, profiles := t.profiles, report := t.report }
  time : t.time = clampedTime s.staged s.time

/-- The state of a swap after the exchange of the banks and the decode change. -/
def swapDecoded (s : State) : State := decodeChange (exchangeBanks s)

/-- The state of a swap before the Discipline Unit takes its items. -/
def swapPulsed (s : State) : State := swapPulses s.bank (clampRates (swapDelays s.bank (swapDecoded s)))

/-- The swap ends with the Discipline Unit (R162). -/
theorem performSwap_eq (s : State) : performSwap s = swapDiscipline s.bank (swapPulsed s) := rfl

/-- The fields that the exchange and the decode change leave, and the bank then. -/
theorem swapDecoded_fields (s : State) : (swapDecoded s).bank = s.staged ∧ (swapDecoded s).delays = s.delays ∧
    (swapDecoded s).time = s.time ∧ (swapDecoded s).disc = s.disc ∧ (swapDecoded s).pulses = s.pulses := by
  unfold swapDecoded
  refine ⟨?_, by simp, by simp, by simp, by simp⟩
  rw [bank_eq_of_profiles (decodeChange_profiles _), exchangeBanks_bank]

/-- The Delay Unit, the rates and the outputs before the Discipline Unit takes its items (R44, R108, R149). -/
theorem swapPulsed_fields (s : State) : (swapPulsed s).bank = s.staged ∧
    (swapPulsed s).delays = (swapDelays s.bank (swapDecoded s)).delays ∧
    (swapPulsed s).time = clampedTime s.staged s.time ∧
    (swapPulsed s).disc = { s.disc with rhoI := swappedRate s.staged s.disc.rhoI } ∧
    ∀ n : Fin 4, (swapPulsed s).pulses[n] = s.pulses[n].swap s.bank.outputs[n] s.staged.outputs[n] s.now s.disc.state := by
  obtain ⟨hbank, -, htime, hdisc, hpulses⟩ := swapDecoded_fields s
  have hbank3 : (swapDelays s.bank (swapDecoded s)).bank = s.staged :=
    (bank_eq_of_profiles (swapDelays_profiles _ _)).trans hbank
  have hbank4 : (clampRates (swapDelays s.bank (swapDecoded s))).bank = s.staged :=
    (bank_eq_of_profiles (clampRates_profiles _)).trans hbank3
  have hdisc4 : (clampRates (swapDelays s.bank (swapDecoded s))).disc =
      { s.disc with rhoI := swappedRate s.staged s.disc.rhoI } := by
    rw [clampRates_eq, State.withDisc_disc, hbank3, swapDelays_disc, hdisc]
  refine ⟨(bank_eq_of_profiles (swapPulses_profiles _ _)).trans hbank4, ?_, ?_, ?_, fun n => ?_⟩
  · exact (swapPulses_delays _ _).trans (clampRates_delays _)
  · refine (swapPulses_time _ _).trans ?_
    rw [clampRates_eq, State.withDisc_time, State.withTime_time, hbank3, swapDelays_time, htime]
  · exact (swapPulses_disc _ _).trans hdisc4
  · have hget := tab4_get (fun n => (clampRates (swapDelays s.bank (swapDecoded s))).pulses[n].swap s.bank.outputs[n]
      (clampRates (swapDelays s.bank (swapDecoded s))).bank.outputs[n] (clampRates (swapDelays s.bank (swapDecoded s))).now
      (clampRates (swapDelays s.bank (swapDecoded s))).disc.state) n
    refine hget.trans ?_
    have hnow : (clampRates (swapDelays s.bank (swapDecoded s))).now = s.now := by
      rw [clampRates_now, now_of_time (swapDelays_time _ _), now_of_time htime]
    rw [hbank4, hnow, hdisc4, clampRates_pulses, swapDelays_pulses, hpulses]

/-- The blocks requested before the Discipline Unit takes its items (R106, R173). -/
theorem joins_swapPulsed (s : State) :
    Joins s (swapPulsed s) fun k => k = .status ∨ ∃ p : Port, k = .port p ∧ s.delays[p].ShowsOther (swapPulsed s).delays[p] := by
  have hexchange : Joins s (exchangeBanks s) (· ∈ [.status]) :=
    (Joins.trans (s := s) (t := s.withProfiles { s.profiles with active := s.profiles.active.other, swap := .none })
      (u := exchangeBanks s) (.of_report rfl rfl) (joins_request [.status] _)).congr fun k => by rw [false_or]
  have hdecoded : Joins (exchangeBanks s) (swapDecoded s) fun _ => False :=
    .of_report (straps_of_outside (decodeChange_outside _)) (decodeChange_report _)
  have hpulsed : Joins (swapDelays s.bank (swapDecoded s)) (swapPulsed s) fun _ => False :=
    .of_report (straps_of_outside (by simp [swapPulsed])) ((swapPulses_report _ _).trans (clampRates_report _))
  refine (((hexchange.trans hdecoded).trans (joins_swapDelays s.bank (swapDecoded s))).trans hpulsed).congr fun k => ?_
  rw [(swapDecoded_fields s).2.1, (swapPulsed_fields s).2.1]
  simp only [List.mem_singleton, or_false]

/-- What a state becomes that leaves everything outside the blocks, the captures and the Command Monitor. -/
theorem eq_of_outside {s t : State} (houtside : t.outside = s.outside) (hcaptures : t.captures = s.captures)
    (hmonitor : t.monitor = s.monitor) :
    t = { s with
      decode := t.decode, table := t.table, candidates := t.candidates, delays := t.delays, time := t.time, disc := t.disc
      pulses := t.pulses, profiles := t.profiles, report := t.report } := by
  simp only [State.outside, Prod.mk.injEq] at houtside
  obtain ⟨hheld, hstraps, hmemory, hports, harbiter, hlimits, hfree, hpending⟩ := houtside
  rw [← hheld, ← hstraps, ← hmemory, ← hports, ← harbiter, ← hlimits, ← hfree, ← hpending, ← hcaptures, ← hmonitor]

/-- What the Discipline Unit becomes is what it then is. -/
theorem DisciplineBecomes.disc_eq {d : Discipline} {s t : State} (h : DisciplineBecomes d s t) : t.disc = d :=
  (congrArg (·.disc) h.1).trans rfl

/-- The blocks that the Discipline Unit requests where it becomes another state (R173). -/
theorem DisciplineBecomes.joins {d : Discipline} {s t : State} (h : DisciplineBecomes d s t) :
    Joins s t fun k => d.state ≠ s.disc.state ∧ (k = .status ∨ k = .discipline) := by
  obtain ⟨hframe, hsame, hother⟩ := h
  have hstraps : t.straps = s.straps := (congrArg (·.straps) hframe).trans rfl
  have hreport : t.report = { s.report with queue := t.report.queue } := (congrArg (·.report) hframe).trans rfl
  by_cases hs : d.state = s.disc.state
  · have hqueue := (hsame hs).2
    refine (Joins.of_report hstraps (by rw [hreport, hqueue])).congr fun k => ⟨False.elim, fun hk => hk.1 hs⟩
  · have hqueue := (hother hs).2
    refine ⟨hstraps, hreport, ?_, fun hb => by rw [hqueue, if_pos hb], fun hb k => ?_⟩
    · rw [hqueue]
      split
      · exact List.prefix_rfl
      · exact (joinQueue_extends _ _).trans (joinQueue_extends _ _)
    · rw [hqueue, if_neg (by rw [hb]; decide), mem_joinQueue, mem_joinQueue, or_assoc]
      exact or_congr_right ⟨fun hk => ⟨hs, hk⟩, fun hk => hk.2⟩

/-- All that a swap does (R162). -/
theorem performSwap_done (s : State) : SwapDone s (performSwap s) := by
  obtain ⟨hdecodedBank, hdecodedDelays, -, -, -⟩ := swapDecoded_fields s
  obtain ⟨hbank, hdelays, htime, hdisc, hpulses⟩ := swapPulsed_fields s
  have hbecomes := swapDiscipline_becomes s.bank (swapPulsed s)
  rw [← performSwap_eq] at hbecomes
  have hbecome := hbecomes.disc_eq
  rw [← hbecome] at hbecomes
  obtain ⟨hframe, hsame, hother⟩ := hbecomes
  have hdiscEq : (performSwap s).disc = swappedDisc s.bank.discipline s.staged s.time.raw s.disc := by
    rw [hbecome, hbank, htime, hdisc, (clampedTime_record _ _).1]
    rfl
  have hraw : (swapPulsed s).time.raw = s.time.raw := by rw [htime, (clampedTime_record _ _).1]
  have hstate : (performSwap s).disc.state = s.disc.state ∨ (performSwap s).disc.state = .freeRun := by
    rw [hdiscEq]
    unfold swappedDisc
    dsimp only
    split
    · exact .inr rfl
    · exact .inl rfl
  have hexchanged : (performSwap s).profiles = { s.profiles with active := s.profiles.active.other, swap := .none } := by
    simp [performSwap]
  have hpulsedState : (swapPulsed s).disc.state = s.disc.state := by rw [hdisc]
  have hdelaysEq : (performSwap s).delays = (swapDelays s.bank (swapDecoded s)).delays :=
    (swapDiscipline_delays _ _).trans hdelays
  refine ⟨hexchanged, ?_, ?_, ⟨fun p => ?_, ?_, hdiscEq, fun n => ?_⟩, ?_, ?_, ?_⟩
  · exact (bank_eq_of_profiles (swapDiscipline_profiles _ _)).trans hbank
  · have hfollows := decodeFollows_decodeChange (exchangeBanks s)
    rw [exchangeBanks_bank] at hfollows
    refine hfollows.congr (congrArg (fun x => x.2.2.2.2.1.current) (exchangeBanks_outside s).symm) (exchangeBanks_decode s).symm
      (exchangeBanks_table s).symm (exchangeBanks_candidates s).symm ?_ ?_ ?_
    · simp [performSwap]
    · simp [performSwap]
    · simp [performSwap]
  · rw [hdelaysEq, swapDelays_get, hdecodedBank, hdecodedDelays]
    exact swappedDelay_cut _ _ _ _
  · rw [performSwap_eq, swapDiscipline_time, htime, clampedTime_rho]
  · rw [← swap_gate_eq _ _ _ _ hstate]
    by_cases hs : (performSwap s).disc.state = s.disc.state
    · have hkept := (hsame (hs.trans hpulsedState.symm)).1
      rw [if_pos hs, hkept, hpulses]
    · have hgated := (hother fun h => hs (h.trans hpulsedState)).1 n
      rw [if_neg hs, hgated, hpulses, hbank]
      rfl
  · refine ((joins_swapPulsed s).trans (DisciplineBecomes.joins ⟨hframe, hsame, hother⟩)).congr fun k => ?_
    rw [hpulsedState, hdelays, ← hdelaysEq]
    unfold SwapRequests
    constructor
    · rintro ((hk | ⟨p, hk, hshows⟩) | ⟨hs, hk | hk⟩)
      · exact .inl hk
      · exact .inr (.inr ⟨p, hk, hshows.imp Ne.symm Ne.symm⟩)
      · exact .inl hk
      · exact .inr (.inl ⟨hk, hs⟩)
    · rintro (hk | ⟨hk, hs⟩ | ⟨p, hk, hshows⟩)
      · exact .inl (.inl hk)
      · exact .inr ⟨hs, .inr hk⟩
      · exact .inl (.inr ⟨p, hk, hshows.imp Ne.symm Ne.symm⟩)
  · exact eq_of_outside (performSwap_outside s) (performSwap_captures s) (performSwap_monitor s)
  · rw [performSwap_eq, swapDiscipline_time, htime]

end Sys2Proof.Machine
end

section
/-! A waiting swap at the end of its access (09 R158, 01 R17). -/

namespace Sys2Proof.Machine

/-- A grant moves the arbiter and the Report Writer alone (R12 to R15). -/
theorem grantIfFree_frame (s : State) :
    grantIfFree s = { s with arbiter := (grantIfFree s).arbiter, report := (grantIfFree s).report } := by
  rcases Bool.eq_false_or_eq_true s.resetHeld with hr | hr
  · cases hport : portFree s with
    | false => rw [grantIfFree_busy hport]
    | true =>
      rw [grantIfFree_held hport hr]
      unfold grantHeld
      split <;> rfl
  · exact (grantAfter_grantIfFree (s := s) (v := s) hr rfl).1

/-- A decode that follows the active bank already has nothing to change (R17). -/
theorem decodeChange_followed {s : State} (hdecode : s.decode = { pool := s.bank.pool, exclusion := s.bank.exclusion }) :
    decodeChange s = s := by
  cases hprogress : accessInProgress s with
  | true => exact decodeChange_busy hprogress
  | false =>
    have hsame (n : Fin 4) : windowChanges n s = false := by
      unfold windowChanges
      rw [hdecode]
      exact bne_self_eq_false _
    have hkeeps (c : Option Candidate) : (c.filter fun c => !windowChanges c.key.window s) = c := by
      cases c <;> simp [Option.filter, hsame]
    have hcandidates : (tab7 fun n => s.candidates[n].filter fun c => !windowChanges c.key.window s) = s.candidates := by
      simp only [hkeeps]
      exact Vector.ext fun n hn => by
        have : n = 0 ∨ n = 1 ∨ n = 2 ∨ n = 3 ∨ n = 4 ∨ n = 5 ∨ n = 6 := by omega
        rcases this with rfl | rfl | rfl | rfl | rfl | rfl | rfl <;> rfl
    have hnone : (s.table.entries.filter fun e => windowChanges e.key.window s) = [] := by simp [hsame]
    rw [decodeChange_free hprogress, hcandidates, ← hdecode, hnone]
    rfl

/-- What a swap did is told of a later state in which the fields it tells of stand (R162). -/
theorem OwnersSwap.congr {s s' t t' : State} {now : StationTime} {d d' : Discipline} {o o' : Vector PulseOutput 4}
    (h : OwnersSwap s t now d d' o o') (hprofiles : s'.profiles = s.profiles) (hdelays : s'.delays = s.delays)
    (hsrho : s'.time.rho = s.time.rho) (hsraw : s'.time.raw = s.time.raw) (hdelays' : t'.delays = t.delays) (hrho : t'.time.rho = t.time.rho) :
    OwnersSwap s' t' now d d' o o' := by
  have hbank : s'.bank = s.bank := bank_eq_of_profiles hprofiles
  have hstaged : s'.staged = s.staged := by
    unfold State.staged
    rw [hprofiles]
  unfold OwnersSwap
  rw [hbank, hstaged, hdelays, hsrho, hsraw, hdelays', hrho]
  exact h

/-- The blocks of a swap, told of a later state in which the fields they follow from stand (R173). -/
theorem swapRequests_congr {s s' t t' : State} (hstate : s'.disc.state = s.disc.state) (hdelays : s'.delays = s.delays)
    (hstate' : t'.disc.state = t.disc.state) (hdelays' : t'.delays = t.delays) (k : BlockKind) :
    SwapRequests s' t' k ↔ SwapRequests s t k := by
  unfold SwapRequests
  rw [hstate, hdelays, hstate', hdelays']

/-- The clamps of a swap leave station time now (R43). -/
theorem clampedTime_now (b : Profile) (t : TimeBase) : (clampedTime b t).now = t.now := by
  unfold clampedTime
  split
  · rfl
  · exact TimeBase.changeRho_now t _

/-- What joined outside bypass, told of both. -/
theorem Joins.mem_iff {s t : State} {P : BlockKind → Prop} (h : Joins s t P) (k : BlockKind) :
    k ∈ t.report.queue ↔ k ∈ s.report.queue ∨ (s.straps.bypass = false ∧ P k) := by
  cases hb : s.straps.bypass with
  | true => rw [h.bypass hb]; simp
  | false => rw [h.mem hb k]; simp

/-- What a state becomes that leaves everything outside the blocks but the arbiter, the captures and the Command Monitor. -/
theorem eq_of_outside_withArbiter {s t : State} (houtside : (t.withArbiter s.arbiter).outside = s.outside)
    (hcaptures : t.captures = s.captures) (hmonitor : t.monitor = s.monitor) :
    t = { s with
      decode := t.decode, table := t.table, candidates := t.candidates, delays := t.delays, time := t.time, disc := t.disc
      pulses := t.pulses, profiles := t.profiles, report := t.report, arbiter := t.arbiter } :=
  congrArg (fun u => u.withArbiter t.arbiter) (eq_of_outside (t := t.withArbiter s.arbiter) houtside hcaptures hmonitor)

/-- The acts of a swap at an access end and the grant leave what stands outside the blocks, the arbiter apart. -/
theorem withArbiter_outside_congr {s u v : State} (h : v.outside = u.outside) :
    (v.withArbiter s.arbiter).outside = (u.withArbiter s.arbiter).outside :=
  congrArg (fun x => (x.1, x.2.1, x.2.2.1, x.2.2.2.1, s.arbiter, x.2.2.2.2.2)) h

/-- Settles O10: the swap takes place as the access is left, the decode follows at once, and the port is granted. -/
theorem waitingSwapAtAccessEnd : Obligations.WaitingSwapAtAccessEnd := by
  intro s a hcurrent hpassed hswap
  let w := accessLeft s
  have hwaits : swapAtEnd w = performSwap w := by
    unfold swapAtEnd
    rw [show w.profiles.swap = .waiting from hswap]
  have hdone := performSwap_done w
  have houtside := performSwap_outside w
  have hcaptures := performSwap_captures w
  have hmonitor := performSwap_monitor w
  generalize performSwap w = v at hwaits hdone houtside hcaptures hmonitor
  obtain ⟨hprofiles, hbank, hfollows, howners, hjoins, hframe, htime⟩ := hdone
  have hdecode : decodeChange v = v := by
    refine decodeChange_followed ?_
    rw [hbank]
    exact (hfollows.2 nofun).1
  have hexec : exec .fabricAccessEnd s = .next (grantIfFree (countWait v)) := by
    rw [exec_fabricAccessEnd hcurrent hpassed, hwaits, hdecode]
  have hgrant := grantIfFree_frame (countWait v)
  have hgranted (hreleased : v.resetHeld = false) (hburst : s.arbiter.burst = none) :=
    grantedAtEnd_of_left hreleased hburst ((congrArg (·.arbiter) hframe).trans rfl)
  generalize grantIfFree (countWait v) = t at hexec hgrant hgranted
  have hfields {α : Type} (f : State → α) (hf : ∀ u x r, f { u with arbiter := x, report := r } = f u) : f t = f v :=
    (congrArg f hgrant).trans ((hf (countWait v) _ _).trans (hf v _ _))
  have hdelays' := hfields (·.delays) fun _ _ _ => rfl
  have htime' := hfields (·.time) fun _ _ _ => rfl
  have hdisc' := hfields (·.disc) fun _ _ _ => rfl
  have hpulses' := hfields (·.pulses) fun _ _ _ => rfl
  have hprofiles' := hfields (·.profiles) fun _ _ _ => rfl
  have htable' := hfields (·.table) fun _ _ _ => rfl
  have hdecode' := hfields (·.decode) fun _ _ _ => rfl
  have hcandidates' := hfields (·.candidates) fun _ _ _ => rfl
  obtain ⟨hraw, hseconds, -⟩ := clampedTime_record w.staged w.time
  refine ⟨t, hexec, hprofiles'.trans hprofiles, (bank_eq_of_profiles hprofiles').trans hbank,
    hfollows.congr rfl rfl rfl rfl hdecode' htable' hcandidates', ?_, ?_, ?_, ?_, ?_, fun hburst hreleased => ?_⟩
  · rw [hdisc', hpulses']
    exact howners.congr rfl rfl rfl rfl hdelays' (congrArg (·.rho) htime')
  · have houtside : (t.withArbiter s.arbiter).outside = s.outside :=
      (hfields (fun u => (u.withArbiter s.arbiter).outside) fun _ _ _ => rfl).trans
        ((withArbiter_outside_congr (s := s) (u := w) houtside).trans rfl)
    exact eq_of_outside_withArbiter houtside ((hfields (·.captures) fun _ _ _ => rfl).trans hcaptures)
      ((hfields (·.monitor) fun _ _ _ => rfl).trans hmonitor)
  · rw [htime', htime]
    exact hraw
  · exact (congrArg TimeBase.now (htime'.trans htime)).trans (clampedTime_now w.staged w.time)
  · rw [htime', htime]
    exact hseconds
  · refine ⟨v.report, hjoins.report, fun k => ?_, ?_⟩
    · have hrequests := swapRequests_congr (s := w) (t := v) (s' := s) (t' := t) rfl rfl (congrArg (·.state) hdisc') hdelays' k
      rw [hrequests]
      exact hjoins.mem_iff k
    · have hreset : v.resetHeld = false := ((congrArg (·.resetHeld) hframe).trans rfl).trans hreleased
      have hport := hgranted hreset hburst
      rwa [hjoins.straps] at hport

end Sys2Proof.Machine
end

section
/-! The station second rollover and its pending swap (03 R45; 09 R159). -/

namespace Sys2Proof.Machine

/-! ## The status word of the slot that gave the swap -/

/-- The slot of a swap that ends shows how, if it still shows PENDING (R159; log 15). -/
theorem rewriteSwapStatus_status (slot : Fin 16) (r : CommandResult) (s : State) :
    (rewriteSwapStatus slot r s).monitor = { s.monitor with
      status := if s.monitor.status[slot].result = .pending then
        s.monitor.status.set slot { s.monitor.status[slot] with result := r } else s.monitor.status } := by
  have hholds : slotHoldsSwap slot s = true ↔ s.monitor.status[slot].result = .pending := beq_iff_eq
  unfold rewriteSwapStatus
  simp only [hholds]
  by_cases hpending : s.monitor.status[slot].result = .pending
  · rw [if_pos hpending, if_pos hpending, request_monitor]
    rfl
  · rw [if_neg hpending, if_neg hpending]

/-- The Commands block is requested where the slot's status word is rewritten (R173). -/
theorem joins_rewriteSwapStatus (slot : Fin 16) (r : CommandResult) (s : State) :
    Joins s (rewriteSwapStatus slot r s) fun k => k = .commands ∧ s.monitor.status[slot].result = .pending := by
  have hholds : slotHoldsSwap slot s = true ↔ s.monitor.status[slot].result = .pending := beq_iff_eq
  unfold rewriteSwapStatus
  by_cases hpending : s.monitor.status[slot].result = .pending
  · rw [if_pos (hholds.2 hpending)]
    refine (Joins.trans (s := s) (t := setStatus slot { s.monitor.status[slot] with result := r } s) (.of_report rfl rfl)
      (joins_request [.commands] _)).congr fun k => ?_
    rw [false_or, List.mem_singleton]
    exact ⟨fun hk => ⟨hk, hpending⟩, fun hk => hk.1⟩
  · rw [if_neg fun h => hpending (hholds.1 h)]
    exact (Joins.of_report rfl rfl).congr fun k => ⟨False.elim, fun hk => hpending hk.2⟩

/-! ## The rollover -/

/-- State `t` is `s` after a rollover that took the pending swap of `slot`, record apart (R45, R159). -/
structure PendingTaken (slot : Fin 16) (s t : State) : Prop where
  taken : PendingSwapTaken slot s t
  follows : DecodeFollows s.staged s t
  owners : OwnersSwap s t s.now s.disc t.disc s.pulses t.pulses
  joins : Joins s t fun k => k ∈ rolloverBlocks ∨ SwapRequests s t k ∨ (k = .commands ∧ s.monitor.status[slot].result = .pending)
  outside : t.outside = s.outside
  captures : t.captures = s.captures

/-- The state of a rollover before its pending swap: the record anchored anew and the blocks requested (R45, R173). -/
def rolledOver (s : State) : State := request rolloverBlocks (s.withTime { s.time.reanchor with secondsSeen := s.now.sec })

/-- What a rollover leaves before its pending swap. -/
theorem rolledOver_eq (s : State) :
    rolledOver s = { s with
      time := { s.time with anchorRaw := s.time.raw, anchorStation := s.now, secondsSeen := s.now.sec }
      report := { s.report with
        queue := if s.straps.bypass then s.report.queue else joinAll s.report.queue rolloverBlocks } } := by
  let v := s.withTime { s.time.reanchor with secondsSeen := s.now.sec }
  change request rolloverBlocks v = _
  cases hb : s.straps.bypass with
  | true => exact request_bypass (s := v) hb _
  | false => exact request_eq (s := v) hb _

/-- A rollover's blocks join (R173). -/
theorem joins_rolledOver (s : State) : Joins s (rolledOver s) (· ∈ rolloverBlocks) :=
  (Joins.trans (s := s) (t := s.withTime { s.time.reanchor with secondsSeen := s.now.sec }) (u := rolledOver s)
    (.of_report rfl rfl) (joins_request rolloverBlocks _)).congr fun k => by rw [false_or]

/-- A rollover without a pending swap (R45). -/
theorem giveRollover_noPending {s : State} (h : NoPendingSwap s) : giveRollover s = rolledOver s := by
  have hswap : (rolledOver s).profiles.swap = s.profiles.swap := by rw [rolledOver_eq]
  change swapAtRollover (rolledOver s) = _
  unfold swapAtRollover
  split
  next slot hpending => exact absurd (hswap.symm.trans hpending) (h slot)
  next => rfl

/-- A rollover with a pending swap (R159). -/
theorem giveRollover_pending {s : State} {slot : Fin 16} (h : s.profiles.swap = .pending slot) :
    giveRollover s = rewriteSwapStatus slot .done (performSwap (rolledOver s)) := by
  have hswap : (rolledOver s).profiles.swap = .pending slot := by rw [rolledOver_eq, h]
  change swapAtRollover (rolledOver s) = _
  unfold swapAtRollover
  rw [hswap]

/-- The record after a rollover: anchored at this reading, with station time now and the seconds seen (R45). -/
theorem giveRollover_time (s : State) : (giveRollover s).now = s.now ∧ (giveRollover s).time.raw = s.time.raw ∧
    (giveRollover s).time.anchorRaw = s.time.raw ∧ (giveRollover s).time.anchorStation = s.now ∧
    (giveRollover s).time.secondsSeen = s.now.sec := by
  have hnow : (rolledOver s).now = s.now := by
    rw [rolledOver_eq]
    exact TimeBase.now_of_anchored rfl
  have hrolled : (rolledOver s).time.raw = s.time.raw ∧ (rolledOver s).time.anchorRaw = s.time.raw ∧
      (rolledOver s).time.anchorStation = s.now ∧ (rolledOver s).time.secondsSeen = s.now.sec := by
    rw [rolledOver_eq]
    exact ⟨rfl, rfl, rfl, rfl⟩
  obtain ⟨hraw, hanchor, hstation, hseconds⟩ := hrolled
  by_cases hnone : NoPendingSwap s
  · rw [giveRollover_noPending hnone]
    exact ⟨hnow, hraw, hanchor, hstation, hseconds⟩
  · obtain ⟨slot, hslot⟩ := not_forall_not.1 hnone
    have htime : (giveRollover s).time = clampedTime (rolledOver s).staged (rolledOver s).time := by
      rw [giveRollover_pending hslot, rewriteSwapStatus_time, (performSwap_done _).time]
    obtain ⟨hraw', hseconds', hrecord⟩ := clampedTime_record (rolledOver s).staged (rolledOver s).time
    obtain ⟨hanchor', hstation'⟩ := hrecord (hanchor.trans hraw.symm) (hstation.trans hnow.symm)
    refine ⟨?_, ?_, ?_, ?_, ?_⟩
    · exact (congrArg TimeBase.now htime).trans ((clampedTime_now _ _).trans hnow)
    · rw [htime, hraw', hraw]
    · rw [htime, hanchor', hraw]
    · rw [htime, hstation']
      exact hnow
    · rw [htime, hseconds', hseconds]

/-- All that a rollover with a pending swap does, record apart (R159, R162). -/
theorem giveRollover_pendingTaken {s : State} {slot : Fin 16} (h : s.profiles.swap = .pending slot) :
    PendingTaken slot s (giveRollover s) := by
  obtain ⟨hprofiles, hdelays, hrho, hraw, hdisc, hpulses, hmonitor⟩ : (rolledOver s).profiles = s.profiles ∧
      (rolledOver s).delays = s.delays ∧ (rolledOver s).time.rho = s.time.rho ∧ (rolledOver s).time.raw = s.time.raw ∧
      (rolledOver s).disc = s.disc ∧ (rolledOver s).pulses = s.pulses ∧ (rolledOver s).monitor = s.monitor := by
    rw [rolledOver_eq]
    exact ⟨rfl, rfl, rfl, rfl, rfl, rfl, rfl⟩
  obtain ⟨hcurrent, hdecode, htable, hcandidates, houtside, hcaptures⟩ : (rolledOver s).arbiter.current = s.arbiter.current ∧
      (rolledOver s).decode = s.decode ∧ (rolledOver s).table = s.table ∧ (rolledOver s).candidates = s.candidates ∧
      (rolledOver s).outside = s.outside ∧ (rolledOver s).captures = s.captures := by
    rw [rolledOver_eq]
    exact ⟨rfl, rfl, rfl, rfl, rfl, rfl⟩
  have hnow : (rolledOver s).now = s.now := by
    rw [rolledOver_eq]
    exact TimeBase.now_of_anchored rfl
  have hjoinsRolled := joins_rolledOver s
  have hdone := performSwap_done (rolledOver s)
  have hswapMonitor := performSwap_monitor (rolledOver s)
  have hswapOutside := performSwap_outside (rolledOver s)
  have hswapCaptures := performSwap_captures (rolledOver s)
  rw [giveRollover_pending h]
  generalize rolledOver s = w at *
  generalize performSwap w = v at *
  obtain ⟨htaken, -, hfollows, howners, hjoins, -, -⟩ := hdone
  have hjoinsStatus := joins_rewriteSwapStatus slot .done v
  have hstatus := rewriteSwapStatus_status slot .done v
  have hstaged : w.staged = s.staged := by
    unfold State.staged
    rw [hprofiles]
  rw [hswapMonitor, hmonitor] at hstatus hjoinsStatus
  refine ⟨⟨?_, ?_, ?_⟩, ?_, ?_, ?_, ?_, ?_⟩
  · rw [rewriteSwapStatus_profiles, htaken, hprofiles]
  · rw [hstatus]
  · rw [hstatus]
  · rw [hstaged] at hfollows
    exact hfollows.congr hcurrent.symm hdecode.symm htable.symm hcandidates.symm (rewriteSwapStatus_decode _ _ _)
      (rewriteSwapStatus_table _ _ _) (rewriteSwapStatus_candidates _ _ _)
  · rw [hnow, hdisc, hpulses] at howners
    rw [rewriteSwapStatus_disc, rewriteSwapStatus_pulses]
    exact howners.congr hprofiles.symm hdelays.symm hrho.symm hraw.symm (rewriteSwapStatus_delays _ _ _)
      (congrArg (·.rho) (rewriteSwapStatus_time _ _ _))
  · refine ((hjoinsRolled.trans hjoins).trans hjoinsStatus).congr fun k => ?_
    have hrequests := swapRequests_congr (s := w) (t := v) (s' := s) (t' := rewriteSwapStatus slot .done v)
      (congrArg (·.state) hdisc.symm) hdelays.symm (congrArg (·.state) (rewriteSwapStatus_disc _ _ _)) (rewriteSwapStatus_delays _ _ _) k
    rw [hrequests, or_assoc]
  · rw [rewriteSwapStatus_outside, hswapOutside, houtside]
  · rw [rewriteSwapStatus_captures, hswapCaptures, hcaptures]

/-- The blocks of a swap are among those of the rollover that takes it (R106, R173). -/
theorem rollover_kinds {s t : State} {k : BlockKind} {c : Prop} :
    (k ∈ rolloverBlocks ∨ SwapRequests s t k ∨ c) ↔ (k ∈ rolloverBlocks ∨ c) := by
  have hswap (h : SwapRequests s t k) : k ∈ rolloverBlocks := by
    rcases h with rfl | ⟨rfl, -⟩ | ⟨p, rfl, -⟩
    · decide
    · decide
    · exact (by decide : ∀ p : Port, BlockKind.port p ∈ rolloverBlocks) p
  constructor
  · rintro (h | h | h)
    · exact .inl h
    · exact .inl (hswap h)
    · exact .inr h
  · exact Or.imp_right .inr

/-- What a state becomes that leaves everything outside the blocks and the captures. -/
theorem eq_of_outside_captures {s t : State} (houtside : t.outside = s.outside) (hcaptures : t.captures = s.captures) :
    t = { s with
      decode := t.decode, table := t.table, candidates := t.candidates, delays := t.delays, time := t.time, disc := t.disc
      pulses := t.pulses, profiles := t.profiles, monitor := t.monitor, report := t.report } :=
  congrArg (fun u => u.withMonitor t.monitor) (eq_of_outside (t := t.withMonitor s.monitor) houtside hcaptures rfl)

/-- Settles O24: the rollover happens, and the port is granted where it is free. -/
theorem rolloverReanchorsAndSwaps : Obligations.RolloverReanchorsAndSwaps := by
  intro s hreleased hdue
  have hexec : exec .rollover s = .next (grantIfFree (giveRollover s)) :=
    congrArg Host.Outcome.next (happens_eq giveRollover hreleased (bne_iff_ne.2 hdue))
  have htime := giveRollover_time s
  have hnone : NoPendingSwap s → giveRollover s = rolledOver s := giveRollover_noPending
  have htaken {slot : Fin 16} (h : s.profiles.swap = .pending slot) : PendingTaken slot s (giveRollover s) :=
    giveRollover_pendingTaken h
  generalize giveRollover s = u at *
  have houtside : u.outside = s.outside := by
    by_cases hno : NoPendingSwap s
    · rw [hnone hno, rolledOver_eq]
      rfl
    · obtain ⟨slot, hslot⟩ := not_forall_not.1 hno
      exact (htaken hslot).outside
  have hjoins : ∃ P, Joins s u P := by
    by_cases hno : NoPendingSwap s
    · exact ⟨_, hnone hno ▸ joins_rolledOver s⟩
    · obtain ⟨slot, hslot⟩ := not_forall_not.1 hno
      exact ⟨_, (htaken hslot).joins⟩
  obtain ⟨_, hjoins⟩ := hjoins
  have hstraps : u.straps = s.straps := straps_of_outside houtside
  obtain ⟨hframe, hbusy, hfree⟩ := event_grantAfter hreleased houtside
  have harbiter : u.arbiter = s.arbiter := congrArg (fun x => x.2.2.2.2.1) houtside
  rw [harbiter, hstraps] at hfree
  generalize grantIfFree u = t at *
  have hfields {α : Type} (f : State → α) (hf : ∀ x r, f { u with arbiter := x, report := r } = f u) : f t = f u :=
    (congrArg f hframe).trans (hf _ _)
  have htime' := hfields (·.time) fun _ _ => rfl
  refine ⟨t, u.report, hexec, ?_, ?_, ?_, ?_, ?_, hjoins.report, fun hport => ?_, hfree, fun hno => ?_, fun slot hslot => ?_⟩
  · exact (now_of_time htime').trans htime.1
  · rw [htime', htime.2.1]
  · rw [htime', htime.2.2.1]
  · rw [htime', htime.2.2.2.1]
  · rw [htime', htime.2.2.2.2]
  · rw [hbusy hport]
    exact ⟨rfl, harbiter⟩
  · have hrolled := (hnone hno).trans (rolledOver_eq s)
    refine ⟨?_, ?_⟩
    · rw [hrolled]
      rfl
    · rw [hrolled] at hframe
      exact hframe
  · obtain ⟨htaken, hfollows, howners, hjoins, -, hcaptures⟩ := htaken hslot
    have hdelays' := hfields (·.delays) fun _ _ => rfl
    have hdisc' := hfields (·.disc) fun _ _ => rfl
    have hpulses' := hfields (·.pulses) fun _ _ => rfl
    have hprofiles' := hfields (·.profiles) fun _ _ => rfl
    have hmonitor' := hfields (·.monitor) fun _ _ => rfl
    refine ⟨fun k => ?_, ?_, ?_, ?_, ?_⟩
    · rw [hjoins.mem_iff k]
      exact or_congr_right (and_congr_right fun _ => rollover_kinds)
    · unfold PendingSwapTaken
      rw [hprofiles', hmonitor']
      exact htaken
    · exact hfollows.congr rfl rfl rfl rfl (hfields (·.decode) fun _ _ => rfl) (hfields (·.table) fun _ _ => rfl)
        (hfields (·.candidates) fun _ _ => rfl)
    · rw [hdisc', hpulses']
      exact howners.congr rfl rfl rfl rfl hdelays' (congrArg (·.rho) htime')
    · have hgranted : (t.withArbiter s.arbiter).outside = s.outside :=
        (hfields (fun v => (v.withArbiter s.arbiter).outside) fun _ _ => rfl).trans (withArbiter_outside_congr houtside)
      exact congrArg (fun v => v.withArbiter t.arbiter) (eq_of_outside_captures (t := t.withArbiter s.arbiter) hgranted
        ((hfields (·.captures) fun _ _ => rfl).trans hcaptures))

end Sys2Proof.Machine
end

section
/-! A step of station time (03 R46): the record, the flag, the rollover it may give, the pulse schedules. -/

namespace Sys2Proof.Machine

/-- The state of a step before its rollover: station time moved, STEPPED raised, the waiting T_w moved (R46, R120). -/
def timeStepped (a : Int) (s : State) : State := shiftWaiting a (raise .stepped (s.withTime (s.time.step a)))

/-- What a step leaves before its rollover. -/
theorem timeStepped_eq (a : Int) (s : State) :
    timeStepped a s = { s with
      time := { s.time with anchorRaw := s.time.raw, anchorStation := s.now.add a }
      disc := { s.disc with seen := movedMarks a s.disc.seen }
      report := { s.report with
        flags := s.report.flags ||| 0x0800
        queue := if s.straps.bypass then s.report.queue else joinQueue s.report.queue .status } } := by
  unfold timeStepped
  rw [raise_eq_raised]
  rfl

/-- An output after a step (R148). -/
theorem stepPulses_get (s : State) (n : Fin 4) : (stepPulses s).pulses[n] = steppedPulse s.now s.pulses[n] :=
  (tab4_get (fun n => s.pulses[n].step s.now) n).trans (by unfold PulseOutput.step steppedPulse; cases s.pulses[n].schedule <;> rfl)

/-- A step ends with the pulse outputs (R148). -/
theorem stepTime_eq (a : Int) (s : State) :
    stepTime a s = stepPulses (if rolloverDue (timeStepped a s) then giveRollover (timeStepped a s) else timeStepped a s) := rfl

/-- The state of a step before its pulses start anew: it rolls over or not (R45, R46). -/
theorem stepTime_cases (a : Int) (s : State) :
    ∃ u, stepTime a s = stepPulses u ∧ u.now = s.now.add a ∧ u.time.raw = s.time.raw ∧ u.time.anchorRaw = s.time.raw ∧
      u.time.anchorStation = u.now ∧ u.time.secondsSeen = u.now.sec ∧
      ((u.now.sec ≠ s.time.secondsSeen ∧ u = giveRollover (timeStepped a s)) ∨
        (u.now.sec = s.time.secondsSeen ∧ u = timeStepped a s)) := by
  have hnow : (timeStepped a s).now = s.now.add a := by
    rw [timeStepped_eq]
    exact TimeBase.now_of_anchored rfl
  have htime : (timeStepped a s).time.raw = s.time.raw ∧ (timeStepped a s).time.anchorRaw = s.time.raw ∧
      (timeStepped a s).time.anchorStation = s.now.add a ∧ (timeStepped a s).time.secondsSeen = s.time.secondsSeen := by
    rw [timeStepped_eq]
    exact ⟨rfl, rfl, rfl, rfl⟩
  obtain ⟨hraw, hanchor, hstation, hseconds⟩ := htime
  have hrollover := giveRollover_time (timeStepped a s)
  rw [stepTime_eq]
  by_cases hrolls : (s.now.add a).sec = s.time.secondsSeen
  · have hdue : rolloverDue (timeStepped a s) = false := by
      unfold rolloverDue
      rw [hnow, hseconds, hrolls]
      exact bne_self_eq_false _
    refine ⟨timeStepped a s, by rw [hdue]; rfl, hnow, hraw, hanchor, hstation.trans hnow.symm, ?_, .inr ⟨?_, rfl⟩⟩
    · rw [hseconds, hnow, hrolls]
    · rw [hnow, hrolls]
  · have hdue : rolloverDue (timeStepped a s) = true := by
      unfold rolloverDue
      rw [hnow, hseconds]
      exact bne_iff_ne.2 hrolls
    obtain ⟨hnow', hraw', hanchor', hstation', hseconds'⟩ := hrollover
    refine ⟨giveRollover (timeStepped a s), by rw [hdue]; rfl, hnow'.trans hnow, hraw'.trans hraw, hanchor'.trans hraw,
      hstation'.trans hnow'.symm, ?_, .inl ⟨?_, rfl⟩⟩
    · rw [hseconds', hnow']
    · rw [hnow', hnow]
      exact hrolls

/-- What stands of a step before its rollover (R46). -/
theorem timeStepped_fields (a : Int) (s : State) :
    (timeStepped a s).profiles = s.profiles ∧ (timeStepped a s).delays = s.delays ∧ (timeStepped a s).time.rho = s.time.rho ∧
    (timeStepped a s).time.raw = s.time.raw ∧ (timeStepped a s).disc = { s.disc with seen := movedMarks a s.disc.seen } ∧
    (timeStepped a s).pulses = s.pulses ∧ (timeStepped a s).monitor = s.monitor ∧ (timeStepped a s).arbiter = s.arbiter ∧
    (timeStepped a s).decode = s.decode ∧ (timeStepped a s).table = s.table ∧ (timeStepped a s).candidates = s.candidates ∧
    (timeStepped a s).outside = s.outside ∧ (timeStepped a s).captures = s.captures ∧ (timeStepped a s).straps = s.straps := by
  rw [timeStepped_eq]
  exact ⟨rfl, rfl, rfl, rfl, rfl, rfl, rfl, rfl, rfl, rfl, rfl, rfl, rfl, rfl⟩

/-- The blocks that a step requests before its rollover (R173). -/
theorem timeStepped_report (a : Int) (s : State) :
    (timeStepped a s).report = { s.report with
      flags := s.report.flags ||| 0x0800
      queue := if s.straps.bypass then s.report.queue else joinQueue s.report.queue .status } := by
  rw [timeStepped_eq]

/-- The blocks requested by the rollover that a step gives, with the pending swap it takes (R45, R159, R173). -/
theorem joins_steppedRollover (a : Int) (s : State) {t : State} (hdelays : t.delays = (giveRollover (timeStepped a s)).delays)
    (hdisc : t.disc = (giveRollover (timeStepped a s)).disc) :
    Joins (timeStepped a s) (giveRollover (timeStepped a s)) fun k => k ∈ rolloverBlocks ∨
      ∃ slot, s.profiles.swap = .pending slot ∧
        (SwapRequests s t k ∨ (k = .commands ∧ s.monitor.status[slot].result = .pending)) := by
  obtain ⟨hprofiles, hdelays', -, -, hdisc', -, hmonitor, -⟩ := timeStepped_fields a s
  by_cases hno : NoPendingSwap s
  · have hno' : NoPendingSwap (timeStepped a s) := fun slot => by rw [hprofiles]; exact hno slot
    rw [giveRollover_noPending hno']
    exact (joins_rolledOver _).congr fun k => ⟨.inl, fun h => h.resolve_right fun ⟨slot, hslot, _⟩ => hno slot hslot⟩
  · obtain ⟨slot, hslot⟩ := not_forall_not.1 hno
    have hjoins := (giveRollover_pendingTaken (s := timeStepped a s) (by rw [hprofiles]; exact hslot)).joins
    refine hjoins.congr fun k => or_congr_right ?_
    have hrequests := swapRequests_congr (s := timeStepped a s) (t := giveRollover (timeStepped a s)) (s' := s) (t' := t)
      (by rw [hdisc']) hdelays'.symm (congrArg (·.state) hdisc) hdelays k
    rw [← hrequests, hmonitor]
    constructor
    · exact fun h => ⟨slot, hslot, h⟩
    · rintro ⟨slot', hslot', h⟩
      obtain rfl := SwapRequest.pending.inj (hslot.symm.trans hslot')
      exact h

/-- The Report Writer after a step: STEPPED is raised, Status and what the rollover requests join (R46, R173). -/
theorem stepped_report {a : Int} {s u : State} {P : BlockKind → Prop} (h : Joins (timeStepped a s) u P) :
    u.report = { s.report with queue := u.report.queue, flags := s.report.flags ||| 0x0800 } ∧
    s.report.queue <+: u.report.queue ∧ (s.straps.bypass = true → u.report.queue = s.report.queue) ∧
    (s.straps.bypass = false → ∀ k, k ∈ u.report.queue ↔ k ∈ s.report.queue ∨ k = .status ∨ P k) := by
  have hreport := timeStepped_report a s
  have hstraps : (timeStepped a s).straps = s.straps := by rw [timeStepped_eq]
  refine ⟨?_, ?_, fun hb => ?_, fun hb k => ?_⟩
  · rw [h.report, hreport]
  · refine List.IsPrefix.trans ?_ h.extends_
    rw [hreport]
    dsimp only
    split
    · exact List.prefix_rfl
    · exact joinQueue_extends _ _
  · rw [h.bypass (by rw [hstraps, hb]), hreport]
    exact if_pos hb
  · rw [h.mem (by rw [hstraps, hb]), hreport]
    dsimp only
    rw [if_neg (by rw [hb]; decide), mem_joinQueue, or_assoc]

/-- Everything a step of station time does (R46). -/
theorem stepOf_stepTime (a : Int) (s : State) : StepOf a s (stepTime a s) := by
  obtain ⟨u, hstep, hnow, hraw, hanchor, hstation, hseconds, hcases⟩ := stepTime_cases a s
  obtain ⟨x, hx⟩ : ∃ x, stepPulses u = u.withPulses x := ⟨_, rfl⟩
  have hget (n : Fin 4) : x[n] = steppedPulse u.now u.pulses[n] := by
    rw [← stepPulses_get, hx]
    rfl
  rw [hstep, hx]
  obtain ⟨P, hjoins, hkinds⟩ : ∃ P, Joins (timeStepped a s) u P ∧ ∀ k, (k = .status ∨ P k) ↔ (k = .status ∨
      (u.now.sec ≠ s.time.secondsSeen ∧
        k ∈ ([.discipline, .port 0, .port 1, .port 2, .port 3, .port 4, .port 5, .counters] : List BlockKind)) ∨
      (u.now.sec ≠ s.time.secondsSeen ∧ ∃ slot, s.profiles.swap = .pending slot ∧
        (SwapRequests s (u.withPulses x) k ∨ (k = .commands ∧ s.monitor.status[slot].result = .pending)))) := by
    rcases hcases with ⟨hrolls, rfl⟩ | ⟨hstays, rfl⟩
    · refine ⟨_, joins_steppedRollover a s (t := (giveRollover (timeStepped a s)).withPulses x) rfl rfl, fun k => ?_⟩
      simp only [hrolls, ne_eq, not_false_eq_true, true_and, rolloverBlocks, List.mem_cons (b := BlockKind.status)]
      rw [or_assoc, or_self_left]
    · refine ⟨_, Joins.of_report rfl rfl, fun k => ?_⟩
      simp only [hstays, ne_eq, not_true_eq_false, false_and, or_false]
  obtain ⟨hreport, hextends, hbypass, hmem⟩ := stepped_report hjoins
  obtain ⟨hprofiles, hdelays, hrho, hraw', hdisc, hpulses, hmonitor, harbiter, hdecode, htable, hcandidates, houtside, hcaptures, -⟩ :=
    timeStepped_fields a s
  have hquiet (hno : NoPendingSwap s ∨ ¬ u.now.sec ≠ s.time.secondsSeen) :
      u.time.rho = s.time.rho ∧ u = { s with
        time := u.time, disc := { s.disc with seen := movedMarks a s.disc.seen }, report := u.report } := by
    rcases hcases with ⟨hrolls, rfl⟩ | ⟨-, rfl⟩
    · have hno' : NoPendingSwap (timeStepped a s) := fun slot => by
        rw [hprofiles]
        exact (hno.resolve_right (not_not.2 hrolls)) slot
      rw [giveRollover_noPending hno', rolledOver_eq, timeStepped_eq]
      exact ⟨rfl, rfl⟩
    · rw [timeStepped_eq]
      exact ⟨rfl, rfl⟩
  refine ⟨hnow, hraw, hanchor, hstation, hseconds, hreport, hextends, hbypass, fun hb k => ?_, fun hno => ⟨?_, ?_, fun n => ?_⟩,
    fun slot hslot hrolls => ?_⟩
  · exact (hmem hb k).trans (or_congr_right (hkinds k))
  · exact (hquiet hno).1
  · exact congrArg (fun v => v.withPulses x) (hquiet hno).2
  · have hpulses' : u.pulses = s.pulses := (congrArg (·.pulses) (hquiet hno).2).trans rfl
    exact (hget n).trans (by rw [hpulses']; rfl)
  · obtain rfl : u = giveRollover (timeStepped a s) := by
      rcases hcases with ⟨-, hu⟩ | ⟨hstays, -⟩
      · exact hu
      · exact absurd hstays hrolls
    obtain ⟨htaken, hfollows, howners, -, houtside', hcaptures'⟩ :=
      giveRollover_pendingTaken (s := timeStepped a s) (by rw [hprofiles]; exact hslot)
    have hsnow : (timeStepped a s).now = s.now.add a := by
      rw [timeStepped_eq]
      exact TimeBase.now_of_anchored rfl
    generalize giveRollover (timeStepped a s) = u at *
    generalize timeStepped a s = w at *
    have hstaged : w.staged = s.staged := by
      unfold State.staged
      rw [hprofiles]
    refine ⟨?_, ?_, ?_, u.pulses, ?_, hget⟩
    · exact eq_of_outside_captures (t := u.withPulses x) (houtside'.trans houtside) (hcaptures'.trans hcaptures)
    · unfold PendingSwapTaken at htaken ⊢
      rw [hprofiles, hmonitor] at htaken
      exact htaken
    · rw [hstaged] at hfollows
      exact hfollows.congr (congrArg (·.current) harbiter.symm) hdecode.symm htable.symm hcandidates.symm rfl rfl rfl
    · rw [hsnow, ← hnow, hdisc, hpulses] at howners
      exact howners.congr hprofiles.symm hdelays.symm hrho.symm hraw'.symm rfl rfl

end Sys2Proof.Machine
end

section
/-! The time commands (03 R48, R49; 07 R131) and the samples that meet ACQUIRE (07 R122, R123, R125). -/

namespace Sys2Proof.Machine

/-! ## The time commands -/

/-- The Discipline Unit told of a step (R131). -/
theorem toldOfStep_told (s : State) : ToldOfStep s (toldOfStep s) := by
  unfold toldOfStep
  refine ⟨fun h => if_pos h, fun h => ?_⟩
  rw [if_neg h]
  exact enterAcquire_becomes s

/-- A step and what the Discipline Unit is told of it leave the straps. -/
theorem toldOfStep_stepTime_straps (a : Int) (s : State) : (toldOfStep (stepTime a s)).straps = s.straps :=
  straps_of_outside ((toldOfStep_outside _).trans (stepTime_outside a s))

/-- Settles O29: each command steps station time and tells the Discipline Unit. -/
theorem timeCommandsStep : Obligations.TimeCommandsStep := by
  intro s a slot tag imm hat
  refine ⟨?_, ?_⟩
  · let w := written a 0b1111 (commandWord 0x01 tag imm) s
    let given := givenTime s.monitor.shadows[slot][0] s.monitor.shadows[slot][1]
    let amount := given.sub w.now
    have hstep : StepOf amount w (stepTime amount w) := stepOf_stepTime amount w
    have hnow : (toldOfStep (stepTime amount w)).now = given :=
      ((now_of_time (toldOfStep_time _)).trans hstep.1).trans (StationTime.add_sub given w.now)
    have hexec : exec (.timeSet tag imm) s = .next (answered slot
        (if 999999999 < (s.monitor.shadows[slot][1]).toNat then .clamped else .done) tag 0x01
        (toldOfStep (stepTime amount w))) :=
      congrArg Host.Outcome.next (takeCommand_result hat (act := timeSet) rfl (toldOfStep_stepTime_straps amount w))
    refine ⟨stepTime amount w, toldOfStep (stepTime amount w), hexec, ?_, toldOfStep_told _, ?_, ?_, ?_⟩
    · rw [hnow]
      exact hstep
    · exact congrArg (·.sec) hnow
    · exact congrArg (·.ns.val) hnow
    · exact congrArg (·.frac) hnow
  · let w := written a 0b1111 (commandWord 0x02 tag imm) s
    let amount := stepAmount (shadowWord slot 0 w) imm
    exact ⟨stepTime amount w, toldOfStep (stepTime amount w), congrArg Host.Outcome.next
      (takeCommand_result hat (act := timeStep imm) rfl (toldOfStep_stepTime_straps amount w)), stepOf_stepTime amount w,
      toldOfStep_told _⟩

/-! ## Samples that meet ACQUIRE -/

/-- A step is taken on an offset above a step threshold that is not 0 (R123). -/
theorem stepsOn_iff {theta : Int} {s : State} : stepsOn theta s = true ↔
    s.bank.discipline.stepThreshold ≠ 0 ∧ (s.bank.discipline.stepThreshold : Int) * 65536 < max theta (-theta) := by
  unfold stepsOn nsFn
  rw [absFn_eq_max, Bool.and_eq_true, bne_iff_ne, decide_eq_true_iff]

/-- A sample with a value, outside LOCKED, is answered in ACQUIRE (R122, R123, R125). -/
theorem takeSample_acquire {s : State} (hhold : s.disc.hold = false) (hlocked : s.disc.state ≠ .locked) (theta : Int)
    (o : SampleOrigin) :
    ∃ u, takeSample (some theta) o s = answerAcquire theta o u ∧
      DisciplineBecomes
        (if s.disc.state = .acquire then sampled o s.time.raw s.disc else acquired s.time.raw (sampled o s.time.raw s.disc)) s u := by
  have htaken : takeSample (some theta) o s = answerValue theta o (s.withDisc (sampled o s.time.raw s.disc)) := takeSample_eq hhold _ o
  have hentered : DisciplineBecomes (acquired s.time.raw (sampled o s.time.raw s.disc)) s
      (enterAcquire (s.withDisc (sampled o s.time.raw s.disc))) :=
    disciplineBecomes_setDiscState s
      (d := { sampled o s.time.raw s.disc with lockCount := 0, rejectCount := 0, holdover := none, missing := some s.time.raw }) rfl .acquire
  rw [htaken]
  unfold answerValue
  cases hs : s.disc.state with
  | acquire =>
    have hstate : (s.withDisc (sampled o s.time.raw s.disc)).disc.state = .acquire := hs
    rw [hstate]
    exact ⟨_, rfl, rfl, fun _ => ⟨rfl, rfl⟩, fun h => absurd rfl h⟩
  | locked => exact absurd hs hlocked
  | freeRun =>
    have hstate : (s.withDisc (sampled o s.time.raw s.disc)).disc.state = .freeRun := hs
    rw [hstate]
    exact ⟨_, rfl, hentered⟩
  | holdover =>
    have hstate : (s.withDisc (sampled o s.time.raw s.disc)).disc.state = .holdover := hs
    rw [hstate]
    exact ⟨_, rfl, hentered⟩

/-- The lock count at a value (R123). -/
theorem setLockCount_cases (n : Nat) (s : State) :
    (n < 8 → setLockCount n s = { s with disc := { s.disc with lockCount := n } }) ∧
    (8 ≤ n → DisciplineBecomes { s.disc with state := .locked, lockCount := 0, rejectCount := 0 } s (setLockCount n s)) := by
  unfold setLockCount
  refine ⟨fun h => if_neg (by omega), fun h => ?_⟩
  rw [if_pos h]
  exact disciplineBecomes_setDiscState s (d := { s.disc with lockCount := 0, rejectCount := 0 }) rfl .locked

/-- Settles O44: the sample enters ACQUIRE where it is not there yet, and is answered by a step or an update. -/
theorem acquireSampleStepsOrUpdates : Obligations.AcquireSampleStepsOrUpdates := by
  intro s theta o hhold hlocked
  obtain ⟨u, htaken, hbecomes⟩ := takeSample_acquire hhold hlocked theta o
  have hrhoI : (if s.disc.state = .acquire then sampled o s.time.raw s.disc
      else acquired s.time.raw (sampled o s.time.raw s.disc)).rhoI = s.disc.rhoI := by
    split <;> rfl
  generalize (if s.disc.state = .acquire then sampled o s.time.raw s.disc
    else acquired s.time.raw (sampled o s.time.raw s.disc)) = d at *
  have hdisc : u.disc = d := hbecomes.disc_eq
  have hbank : u.bank = s.bank := bank_eq_of_profiles ((congrArg (·.profiles) hbecomes.1).trans rfl)
  have htime : u.time = s.time := (congrArg (·.time) hbecomes.1).trans rfl
  have hsteps : stepsOn theta u = true ↔
      s.bank.discipline.stepThreshold ≠ 0 ∧ (s.bank.discipline.stepThreshold : Int) * 65536 < max theta (-theta) := by
    rw [stepsOn_iff, hbank]
  refine ⟨d, u, answerAcquire theta o u, htaken.symm, rfl, hbecomes, fun hne hlarge => ?_, fun hsmall => ?_⟩
  · have hstepped : answerAcquire theta o u = stepTime (-theta)
        { u with
          disc := { d with lockCount := 0, last := some { cls := .stepped, theta := theta, origin := o } }
          report := acceptedOne u.report } := by
      unfold answerAcquire
      rw [if_pos (hsteps.2 ⟨hne, hlarge⟩), hdisc]
      rfl
    rw [hstepped]
    exact stepOf_stepTime _ _
  · have hupdates : stepsOn theta u = false := by
      refine Bool.eq_false_iff.2 fun h => ?_
      obtain ⟨hne, hlarge⟩ := hsteps.1 h
      rcases hsmall with hzero | hsmall
      · exact hne hzero
      · omega
    obtain ⟨i, r, hpi, hupdate⟩ := piUpdate_eq theta u
    have hnow : u.now = s.now := now_of_time htime
    rw [hdisc, hnow, htime] at hupdate
    have hlimit : u.rateLimit = s.rateLimit := rateLimit_of_profiles ((congrArg (·.profiles) hbecomes.1).trans rfl)
    rw [PiUpdates, hlimit, hbank, hdisc, hrhoI] at hpi
    let v : State := { u with
      time := { s.time with anchorRaw := s.time.raw, anchorStation := s.now, rho := r }
      disc := { d with rhoI := i, last := some { cls := .updated, theta := theta, origin := o } }
      report := acceptedOne u.report }
    have hanswer : answerAcquire theta o u =
        setLockCount (if absFn theta < nsFn s.bank.discipline.lockThreshold then d.lockCount + 1 else 0) v := by
      unfold answerAcquire
      rw [if_neg (by rw [hupdates]; decide), hupdate, hdisc, hbank]
      rfl
    have hlock : absFn theta < nsFn s.bank.discipline.lockThreshold ↔
        max theta (-theta) < (s.bank.discipline.lockThreshold : Int) * 65536 := by
      rw [absFn_eq_max]
      rfl
    refine ⟨i, r, v, hpi, rfl, fun hlarge => ?_, fun hsmall => ?_⟩
    · rw [hanswer, if_neg fun h => by have := hlock.1 h; omega]
      exact (setLockCount_cases 0 v).1 (by decide)
    · rw [hanswer, if_pos (hlock.2 hsmall)]
      obtain ⟨hbelow, hlocks⟩ := setLockCount_cases (d.lockCount + 1) v
      exact ⟨fun h => hbelow (by omega), fun h => hlocks (by omega)⟩

end Sys2Proof.Machine
end

section
/-! RESTART (10 section 10.5): what it clears, and what it keeps. -/

namespace Sys2Proof.Machine

/-- Cleared ports request their blocks and no more of the Report Writer (R106). -/
theorem joins_clearPorts (ps : List Port) : ∀ s : State, ∃ P, Joins s (clearPorts ps s) P := by
  induction ps with
  | nil => exact fun s => ⟨_, .of_report rfl rfl⟩
  | cons p ps ih =>
    intro s
    obtain ⟨P, hjoins⟩ := ih (clearPort p s)
    exact ⟨_, (joins_settleDelay p s.delays[p].cleared s).trans hjoins⟩

/-- A pending swap cancelled leaves the banks, and the slot that gave it shows so if it still shows PENDING (R161). -/
theorem cancelSwap_cases (s : State) :
    (cancelSwap s).profiles.bankA = s.profiles.bankA ∧ (cancelSwap s).profiles.bankB = s.profiles.bankB ∧
    (cancelSwap s).profiles.active = s.profiles.active ∧ (∃ P, Joins s (cancelSwap s) P) ∧
    (NoPendingSwap s → cancelSwap s = s) ∧
    ∀ given, s.profiles.swap = .pending given → (cancelSwap s).profiles.swap = .none ∧
      (cancelSwap s).monitor = { s.monitor with
        status := if s.monitor.status[given].result = .pending then
          s.monitor.status.set given { s.monitor.status[given] with result := .cancelled } else s.monitor.status } := by
  by_cases hno : NoPendingSwap s
  · have hsame : cancelSwap s = s := by
      unfold cancelSwap
      split
      next given hgiven => exact absurd hgiven (hno given)
      next => rfl
    rw [hsame]
    exact ⟨rfl, rfl, rfl, ⟨_, .of_report rfl rfl⟩, fun _ => rfl, fun given hgiven => absurd hgiven (hno given)⟩
  · obtain ⟨given, hgiven⟩ := not_forall_not.1 hno
    let v := s.withProfiles { s.profiles with swap := .none }
    have hcancels : cancelSwap s = rewriteSwapStatus given .cancelled (request [.status] v) := by
      unfold cancelSwap
      rw [hgiven]
    have hprofiles : (cancelSwap s).profiles = { s.profiles with swap := .none } := by
      rw [hcancels, rewriteSwapStatus_profiles, request_profiles]
      rfl
    have hjoins := (Joins.trans (s := s) (t := v) (.of_report rfl rfl) (joins_request [.status] v)).trans
      (joins_rewriteSwapStatus given .cancelled (request [.status] v))
    rw [hprofiles]
    refine ⟨rfl, rfl, rfl, ⟨_, hcancels ▸ hjoins⟩, fun h => absurd hgiven (h given), fun given' hgiven' => ⟨rfl, ?_⟩⟩
    obtain rfl := SwapRequest.pending.inj (hgiven.symm.trans hgiven')
    rw [hcancels, rewriteSwapStatus_status, request_monitor]
    rfl

/-- The Discipline Unit at RESTART (R136). -/
theorem restartDiscipline_becomes (s : State) :
    DisciplineBecomes
      { s.disc with
        state := .freeRun, seen := [], lockCount := 0, rejectCount := 0, hold := false, holdover := none, last := none
        latched := if s.bank.discipline.expected = 0 then none else some s.bank.discipline.expected
        source := if s.bank.discipline.enable then s.bank.discipline.mode.source else .none
        missing := if s.bank.discipline.enable then some s.time.raw else none } s (restartDiscipline s) :=
  disciplineBecomes_setDiscState s
    (d := { s.disc with
      seen := [], lockCount := 0, rejectCount := 0, hold := false, holdover := none, last := none
      latched := expectedLatch s.bank.discipline.expected
      source := if s.bank.discipline.enable then s.bank.discipline.mode.source else .none
      missing := if s.bank.discipline.enable then some s.time.raw else none }) rfl .freeRun

/-- The state of a RESTART before the Discipline Unit acts: candidates, table, lists and rings emptied, every block requested. -/
def restartCleared (s : State) : State := clearPorts allPorts (emptyTable (dropCandidates (request allBlocks s)))

/-- What a RESTART clears first, and what stands then. -/
theorem restartCleared_fields (s : State) :
    (∀ n : Fin 7, (restartCleared s).candidates[n] = none) ∧ (restartCleared s).table.entries = [] ∧
    (∀ p : Port, (restartCleared s).delays[p] = emptiedPort s.bank.defaultDelay) ∧ (restartCleared s).disc = s.disc ∧
    (restartCleared s).time = s.time ∧ (restartCleared s).decode = s.decode ∧ (restartCleared s).captures = s.captures ∧
    (restartCleared s).pulses = s.pulses ∧ (restartCleared s).profiles = s.profiles ∧ (restartCleared s).monitor = s.monitor ∧
    (restartCleared s).outside = s.outside := by
  unfold restartCleared
  refine ⟨fun n => ?_, ?_, fun p => ?_, by simp [emptyTable, dropCandidates], by simp [emptyTable, dropCandidates],
    by simp [emptyTable, dropCandidates], by simp [emptyTable, dropCandidates], by simp [emptyTable, dropCandidates],
    by simp [emptyTable, dropCandidates], by simp [emptyTable, dropCandidates], by simp [emptyTable, dropCandidates]⟩
  · rw [clearPorts_candidates]
    fin_cases n <;> rfl
  · rw [clearPorts_table]
    rfl
  · rw [clearPorts_delays_get, if_pos (mem_allPorts p)]
    have hbank : (emptyTable (dropCandidates (request allBlocks s))).bank = s.bank :=
      bank_eq_of_profiles (request_profiles allBlocks s)
    rw [hbank]

/-- RESTART requests every block (R175). -/
theorem joins_restartCleared (s : State) : ∃ P, Joins s (restartCleared s) P ∧ (s.straps.bypass = false → ∀ k, k ∈ (restartCleared s).report.queue) := by
  unfold restartCleared
  have hrequested := joins_request allBlocks s
  have hemptied : Joins (request allBlocks s) (emptyTable (dropCandidates (request allBlocks s))) fun _ => False :=
    .of_report rfl rfl
  obtain ⟨P, hcleared⟩ := joins_clearPorts allPorts (emptyTable (dropCandidates (request allBlocks s)))
  have hjoins := (hrequested.trans hemptied).trans hcleared
  have hmem (k : BlockKind) : k ∈ allBlocks := by
    cases k with
    | port p => exact (by decide : ∀ p : Port, BlockKind.port p ∈ allBlocks) p
    | _ => decide
  refine ⟨_, hjoins, fun hb k => ?_⟩
  rw [hjoins.mem hb k]
  exact .inr (.inl (.inl (hmem k)))

/-- The parts of RESTART in their order (R175). -/
theorem restartPart_eq (s : State) : restartPart s = clearCounters (cancelSwap (restartDiscipline (restartCleared s))) := rfl

/-- Settles O39: each part of RESTART clears its own and leaves the rest. -/
theorem restartClearsMeasuring : Obligations.RestartClearsMeasuring := by
  intro s a slot tag imm hat
  have ⟨⟨_, _, _, hbypass, _⟩, _⟩ := hat
  obtain ⟨w, hw⟩ : ∃ w, w = written a 0b1111 (commandWord 0x7F tag imm) s := ⟨_, rfl⟩
  obtain ⟨hcandidates, htable, hdelays, hdisc, htime, hdecode, hcaptures, hpulses, hprofiles, hmonitor, houtside⟩ :=
    restartCleared_fields w
  obtain ⟨P, hjoins, hall⟩ := joins_restartCleared w
  have hbecomes := restartDiscipline_becomes (restartCleared w)
  have houtside' := restartDiscipline_outside (restartCleared w)
  have htaken : restartPart w = clearCounters (cancelSwap (restartDiscipline (restartCleared w))) := restartPart_eq w
  have hmonitor' := restartDiscipline_monitor (restartCleared w)
  have hprofiles' := restartDiscipline_profiles (restartCleared w)
  have hkept : (restartDiscipline (restartCleared w)).candidates = (restartCleared w).candidates ∧
      (restartDiscipline (restartCleared w)).table = (restartCleared w).table ∧
      (restartDiscipline (restartCleared w)).delays = (restartCleared w).delays ∧
      (restartDiscipline (restartCleared w)).time = (restartCleared w).time ∧
      (restartDiscipline (restartCleared w)).decode = (restartCleared w).decode ∧
      (restartDiscipline (restartCleared w)).captures = (restartCleared w).captures := by
    simp
  generalize restartCleared w = v at *
  generalize restartDiscipline v = u at *
  obtain ⟨hbankA, hbankB, hactive, ⟨Q, hcancels⟩, hnone, hpending⟩ := cancelSwap_cases u
  have hcancelled : (cancelSwap u).outside = u.outside ∧ (cancelSwap u).candidates = u.candidates ∧
      (cancelSwap u).table = u.table ∧ (cancelSwap u).delays = u.delays ∧ (cancelSwap u).time = u.time ∧
      (cancelSwap u).decode = u.decode ∧ (cancelSwap u).captures = u.captures ∧ (cancelSwap u).disc = u.disc ∧
      (cancelSwap u).pulses = u.pulses := by
    simp
  have hstraps : (cancelSwap u).straps = w.straps := hcancels.straps.trans (straps_of_outside (houtside'.trans houtside))
  have hexec : exec (.restart tag imm) s = .next (answered slot .done tag 0x7F (clearCounters (cancelSwap u))) := by
    refine congrArg Host.Outcome.next (takeCommand_result hat (t := clearCounters (cancelSwap u)) (r := .done)
      (act := fun _ s => (restartPart s, .done)) ?_ ?_)
    · rw [← hw, htaken]
    · exact hstraps.trans (by rw [hw]; rfl)
  generalize cancelSwap u = c at *
  obtain ⟨houtsideC, hcandidatesC, htableC, hdelaysC, htimeC, hdecodeC, hcapturesC, hdiscC, hpulsesC⟩ := hcancelled
  obtain ⟨hcandidatesU, htableU, hdelaysU, htimeU, hdecodeU, hcapturesU⟩ := hkept
  have hdiscU := hbecomes.disc_eq
  have hjoinsU := hbecomes.joins
  obtain ⟨-, hstays, hleaves⟩ := hbecomes
  have houtsideW : c.outside = w.outside := houtsideC.trans (houtside'.trans houtside)
  have hprofilesU : u.profiles = s.profiles := (hprofiles'.trans hprofiles).trans (congrArg (·.profiles) hw)
  have hmonitorU : u.monitor = s.monitor := (hmonitor'.trans hmonitor).trans (congrArg (·.monitor) hw)
  have hbankV : v.bank = s.bank := bank_eq_of_profiles (hprofiles.trans (congrArg (·.profiles) hw))
  have hdiscW : w.disc = s.disc := congrArg (·.disc) hw
  have htimeC' : c.time = s.time := (htimeC.trans (htimeU.trans htime)).trans (congrArg (·.time) hw)
  have hjoinsC : ∃ R, Joins s c R ∧ ∀ k, k ∈ c.report.queue := by
    obtain ⟨R, hR⟩ : ∃ R, Joins v c R := ⟨_, hjoinsU.trans hcancels⟩
    have hword : Joins s w fun _ => False := .of_report (congrArg (·.straps) hw) (congrArg (·.report) hw)
    refine ⟨_, (hword.trans hjoins).trans hR, fun k => hR.extends_.subset (hall ?_ k)⟩
    rw [hword.straps, hbypass]
  obtain ⟨R, hreport, hqueue⟩ := hjoinsC
  have hshadows : c.monitor.shadows = s.monitor.shadows := by
    by_cases hno : NoPendingSwap u
    · rw [hnone hno, hmonitorU]
    · obtain ⟨given, hgiven⟩ := not_forall_not.1 hno
      rw [(hpending given hgiven).2, hmonitorU]
  refine ⟨_, hexec, ?_, ?_, ?_, ?_, ?_, ?_, ?_, ?_, ?_, ?_, ?_, ?_, ?_, ?_, ?_, ?_, ?_, ?_, ?_, ?_, ?_, ?_⟩
  · simp only [State.outside, Prod.mk.injEq] at houtsideW
    obtain ⟨hheld, hstrapsC, hmemory, hports, harbiter, hlimits, hfree, hqueueC⟩ := houtsideW
    subst hw
    exact ⟨hmemory, hports, harbiter, hheld, hstrapsC, congrArg (·.raw) htimeC', hshadows, hlimits, hfree, hqueueC⟩
  · exact fun n => (congrArg (·[n]) (hcandidatesC.trans hcandidatesU)).trans (hcandidates n)
  · exact (congrArg (·.entries) (htableC.trans htableU)).trans htable
  · intro p
    refine (congrArg (·[p]) (hdelaysC.trans hdelaysU)).trans ((hdelays p).trans ?_)
    rw [← bank_eq_of_profiles hprofiles, hbankV]
    rfl
  · refine hdiscC.trans (hdiscU.trans ?_)
    rw [hdisc, hbankV, htime, hdiscW, congrArg (·.time.raw) hw]
    rfl
  · exact htimeC'
  · exact (hdecodeC.trans (hdecodeU.trans hdecode)).trans (congrArg (·.decode) hw)
  · exact (hcapturesC.trans (hcapturesU.trans hcaptures)).trans (congrArg (·.captures) hw)
  · intro hfree
    have hsame := (hstays (by rw [hdisc, hdiscW, hfree])).1
    exact hpulsesC.trans (hsame.trans (hpulses.trans (congrArg (·.pulses) hw)))
  · intro hfree n
    have hgated := (hleaves (by rw [hdisc, hdiscW]; exact fun h => hfree h.symm)).1 n
    refine (congrArg (·[n]) hpulsesC).trans (hgated.trans ?_)
    rw [hbankV, hpulses, congrArg (·.pulses) hw]
    rfl
  · exact hbankA.trans (congrArg (·.bankA) hprofilesU)
  · exact hbankB.trans (congrArg (·.bankB) hprofilesU)
  · exact hactive.trans (congrArg (·.active) hprofilesU)
  · intro hno
    have hsame : c = u := hnone fun given => by rw [hprofilesU]; exact hno given
    rw [hsame]
    refine ⟨congrArg (·.swap) hprofilesU, ?_⟩
    exact congrArg (fun m : CommandMonitor => m.status.set slot _) hmonitorU
  · intro given hgiven
    obtain ⟨hswap, hmonitorC⟩ := hpending given (by rw [hprofilesU, hgiven])
    refine ⟨hswap, ?_⟩
    rw [hmonitorU] at hmonitorC
    exact congrArg (fun m : CommandMonitor => m.status.set slot _) hmonitorC
  · exact congrArg (·.flags) hreport.report
  · exact congrArg (·.enables) hreport.report
  · exact congrArg (·.generations) hreport.report
  · rfl
  · intro p
    fin_cases p <;> rfl
  · exact hreport.extends_.trans (joinQueue_extends _ _)
  · exact fun k => mem_joinQueue.2 (.inl (hqueue k))

end Sys2Proof.Machine
end

section
/-! Egress reads of cells (04 sections 4.3 and 4.4; 05): timing, hand-over, settling, and the words that are substituted. -/

namespace Sys2Proof.Machine

/-! ## The read and its data -/

/-- An egress read of a cell: the Residence Table acts, and the word it leaves passes (R61, R88). -/
theorem exec_cellWordRead {s : State} {a : Access} {w : Fin 4} {q : Port} {k : CellKey} {n : Nat} (hat : AtCellRead s a w q)
    (hcell : cellOf s a.next.toNat w = (k, n)) :
    exec .cellWordRead s = .next { egressRead k n q s with
      ports := { memory := some (.read a.next), fabric := some (egressData k n q (s.memory.readWord a.next) (egressRead k n q s)) }
      arbiter := advanced a s } := by
  have hroute := route_of_atCellRead (en := 0) hat
  rw [hcell] at hroute
  have hmemory : (egressRead k n q s).memory = s.memory := congrArg (·.2.2.1) (egressRead_outside k n q s)
  have harbiter : (egressRead k n q s).arbiter = s.arbiter := congrArg (fun x => x.2.2.2.2.1) (egressRead_outside k n q s)
  have hadvanced : advanced a (egressRead k n q s) = advanced a s := by
    unfold advanced
    rw [harbiter, show (egressRead k n q s).resetHeld = s.resetHeld from congrArg (·.1) (egressRead_outside k n q s)]
  change execCellWordRead s = _
  unfold execCellWordRead
  simp only [hroute]
  rw [passRead_eq (a := a) (by rw [harbiter]; exact hat.1.1), hadvanced, hmemory]

/-- The live entry of a cell is found after a change that leaves cells and states. -/
theorem findLive_changeEntry {k : CellKey} {es : List Entry} {e : Entry} (h : findLive k es = some e) {f : Entry → Entry}
    (hlive : ∀ x, (f x).live = x.live) (hkey : ∀ x, (f x).key = x.key) :
    findLive k (changeEntry e.order f es) = some (f e) := by
  have hsame : ((fun x : Entry => x.live && x.key == k) ∘ fun x : Entry => if x.order = e.order then f x else x) =
      fun x : Entry => x.live && x.key == k := by
    funext x
    dsimp only [Function.comp]
    split
    · rw [hlive, hkey]
    · rfl
  unfold findLive changeEntry at *
  rw [List.find?_map, hsame, h]
  exact congrArg some (if_pos rfl)

/-- The live entry of a cell after one of its slots was set. -/
theorem findLive_setSlot {k : CellKey} {es : List Entry} {e : Entry} (h : findLive k es = some e) (q : Port) (x : Slot) :
    findLive k (changeEntry e.order (fun y => y.setSlot q x) es) = some (e.setSlot q x) :=
  findLive_changeEntry h (fun _ => rfl) (fun _ => rfl)

/-- A slot that was set. -/
theorem setSlot_slots (e : Entry) (q : Port) (x : Slot) : (e.setSlot q x).slots[q] = x := Vector.getElem_set_self _

/-- The data of a read that leaves the slot other than PATCHED is memory's (R61). -/
theorem egressData_of_notPatched {k : CellKey} {n : Nat} {q : Port} {s : State} {e : Entry} (hlive : findLive k s.table.entries = some e)
    (hslot : ∀ raw held, e.slots[q] ≠ .patched raw held) (d : Word) : egressData k n q d s = d := by
  unfold egressData
  rw [hlive]
  dsimp only
  split
  next raw held h => exact absurd h (hslot raw held)
  next => rfl

/-- The data of a read of a PATCHED slot (R88). -/
theorem egressData_of_patched {k : CellKey} {n : Nat} {q : Port} {s : State} {e : Entry} (hlive : findLive k s.table.entries = some e)
    {raw : Raw} {held : BitVec 64} (hslot : e.slots[q] = .patched raw held) (d : Word) :
    egressData k n q d s =
      if n = e.header.h + 2 then highWord held else if n = e.header.h + 3 then lowWord held else d := by
  unfold egressData
  simp only [hlive]
  split
  next raw' held' h =>
    obtain ⟨rfl, rfl⟩ := Slot.patched.inj (hslot.symm.trans h)
    rfl
  next h => exact absurd hslot (h raw held)

/-! ## Settling a slot -/

/-- A flag raised in a part that is not in bypass (R167, R173). -/
theorem raise_of_decoding {s : State} (hb : s.straps.bypass = false) (f : Flag) :
    raise f s = { s with
      report := { s.report with flags := s.report.flags ||| f.bit, queue := joinQueue s.report.queue .status } } := by
  rw [raise_eq_raised]
  unfold raised
  rw [if_neg (by rw [hb]; decide)]

/-- A slot set, and one counter of its port up by one (R60). -/
theorem passSlot_eq {s : State} (hb : s.straps.bypass = false) (e : Entry) (q : Port) (rawOut : Option Raw) (f : Flag) :
    passSlot e q rawOut f s = { s with
      table := { s.table with entries := changeEntry e.order (fun x => x.setSlot q (.passed rawOut)) s.table.entries }
      report :=
        { s.report with
          ports := s.report.ports.set q { s.report.ports[q] with passed := s.report.ports[q].passed + 1 }
          flags := s.report.flags ||| f.bit
          queue := joinQueue s.report.queue .status } } :=
  raise_of_decoding (s := countPort q .passed (setSlot e.order q (.passed rawOut) s)) hb f

/-- The flag that a computation raises, 0 for none (R86, R87). -/
def Computed.flag (o : Computed) : BitVec 16 := if o.unknown then 0x0008 else if o.saturated then 0x0004 else 0

/-- What a computation gives: transit unknown stays unknown, and another sum is rounded and held in the 64-bit range
(R85 to R87). -/
theorem computeTransit_spec (mode : RoundingMode) (c : BitVec 64) (x : Int) :
    (c = 0x7FFFFFFFFFFFFFFF → (computeTransit mode c x).held = c ∧ (computeTransit mode c x).flag = 0x0008) ∧
    (c ≠ 0x7FFFFFFFFFFFFFFF →
      (computeTransit mode c x).held.toInt = max (-9223372036854775808) (min 9223372036854775807 (roundSum mode x)) ∧
      (computeTransit mode c x).flag = if (computeTransit mode c x).held.toInt = roundSum mode x then 0 else 0x0004) := by
  refine ⟨fun h => ?_, fun h => ?_⟩
  · have hunknown : computeTransit mode c x = { held := transitUnknown, saturated := false, unknown := true } := if_pos h
    rw [hunknown, h]
    exact ⟨rfl, rfl⟩
  · have hcomputed : computeTransit mode c x =
        { held := BitVec.ofInt 64 (clampInt transitMin transitMax (roundSum mode x))
          saturated := saturates (roundSum mode x), unknown := false } := if_neg h
    rw [hcomputed]
    generalize roundSum mode x = y
    have hclamp : clampInt transitMin transitMax y = max (-9223372036854775808) (min 9223372036854775807 y) := by
      unfold clampInt transitMin transitMax
      split
      · omega
      · split <;> omega
    have hheld : (BitVec.ofInt 64 (clampInt transitMin transitMax y)).toInt =
        max (-9223372036854775808) (min 9223372036854775807 y) := by
      rw [hclamp, BitVec.toInt_ofInt, Int.bmod_def]
      omega
    refine ⟨hheld, ?_⟩
    have hsaturates : saturates y = true ↔ ¬ max (-9223372036854775808) (min 9223372036854775807 y) = y := by
      unfold saturates transitMin transitMax
      rw [decide_eq_true_iff]
      omega
    unfold Computed.flag
    dsimp only
    rw [hheld]
    by_cases hin : max (-9223372036854775808) (min 9223372036854775807 y) = y
    · rw [if_pos hin, Bool.eq_false_iff.2 fun h => hsaturates.1 h hin]
      rfl
    · rw [if_neg hin, hsaturates.2 hin]
      rfl

/-- The flag of a computation raised (R86, R87, R173). -/
theorem raiseComputed_eq {s : State} (hb : s.straps.bypass = false) (mode : RoundingMode) (c : BitVec 64) (x : Int) :
    raiseComputed (computeTransit mode c x) s = { s with
      report := { s.report with
        flags := s.report.flags ||| (computeTransit mode c x).flag
        queue := if (computeTransit mode c x).flag = 0 then s.report.queue else joinQueue s.report.queue .status } } := by
  have hone : (computeTransit mode c x).unknown = true → (computeTransit mode c x).saturated = false := by
    unfold computeTransit
    split
    · exact fun _ => rfl
    · exact fun h => absurd h Bool.false_ne_true
  unfold raiseComputed raiseIf Computed.flag
  cases hu : (computeTransit mode c x).unknown with
  | true =>
    rw [hone hu]
    exact raise_of_decoding hb _
  | false =>
    cases hs : (computeTransit mode c x).saturated with
    | true => exact raise_of_decoding hb _
    | false =>
      change s = { s with report := { s.report with flags := s.report.flags ||| 0 } }
      rw [show s.report.flags ||| 0 = s.report.flags from BitVec.or_zero]

/-- A slot PATCHED with a computation (R60). -/
theorem patchSlot_eq {s : State} (hb : s.straps.bypass = false) (e : Entry) (q : Port) (rawOut : Raw) (mode : RoundingMode)
    (c : BitVec 64) (x : Int) :
    patchSlot e q rawOut (computeTransit mode c x) s = { s with
      table := { s.table with
        entries := changeEntry e.order (fun y => y.setSlot q (.patched rawOut (computeTransit mode c x).held)) s.table.entries }
      report :=
        { s.report with
          ports := s.report.ports.set q { s.report.ports[q] with patched := s.report.ports[q].patched + 1 }
          flags := s.report.flags ||| (computeTransit mode c x).flag
          queue := if (computeTransit mode c x).flag = 0 then s.report.queue else joinQueue s.report.queue .status } } :=
  raiseComputed_eq (s := countPort q .patched (setSlot e.order q (.patched rawOut (computeTransit mode c x).held) s)) hb mode c x

end Sys2Proof.Machine
end

section
/-! The obligations about egress reads of cells (04 sections 4.3 and 4.4; 05; 06 section 6.2). -/

namespace Sys2Proof.Machine

/-! ## Transit words -/

/-- The state after an egress read of word `n` of cell `k` (R61, R88). -/
def readLeft (a : Access) (k : CellKey) (n : Nat) (q : Port) (s : State) : State :=
  { egressRead k n q s with
    ports := { memory := some (.read a.next), fabric := some (egressData k n q (s.memory.readWord a.next) (egressRead k n q s)) }
    arbiter := advanced a s }

/-- A read of a transit word settles the slot of the cell's live entry (R60). -/
theorem egressRead_transit {k : CellKey} {n : Nat} {q : Port} {s : State} {e : Entry} (hlive : findLive k s.table.entries = some e)
    (hn : n = e.header.h + 2 ∨ n = e.header.h + 3) : egressRead k n q s = settleSlot e q s := by
  have hpos : n ≠ 0 := by omega
  unfold egressRead
  rw [hlive]
  dsimp only
  rw [if_neg hpos, if_pos hn]

/-- A transit-word read that passes its slot returns memory's data (R60, R61). -/
theorem passedRead {s : State} {a : Access} {k : CellKey} {n : Nat} {q : Port} {e : Entry} {rawOut : Option Raw} {f : Flag}
    (hb : s.straps.bypass = false) (hlive : findLive k s.table.entries = some e) (hn : n = e.header.h + 2 ∨ n = e.header.h + 3)
    (hsettle : settleSlot e q s = passSlot e q rawOut f s) : PassedRead a e q rawOut f.bit s (readLeft a k n q s) := by
  have hread := (egressRead_transit (q := q) hlive hn).trans (hsettle.trans (passSlot_eq hb e q rawOut f))
  have hdata : egressData k n q (s.memory.readWord a.next) (egressRead k n q s) = s.memory.readWord a.next := by
    rw [hread]
    refine egressData_of_notPatched (findLive_setSlot hlive q (.passed rawOut)) (fun raw held h => ?_) _
    rw [setSlot_slots] at h
    cases h
  unfold readLeft
  rw [hdata, hread]

/-- A transit-word read that patches its slot returns a half of the held value (R60, R85 to R88). -/
theorem patchedRead {s : State} {a : Access} {k : CellKey} {n : Nat} {q : Port} {e : Entry} {rawOut : Raw} {c : BitVec 64} {x : Int}
    {delays : Vector PortDelay 6} (hb : s.straps.bypass = false) (hlive : findLive k s.table.entries = some e)
    (hn : n = e.header.h + 2 ∨ n = e.header.h + 3)
    (hsettle : settleSlot e q s = { patchSlot e q rawOut (computeTransit s.bank.rounding c x) s with delays := delays }) :
    PatchedRead a e q rawOut n c x delays s (readLeft a k n q s) := by
  obtain ⟨hunknown, hknown⟩ := computeTransit_spec s.bank.rounding c x
  rw [patchSlot_eq hb] at hsettle
  have hread := (egressRead_transit (q := q) hlive hn).trans hsettle
  generalize computeTransit s.bank.rounding c x = o at *
  have hdata : egressData k n q (s.memory.readWord a.next) (egressRead k n q s) =
      if n = e.header.h + 2 then highWord o.held else lowWord o.held := by
    rw [hread]
    refine (egressData_of_patched (findLive_setSlot hlive q (.patched rawOut o.held)) (setSlot_slots e q _) _).trans ?_
    change (if n = e.header.h + 2 then highWord o.held else if n = e.header.h + 3 then lowWord o.held else _) = _
    rcases hn with hn | hn
    · rw [if_pos hn, if_pos hn]
    · rw [if_neg (by omega), if_pos hn, if_neg (by omega)]
  refine ⟨o.held, o.flag, hunknown, hknown, ?_⟩
  unfold readLeft
  rw [hdata, hread]

/-- A transit-word read that patches its slot and no more (R60, R85 to R88). -/
theorem patchedRead_alone {s : State} {a : Access} {k : CellKey} {n : Nat} {q : Port} {e : Entry} {rawOut : Raw} {c : BitVec 64}
    {x : Int} (hb : s.straps.bypass = false) (hlive : findLive k s.table.entries = some e)
    (hn : n = e.header.h + 2 ∨ n = e.header.h + 3)
    (hsettle : settleSlot e q s = patchSlot e q rawOut (computeTransit s.bank.rounding c x) s) :
    PatchedRead a e q rawOut n c x s.delays s (readLeft a k n q s) :=
  patchedRead hb hlive hn (hsettle.trans (by rw [patchSlot_eq hb]))

/-- A responder record removed (R98). -/
theorem removeResponder_eq {q : Port} {s u : State} (h : u.delays = s.delays) (seq : BitVec 16) (i : Ident) :
    removeResponder q seq i u = { u with
      delays := s.delays.set q { s.delays[q] with
        responders := s.delays[q].responders.filter fun x => !(x.sequence == seq && x.source == i) } } := by
  unfold removeResponder setDelay
  rw [h]
  rfl

/-- A slot that is IDLE is passed (R60). -/
theorem settleSlot_idle {e : Entry} {q : Port} (hk : e.kind ≠ .probe) (hslot : e.slots[q] = .idle) (s : State) :
    settleSlot e q s = passSlot e q none .order s := by
  unfold settleSlot
  rw [if_neg hk, hslot]

/-- A slot that is TIMED is passed while its transit or its requester is not captured yet (R60). -/
theorem settleSlot_uncomputable {e : Entry} {q : Port} {raw : Raw} (hk : e.kind ≠ .probe) (hslot : e.slots[q] = .timed raw)
    (h : e.computable = none) (s : State) : settleSlot e q s = passSlot e q (some raw) .order s := by
  unfold settleSlot
  rw [if_neg hk, hslot]
  dsimp only
  rw [h]

/-- A slot that is TIMED is computed (R60). -/
theorem settleSlot_computable {e : Entry} {q : Port} {raw : Raw} {c : BitVec 64} (hk : e.kind ≠ .probe)
    (hslot : e.slots[q] = .timed raw) (h : e.computable = some c) (s : State) : settleSlot e q s = computeSlot e q raw c s := by
  unfold settleSlot
  rw [if_neg hk, hslot]
  dsimp only
  rw [h]

/-- The transit words of an entry cannot be computed (R60). -/
theorem computable_none {e : Entry} (h : e.cIn = none ∨ (e.kind = .echo ∧ e.requester = none)) : e.computable = none := by
  unfold Entry.computable
  split
  · rcases h with h | ⟨-, h⟩
    · rw [h]
      exact ite_self _
    · rw [h]
      rfl
  next hecho =>
    exact h.resolve_right fun hr => hecho hr.1

/-- The transit words of an entry can be computed (R60). -/
theorem computable_some {e : Entry} {c : BitVec 64} (h : e.cIn = some c) (hr : e.kind = .echo → e.requester.isSome = true) :
    e.computable = some c := by
  unfold Entry.computable
  split
  next hecho => rw [if_pos (hr hecho), h]
  next => exact h

/-- The sum held by the slot of a linked MARK (R64). -/
theorem linkedSum_some {e : Entry} {q : Port} {es : List Entry} {x : Int} :
    linkedSum e q es = some x ↔ ∃ o m r, e.link = .entry o ∧ findOrder o es = some m ∧ m.slots[q] = .summed r x := by
  unfold linkedSum
  cases hl : e.link with
  | entry o =>
    cases hf : findOrder o es with
    | none => simp [hf]
    | some m => cases hs : m.slots[q] <;> simp_all
  | absent => simp
  | ended => simp

/-- Settles O23: a transit-word read settles the slot by its state, its kind and what the table and the Delay Unit hold. -/
theorem transitReadSettlesSlot : Obligations.TransitReadSettlesSlot := by
  intro s a w q k n e hat hcell hlive hn
  have hb : s.straps.bypass = false := by
    obtain ⟨⟨_, _, _, hbypass, _⟩, _⟩ := hat
    exact hbypass
  have hpassed {rawOut : Option Raw} {f : Flag} (h : settleSlot e q s = passSlot e q rawOut f s) :
      PassedRead a e q rawOut f.bit s (readLeft a k n q s) := passedRead hb hlive hn h
  refine ⟨readLeft a k n q s, exec_cellWordRead hat hcell, fun hsettled hnot => ?_, fun hk hidle => hpassed (settleSlot_idle hk hidle s),
    fun raw htimed => ⟨fun hk hnone => ?_, fun c hc => ⟨fun hk sn hsn => ?_, fun hk => ?_, fun hk i hi => ?_⟩⟩⟩
  · have hsame : settleSlot e q s = s := by
      unfold settleSlot
      rcases hsettled with hk | ⟨raw, x, hs⟩ | ⟨raw, hs⟩
      · exact if_pos hk
      · rw [hs]
        exact ite_self _
      · rw [hs]
        exact ite_self _
    have hread := (egressRead_transit (q := q) hlive hn).trans hsame
    unfold readLeft
    rw [hread, egressData_of_notPatched hlive hnot]
  · exact hpassed (f := .order) (settleSlot_uncomputable hk htimed (computable_none hnone) s)
  · have hsettle := settleSlot_computable (by rw [hk]; decide) htimed (computable_some hc fun h => by rw [hk] at h; cases h) s
    have hsnap : e.snap = sn := by
      unfold Entry.snap
      rw [hsn]
      rfl
    refine ⟨_, rfl, fun hfollows => ?_, fun hfollows => ?_⟩
    · have hsummed : settleSlot e q s = setSlot e.order q (.summed raw
          (atRate (rawDiff raw e.rawIn) s.time.rho + (sn.latencyIn : Int) * 256 + (s.bank.ports[q].latencyOut : Int) * 256 +
            sn.asymmetry.toInt * 256 + sn.delay)) s := by
        rw [hsettle]
        unfold computeSlot
        simp only [hk, hfollows, if_true, hsnap]
        rfl
      have hread := (egressRead_transit (q := q) hlive hn).trans hsummed
      unfold readLeft
      rw [hread, egressData_of_notPatched (findLive_setSlot hlive q (.summed raw _)) (fun raw' held h => ?_)]
      · rfl
      · rw [setSlot_slots] at h
        cases h
    · refine patchedRead_alone hb hlive hn ?_
      rw [hsettle]
      unfold computeSlot
      simp only [hk, hfollows, Bool.false_eq_true, if_false, hsnap]
      rfl
  · have hsettle := settleSlot_computable (by rw [hk]; decide) htimed (computable_some hc fun h => by rw [hk] at h; cases h) s
    refine ⟨fun hnone => hpassed (f := .detailUnmatched) ?_, fun o m r x hlink hfound hsummed => patchedRead_alone hb hlive hn ?_⟩
    · have hsum : linkedSum e q s.table.entries = none := by
        refine Option.eq_none_iff_forall_ne_some.2 fun x hx => ?_
        obtain ⟨o, m, r, hlink, hfound, hsummed⟩ := linkedSum_some.1 hx
        exact hnone o m r x hlink hfound hsummed
      rw [hsettle]
      unfold computeSlot
      simp only [hk, hsum]
    · have hsum : linkedSum e q s.table.entries = some x := linkedSum_some.2 ⟨o, m, r, hlink, hfound, hsummed⟩
      rw [hsettle]
      unfold computeSlot
      simp only [hk, hsum]
      rfl
  · have hsettle := settleSlot_computable (by rw [hk]; decide) htimed (computable_some hc fun _ => by rw [hi]; rfl) s
    refine ⟨fun hnone => hpassed (f := .echoUnmatched) ?_, fun hdelays r hr hseq hsource => patchedRead hb hlive hn ?_⟩
    · have hfound : findResponder q e.sequence i s = none := List.find?_eq_none.2 fun r hr => by
        simpa [ResponderRecord.matches] using hnone r hr
      rw [hsettle]
      unfold computeSlot
      simp only [hk, hi, Option.getD_some, hfound]
    · have hfound : findResponder q e.sequence i s = some r := by
        refine find?_eq_of_unique hr (by simp [ResponderRecord.matches, hseq, hsource]) fun r' hr' hmatch => ?_
        simp only [ResponderRecord.matches, Bool.and_eq_true, beq_iff_eq] at hmatch
        exact responder_unique (hdelays q) hr' hr (hmatch.1.trans hseq.symm) (hmatch.2.trans hsource.symm)
      rw [hsettle]
      unfold computeSlot
      simp only [hk, hi, Option.getD_some, hfound]
      exact removeResponder_eq (patchSlot_delays _ _ _ _ _) _ _

/-! ## A one-step MARK -/

/-- The rounding of a sum by the four modes, for its floor and its rest (R85). -/
theorem roundSum_cases {S n r : Int} (hS : S = 256 * n + r) (hlow : 0 ≤ r) (hhigh : r ≤ 255) :
    roundSum .nearestEven S = (if r < 128 then n else if r = 128 then (if n % 2 = 0 then n else n + 1) else n + 1) ∧
    roundSum .towardZero S = (if r = 0 then n else if S < 0 then n + 1 else n) ∧
    roundSum .upward S = (if r = 0 then n else n + 1) ∧
    roundSum .downward S = n := by
  have hdiv : S / 256 = n := by omega
  have hmod : S % 256 = r := by omega
  unfold roundSum
  dsimp only
  rw [hdiv, hmod]
  refine ⟨?_, rfl, rfl, rfl⟩
  by_cases hhalf : r < 128
  · rw [if_pos hhalf, if_pos hhalf]
  · rw [if_neg hhalf, if_neg hhalf]
    by_cases hequal : r = 128
    · rw [if_pos hequal, if_neg (by omega)]
    · rw [if_neg hequal, if_pos (by omega)]

/-- Settles O22: the rounding by its modes, and the read of a one-step MARK as a computation. -/
theorem oneStepMarkIsPatched : Obligations.OneStepMarkIsPatched := by
  refine ⟨fun S n r => roundSum_cases, fun s a w q k n e raw c sn hat hcell hlive hn hk hfollows htimed hc hsn hknown => ?_⟩
  obtain ⟨t, hexec, -, -, hsettles⟩ := transitReadSettlesSlot s a w q k n e hat hcell hlive hn
  obtain ⟨x, hx, -, hpatched⟩ := ((hsettles raw htimed).2 c hc).1 hk sn hsn
  obtain ⟨held, flag, -, hcomputed, ht⟩ := hpatched hfollows
  obtain ⟨hheld, hflag⟩ := hcomputed hknown
  have hsum : c.toInt * 256 + x =
      c.toInt * 256 + atRate (rawDiff raw e.rawIn) s.time.rho + (sn.latencyIn : Int) * 256 +
        (s.bank.ports[q].latencyOut : Int) * 256 + sn.asymmetry.toInt * 256 + sn.delay := by
    rw [hx]
    ring
  rw [hsum] at hheld hflag
  generalize hy : roundSum s.bank.rounding _ = y at hheld hflag
  refine ⟨t, y, held, hexec, rfl, ?_, ?_, ?_, ?_, ?_, ?_⟩
  · rw [hheld]
    split
    · omega
    · split <;> omega
  · rw [ht]
  · rw [ht]
  · rw [ht]
    exact congrArg PortCounters.patched (Vector.getElem_set_self _)
  · rw [ht]
  · rw [ht]
    change s.report.flags ||| flag = _
    rw [hflag, hheld]
    by_cases hin : max (-9223372036854775808) (min 9223372036854775807 y) = y
    · rw [if_pos hin, if_neg (by omega)]
      exact BitVec.or_zero
    · rw [if_neg hin, if_pos (by omega)]

/-! ## Word 0 -/

/-- A read of word 0 times the slot of the cell's live entry (R59). -/
theorem egressRead_zero {k : CellKey} {q : Port} {s : State} {e : Entry} (hlive : findLive k s.table.entries = some e) :
    egressRead k 0 q s = timeSlot e q s := by
  unfold egressRead
  rw [hlive]
  rfl

/-- A read of a word that is neither word 0 nor a transit word leaves the entry (R58). -/
theorem egressRead_other {k : CellKey} {n : Nat} {q : Port} {s : State} {e : Entry} (hlive : findLive k s.table.entries = some e)
    (hzero : n ≠ 0) (hhigh : n ≠ e.header.h + 2) (hlow : n ≠ e.header.h + 3) : egressRead k n q s = s := by
  unfold egressRead
  rw [hlive]
  dsimp only
  rw [if_neg hzero, if_neg (by tauto)]

/-- A PROBE handed over to the Delay Unit enters the Probe List of a LINK port (R92 to R94). -/
theorem transmitHandoff_eq {s : State} (hb : s.straps.bypass = false) {q : Port} (hlink : s.bank.ports[q].delayMode = .link)
    (seq : BitVec 16) (t1 : Raw) :
    transmitHandoff q seq t1 s = { s with
      delays := s.delays.set q { s.delays[q] with probes := addProbe s.delays[q].probes { sequence := seq, t1 := t1 } }
      report :=
        if displacesProbe s.delays[q].probes seq = true then
          { s.report with flags := s.report.flags ||| 0x0040, queue := joinQueue s.report.queue .status }
        else s.report } := by
  unfold transmitHandoff
  rw [hlink]
  dsimp only
  unfold raiseIf
  split
  · exact raise_of_decoding (s := setDelay q _ s) hb .probeLost
  · rfl

/-- The state after an egress read moves the blocks that the Residence Table and the Delay Unit reach, and no other. -/
theorem readLeft_frame (a : Access) (k : CellKey) (n : Nat) (q : Port) (s : State) :
    readLeft a k n q s = { s with
      ports := { memory := some (.read a.next), fabric := (readLeft a k n q s).ports.fabric }, arbiter := advanced a s,
      table := (readLeft a k n q s).table, delays := (readLeft a k n q s).delays, report := (readLeft a k n q s).report } := by
  have hread := eq_of_outside (egressRead_outside k n q s) (egressRead_captures k n q s) (egressRead_monitor k n q s)
  rw [egressRead_decode, egressRead_candidates, egressRead_time, egressRead_disc, egressRead_pulses, egressRead_profiles] at hread
  exact congrArg (fun u : State => { u with
    ports := { memory := some (.read a.next)
               fabric := some (egressData k n q (s.memory.readWord a.next) (egressRead k n q s)) }
    arbiter := advanced a s }) hread

/-- A Probe List after a transmit hand-off, by what it held (R93). -/
theorem addProbe_cases (l : List ProbeRecord) (r : ProbeRecord) :
    ((∃ x ∈ l, x.sequence = r.sequence) → displacesProbe l r.sequence = false ∧
      addProbe l r = (l.filter fun x => x.sequence != r.sequence) ++ [r]) ∧
    ((∀ x ∈ l, x.sequence ≠ r.sequence) → l.length < 4 → displacesProbe l r.sequence = false ∧ addProbe l r = l ++ [r]) ∧
    ((∀ x ∈ l, x.sequence ≠ r.sequence) → 4 ≤ l.length → displacesProbe l r.sequence = true ∧ addProbe l r = l.drop 1 ++ [r]) := by
  have hany : l.any (·.sequence == r.sequence) = true ↔ ∃ x ∈ l, x.sequence = r.sequence := by simp
  have hnone (h : ∀ x ∈ l, x.sequence ≠ r.sequence) : l.any (·.sequence == r.sequence) = false :=
    Bool.eq_false_iff.2 fun ht => by
      obtain ⟨x, hx, hs⟩ := hany.1 ht
      exact h x hx hs
  unfold displacesProbe addProbe listCapacity
  refine ⟨fun h => ?_, fun h hl => ?_, fun h hl => ?_⟩
  · rw [hany.2 h]
    exact ⟨rfl, rfl⟩
  · rw [hnone h, decide_eq_false (Nat.not_le.2 hl)]
    exact ⟨rfl, if_pos hl⟩
  · rw [hnone h, decide_eq_true hl]
    exact ⟨rfl, if_neg (Nat.not_lt.2 hl)⟩

/-- Settles O21: word 0 times the slot, a PATCHED slot substitutes its transit words, and the other words are memory's. -/
theorem cellReadTimesAndSubstitutes : Obligations.CellReadTimesAndSubstitutes := by
  intro s a w q k n hat hcell
  have hb : s.straps.bypass = false := by
    obtain ⟨⟨_, _, _, hbypass, _⟩, _⟩ := hat
    exact hbypass
  refine ⟨readLeft a k n q s, exec_cellWordRead hat hcell, readLeft_frame a k n q s, fun hnone => ?_,
    fun e hlive => ⟨fun hzero => ?_, fun raw held hpatched => ?_, fun hzero hhigh hlow => ?_⟩⟩
  · have hread : egressRead k n q s = s := by
      unfold egressRead
      rw [hnone]
    have hdata (d : Word) : egressData k n q d s = d := by
      unfold egressData
      rw [hnone]
    unfold readLeft
    rw [hread, hdata]
    exact ⟨rfl, rfl, rfl, rfl⟩
  · subst hzero
    have hread := egressRead_zero (q := q) hlive
    have htable : (timeSlot e q s).table =
        { s.table with entries := changeEntry e.order (fun x => x.setSlot q (.timed s.time.raw)) s.table.entries } := by
      unfold timeSlot
      dsimp only
      split
      · exact transmitHandoff_table _ _ _ _
      · rfl
    have hdata (d : Word) : egressData k 0 q d (timeSlot e q s) = d := by
      refine egressData_of_notPatched (e := e.setSlot q (.timed s.time.raw)) ?_ (fun raw held h => ?_) d
      · rw [htable]
        exact findLive_setSlot hlive q _
      · rw [setSlot_slots] at h
        cases h
    unfold readLeft
    rw [hread, hdata]
    refine ⟨rfl, htable, fun hquiet => ?_, fun hk hlink => ?_⟩
    · have hnoProbe : (timeSlot e q s).delays = s.delays ∧ (timeSlot e q s).report = s.report := by
        unfold timeSlot
        dsimp only
        split
        next hk =>
          have hmode : (setSlot e.order q (.timed s.time.raw) s).bank.ports[q].delayMode = .none :=
            hquiet.resolve_left (not_not.2 hk)
          unfold transmitHandoff
          rw [hmode]
          exact ⟨rfl, rfl⟩
        next => exact ⟨rfl, rfl⟩
      exact hnoProbe
    · have hhanded : timeSlot e q s = transmitHandoff q e.sequence s.time.raw (setSlot e.order q (.timed s.time.raw) s) := if_pos hk
      rw [hhanded, transmitHandoff_eq (s := setSlot e.order q (.timed s.time.raw) s) hb hlink]
      have hget : (s.delays.set q { s.delays[q] with
          probes := addProbe s.delays[q].probes { sequence := e.sequence, t1 := s.time.raw } })[q].probes =
          addProbe s.delays[q].probes { sequence := e.sequence, t1 := s.time.raw } :=
        congrArg PortDelay.probes (Vector.getElem_set_self _)
      obtain ⟨hsame, hroom, hfull⟩ := addProbe_cases s.delays[q].probes { sequence := e.sequence, t1 := s.time.raw }
      dsimp only
      rw [show (setSlot e.order q (.timed s.time.raw) s).delays = s.delays from rfl, hget]
      refine ⟨rfl, fun h => ?_, fun h hl => ?_, fun h hl => ?_⟩
      · obtain ⟨hkeeps, hadds⟩ := hsame h
        rw [hkeeps]
        exact ⟨rfl, hadds⟩
      · obtain ⟨hkeeps, hadds⟩ := hroom h hl
        rw [hkeeps]
        exact ⟨rfl, hadds⟩
      · obtain ⟨hdrops, hadds⟩ := hfull h hl
        rw [hdrops]
        exact ⟨hadds, rfl⟩
  · have hsettled (hn : n = e.header.h + 2 ∨ n = e.header.h + 3) : egressRead k n q s = s := by
      rw [egressRead_transit hlive hn]
      unfold settleSlot
      rw [hpatched]
      exact ite_self _
    refine ⟨fun hn => ?_, fun hn => ?_⟩
    · unfold readLeft
      rw [hsettled (.inl hn), egressData_of_patched hlive hpatched, if_pos hn]
      exact ⟨rfl, rfl, rfl, rfl⟩
    · unfold readLeft
      rw [hsettled (.inr hn), egressData_of_patched hlive hpatched, if_neg (by omega), if_pos hn]
      exact ⟨rfl, rfl, rfl, rfl⟩
  · have hdata : egressData k n q (s.memory.readWord a.next) s = s.memory.readWord a.next := by
      unfold egressData
      rw [hlive]
      dsimp only
      split
      · rw [if_neg hhigh, if_neg hlow]
      · rfl
    unfold readLeft
    rw [egressRead_other hlive hzero hhigh hlow, hdata]
    exact ⟨rfl, rfl, rfl, rfl⟩

end Sys2Proof.Machine
end

section
/-! Cell writes (02 section 2.4; 04 sections 4.2 and 4.5): the rewrite of word 0 and the capture mirror. -/

namespace Sys2Proof.Machine

/-! ## The write -/

/-- A cell write with an enable set: its word passes, and the Residence Table and the Frame Recognizer act (R5). -/
theorem exec_cellWordWrite {s : State} {a : Access} {w : Fin 4} {en : Enables} {k : CellKey} {n : Nat} (hat : AtCellWrite s a w)
    (hen : en ≠ 0) (hcell : cellOf s a.next.toNat w = (k, n)) (data : Word) :
    exec (.cellWordWrite en data) s = .next (cellWrite k n (laneClass a.lane) en data (written a en data s)) := by
  have hroute := route_of_atCellWrite hat hen
  rw [hcell] at hroute
  change execCellWordWrite en data s = _
  unfold execCellWordWrite
  simp only [hroute]
  rw [passWrite_eq hat.1.1]

/-- A captured word after a write, told by its octets (R28, R56). -/
theorem captures_iff {en : Enables} {data : Word} {old new : CapturedWord} :
    Captures en data old new ↔ new = old.capture en data := by
  constructor
  · rintro ⟨hpresent, hdata⟩
    have hword : new.data = mergeWord old.data data en :=
      BitVec.eq_of_getLsbD_eq fun i hi => (hdata i hi).trans (getLsbD_mergeWord _ _ _ hi).symm
    unfold CapturedWord.capture
    rw [← hpresent, ← hword]
  · rintro rfl
    exact ⟨rfl, fun i hi => getLsbD_mergeWord _ _ _ hi⟩

/-! ## The capture mirror -/

/-- The header copy of an entry after a write, told by its octets (R56). -/
theorem headerMirrors_iff {n : Nat} {en : Enables} {data : Word} {e f : Entry} :
    HeaderMirrors n en data e f ↔ f = e.mirror n en data := by
  have hmirror (i : Fin 8) : (e.mirror n en data).copy[i] =
      if n = e.header.h + 2 + i.val then e.copy[i].capture en data else e.copy[i] := by
    have hi := i.isLt
    unfold Entry.mirror
    split
    next hn =>
      dsimp only
      rw [show ((e.copy.set (n - e.header.h - 2) (e.copy[n - e.header.h - 2].capture en data))[i]) =
        (e.copy.set (n - e.header.h - 2) (e.copy[n - e.header.h - 2].capture en data))[i.val] from rfl, Vector.getElem_set]
      by_cases hw : n = e.header.h + 2 + i.val
      · have hindex : n - e.header.h - 2 = i.val := by omega
        rw [if_pos hindex, if_pos hw]
        simp only [hindex]
        rfl
      · rw [if_neg (by omega), if_neg hw]
        rfl
    next hn => rw [if_neg (by omega)]
  have hframe : e.mirror n en data = { e with copy := (e.mirror n en data).copy } := by
    unfold Entry.mirror
    split <;> rfl
  constructor
  · rintro ⟨hf, hcopy⟩
    have hsame : f.copy = (e.mirror n en data).copy := by
      refine Vector.ext fun i hi => ?_
      have hone := hcopy ⟨i, hi⟩
      have hother := hmirror ⟨i, hi⟩
      by_cases hw : n = e.header.h + 2 + i
      · rw [if_pos hw] at hone hother
        exact (captures_iff.1 hone).trans hother.symm
      · rw [if_neg hw] at hone hother
        exact hone.trans hother.symm
    rw [hf, hframe, hsame]
  · rintro rfl
    refine ⟨hframe, fun i => ?_⟩
    rw [hmirror i]
    split
    · exact captures_iff.2 rfl
    · rfl

/-- The first `j` words of a header copy, told by their places. -/
theorem forall_mem_take_toList {v : Vector CapturedWord 8} {j : Nat} {P : CapturedWord → Prop} :
    (∀ c ∈ v.toList.take j, P c) ↔ ∀ i : Fin 8, i.val < j → P v[i] := by
  constructor
  · intro h i hi
    refine h _ (List.mem_take_iff_getElem.2 ⟨i.val, ?_, Vector.getElem_toList _⟩)
    have hlt := i.isLt
    rw [Vector.length_toList]
    omega
  · intro h c hc
    obtain ⟨i, hi, rfl⟩ := List.mem_take_iff_getElem.1 hc
    rw [Vector.length_toList] at hi
    rw [Vector.getElem_toList]
    exact h ⟨i, by omega⟩ (by dsimp only; omega)

/-- The words an entry needs to complete are present (R57). -/
theorem copyComplete_iff {e : Entry} : e.copyComplete = true ↔ WordsPresent e := by
  have hall (l : List CapturedWord) : l.all (·.isPresent) = true ↔ ∀ c ∈ l, c.present = 0b1111 := by
    simp [CapturedWord.isPresent]
  unfold Entry.copyComplete WordsPresent
  cases e.kind with
  | probe => simp
  | echo =>
    refine (hall _).trans ?_
    have height := forall_mem_take_toList (v := e.copy) (j := 8) (P := fun c => c.present = 0b1111)
    rw [List.take_of_length_le (by rw [Vector.length_toList])] at height
    exact height.trans ⟨fun h i => h i i.isLt, fun h i _ => h i⟩
  | mark => exact (hall _).trans forall_mem_take_toList
  | detail => exact (hall _).trans forall_mem_take_toList

/-- What looking at an entry for completion makes of the entries (R57, R65). -/
theorem completedInto_completeEntry {es : List Entry} (horder : InOrder es) {e : Entry} (he : e ∈ es) :
    CompletedInto e es (completeEntry e.order es) := by
  refine ⟨fun h => completeEntry_waits horder he (h.imp_right fun hw => Bool.eq_false_iff.2 fun hc => hw (copyComplete_iff.1 hc)),
    fun hs hw => ⟨fun hk => completeEntry_unlinked horder he hs (copyComplete_iff.2 hw) hk, fun hk m hm hq hy => ?_⟩⟩
  exact completeEntry_linked horder he hs (copyComplete_iff.2 hw) hk hm hq hy

/-- A write of a cell word other than word 0 reaches the live entry of its cell (R56, R57). -/
theorem mirroredFrom_mirrorWrite {s : State} (htable : TableInv s) (k : CellKey) (n : Nat) (en : Enables) (data : Word) :
    MirroredFrom k n en data s (mirrorWrite k n en data s) := by
  refine ⟨?_, fun hnone => ?_, fun e f hlive hmirrors => ?_⟩
  · unfold mirrorWrite
    split <;> rfl
  · unfold mirrorWrite
    rw [hnone]
  · obtain rfl := headerMirrors_iff.1 hmirrors
    obtain ⟨he, -, -⟩ := findLive_some hlive
    have horder : InOrder s.table.entries := htable.2.1
    have hsame : changeEntry e.order (·.mirror n en data) s.table.entries =
        changeEntry e.order (fun _ => e.mirror n en data) s.table.entries :=
      List.map_congr_left fun x hx => by
        split
        next ho => rw [InOrder.inj horder hx he ho]
        next => rfl
    have horderOf (x : Entry) : (x.mirror n en data).order = x.order := by
      unfold Entry.mirror
      split <;> rfl
    have hentries : (mirrorWrite k n en data s).table.entries =
        completeEntry (e.mirror n en data).order (changeEntry e.order (fun _ => e.mirror n en data) s.table.entries) := by
      unfold mirrorWrite
      rw [hlive, ← hsame, horderOf]
      rfl
    rw [hentries]
    refine completedInto_completeEntry ?_ (mem_changeEntry.2 ⟨e, he, if_pos rfl⟩)
    rw [← hsame]
    exact InOrder.of_orders horder (by rw [changeEntry_orders (f := (·.mirror n en data)) _ horderOf])

/-- A write that the candidate of a lane does not capture (R28, R29): none is open on the cell, or the word lies past word 14. -/
theorem captureWrite_quiet {k : CellKey} {n : Nat} {s : State} {j : Fin 7} (hquiet : 14 < n ∨ ∀ c ∈ s.candidates[j], c.key ≠ k)
    (en : Enables) (data : Word) : captureWrite k n en data s j = s := by
  unfold captureWrite
  split
  · rfl
  next c hc =>
    refine dif_neg fun h => ?_
    rcases hquiet with hlarge | hnone
    · omega
    · exact hnone c hc h.1

/-- A write that no candidate captures. -/
theorem foldl_captureWrite_quiet {k : CellKey} {n : Nat} {s : State} (en : Enables) (data : Word) {ls : List (Fin 7)}
    (hquiet : ∀ j ∈ ls, 14 < n ∨ ∀ c ∈ s.candidates[j], c.key ≠ k) : ls.foldl (captureWrite k n en data) s = s := by
  induction ls with
  | nil => rfl
  | cons j ls ih =>
    rw [List.foldl_cons, captureWrite_quiet (hquiet j List.mem_cons_self)]
    exact ih fun i hi => hquiet i (List.mem_cons_of_mem _ hi)

/-- Settles O17: no candidate takes the write, and the Residence Table mirrors it. -/
theorem cellWriteMirrorsHeader : Obligations.CellWriteMirrorsHeader := by
  intro s a w en data k n hat hen hcell hn htable hnone
  refine ⟨_, exec_cellWordWrite hat hen hcell data, ?_⟩
  have hquiet (j : Fin 7) :
      14 < n ∨ ∀ c ∈ (mirrorWrite k n en data (written a en data s)).candidates[j], c.key ≠ k := by
    rw [mirrorWrite_candidates]
    exact hnone.imp_right fun h => h j
  unfold cellWrite
  rw [if_neg hn, foldl_captureWrite_quiet en data fun j _ => hquiet j]
  exact mirroredFrom_mirrorWrite (s := written a en data s) htable k n en data

end Sys2Proof.Machine
end

section
/-! The rewrite of word 0 of a cell (02 section 2.4 Candidates; 04 section 4.5 Retirement). -/

namespace Sys2Proof.Machine

/-! ## The Residence Table -/

/-- A cell with no live entry is rewritten with no effect on the table. -/
theorem rewriteCell_none {k : CellKey} {s : State} (hnone : findLive k s.table.entries = none) : rewriteCell k s = s := by
  unfold rewriteCell
  rw [hnone]

/-- The rewrite of a cell with a live entry: the entry detaches or ends, and is counted (R68). -/
theorem rewriteCell_live {k : CellKey} {s : State} (htable : TableInv s) {e : Entry} (hlive : findLive k s.table.entries = some e) :
    ∃ es, Rewritten e s.table.entries es ∧
      es = (if e.detaches then changeEntry e.order (fun x => { x with state := .detached }) s.table.entries
        else retireEntry e.order s.table.entries) ∧
      rewriteCell k s =
        { s with
          table := { s.table with entries := es }
          report := { s.report with globals := { s.report.globals with rewrites := s.report.globals.rewrites + 1 } } } := by
  obtain ⟨he, -, -⟩ := findLive_some hlive
  refine ⟨_, ?_, rfl, ?_⟩
  · have hdetaches : e.detaches = true ↔
        e.state = .complete ∧ e.kind = .mark ∧ e.detailFollows = true ∧ e.link ≠ .ended := by
      simp [Entry.detaches, and_assoc]
    refine ⟨fun h => if_pos (hdetaches.2 h), fun h => ?_⟩
    rw [if_neg fun hd => h (hdetaches.1 hd)]
    exact entryEnds_retireEntry htable.2.1 he
  · unfold rewriteCell
    rw [hlive]
    rfl

/-- A cell has one live entry (R54). -/
theorem live_unique {s : State} (hcell : CellInv s) {e f : Entry} (he : e ∈ s.table.entries) (hf : f ∈ s.table.entries)
    (helive : e.live = true) (hflive : f.live = true) (hkey : e.key = f.key) : e = f := by
  by_contra hne
  have hsymm : Std.Symm fun e f : Entry => ¬ (e.live = true ∧ f.live = true ∧ e.key = f.key) :=
    ⟨fun _ _ h ⟨hf, he, hk⟩ => h ⟨he, hf, hk.symm⟩⟩
  exact hcell.1.forall he hf hne ⟨helive, hflive, hkey⟩

/-- After a rewrite of its live entry a cell has none (R68). -/
theorem key_ne_of_mem_rewritten {k : CellKey} {s : State} (hcell : CellInv s) {e : Entry}
    (hlive : findLive k s.table.entries = some e) {f : Entry}
    (hf : f ∈ if e.detaches then changeEntry e.order (fun x => { x with state := .detached }) s.table.entries
      else retireEntry e.order s.table.entries) (hflive : f.live = true) : f.key ≠ k := by
  obtain ⟨he, helive, hekey⟩ := findLive_some hlive
  have hother {x : Entry} (hx : x ∈ s.table.entries) (hxlive : x.live = true) (ho : x.order ≠ e.order) : x.key ≠ k := by
    intro hkey
    have hne : x ≠ e := fun h => ho (h ▸ rfl)
    exact hne (live_unique hcell hx he hxlive helive (hkey.trans hekey.symm))
  split at hf
  · obtain ⟨x, hx, rfl⟩ := mem_changeEntry.1 hf
    split
    next ho =>
      rw [if_pos ho] at hflive
      cases hflive
    next ho =>
      rw [if_neg ho] at hflive
      exact hother hx hflive ho
  · obtain ⟨x, hx, hfx, -⟩ := mem_retireEntry hf
    have ho := order_ne_of_mem_retireEntry hf
    have hxo : x.order = f.order := by rw [hfx]
    have hxlive : x.live = f.live := by rw [hfx]; rfl
    have hxkey : x.key = f.key := by rw [hfx]
    exact hxkey ▸ hother hx (hxlive.trans hflive) (hxo ▸ ho)

/-! ## The candidates -/

/-- A table by candidate lane, at a lane. -/
theorem tab7_get {α : Type} (f : Fin 7 → α) (n : Fin 7) : (tab7 f)[n] = f n := by
  match n with
  | 0 | 1 | 2 | 3 | 4 | 5 | 6 => rfl

/-- The candidate of a writing lane is that of its code (R5). -/
theorem candidate_laneClass {lane : BitVec 4} {n : Fin 7} : (laneClass lane).candidate = some n ↔ lane.toNat = n.val := by
  have hn := n.isLt
  simp only [laneClass]
  split
  next h0 =>
    simp only [LaneClass.candidate, Option.some.injEq, Fin.ext_iff]
    omega
  next h0 =>
    split
    next h6 =>
      simp only [LaneClass.candidate, Origin.index, Option.some.injEq, Fin.ext_iff]
      omega
    next h6 =>
      have hno : lane.toNat ≠ n.val := by omega
      split <;> simp [LaneClass.candidate, hno]

/-- A window tracks the lane of a candidate by the item of its lane (R5, R10). -/
theorem tracks_of_candidate {l : LaneClass} {n : Fin 7} (hl : l.candidate = some n) (w : PoolWindow) :
    tracks w l = if n = 0 then w.processorTracking else w.ingressTracking := by
  cases l with
  | processor =>
    obtain rfl := Option.some.inj hl
    rfl
  | ingress p =>
    obtain rfl := Option.some.inj hl
    rfl
  | egress q => cases hl
  | other => cases hl

/-- The candidate that a tracked word-0 write opens (R27). -/
theorem openedBy_openedCandidate (k : CellKey) (en : Enables) (data : Word) (raw : Raw) :
    OpenedBy k en data raw (openedCandidate k en data raw) := by
  refine ⟨rfl, rfl, rfl, rfl, fun i => ?_⟩
  split
  next h0 =>
    subst h0
    obtain ⟨hpresent, hdata⟩ := captures_iff.2 (rfl : CapturedWord.empty.capture en data = CapturedWord.empty.capture en data)
    refine ⟨hpresent.trans (BitVec.zero_or), fun b hb => (hdata b hb).trans ?_⟩
    cases en.getLsbD (b / 8) <;> simp [CapturedWord.empty]
  next h0 =>
    have hi : i.val ≠ 0 := fun h => h0 (Fin.ext h)
    exact (Vector.getElem_set_ne (by decide) i.isLt hi.symm).trans (Vector.getElem_replicate i.isLt)

/-- The Frame Recognizer at a word-0 write touches the candidates alone. -/
theorem openWrite_frame (k : CellKey) (l : LaneClass) (en : Enables) (data : Word) (s : State) :
    openWrite k l en data s = { s with candidates := (openWrite k l en data s).candidates } := by
  unfold openWrite
  dsimp only
  split
  · rfl
  · split <;> rfl

/-- The candidates after a word-0 write of a lane that is not a candidate's own (R29). -/
theorem openWrite_other {k : CellKey} {l : LaneClass} {n : Fin 7} (hl : l.candidate ≠ some n) (en : Enables) (data : Word)
    (s : State) : (openWrite k l en data s).candidates[n] = s.candidates[n].filter fun c => c.key != k := by
  have hdropped : (dropOthers k l.candidate s).candidates[n] = s.candidates[n].filter fun c => c.key != k := by
    refine (tab7_get _ n).trans ?_
    congr 1
    funext c
    simp [bne, hl]
  unfold openWrite
  dsimp only
  split
  · exact hdropped
  next m hm =>
    split
    · have hne : m.val ≠ n.val := fun h => hl (hm.trans (congrArg some (Fin.ext h)))
      exact (Vector.getElem_set_ne m.isLt n.isLt hne).trans hdropped
    · exact hdropped

/-- The candidate of the lane of a word-0 write: opened where the window tracks the lane, otherwise as it was (R27). -/
theorem openWrite_own {k : CellKey} {l : LaneClass} {n : Fin 7} (hl : l.candidate = some n) (en : Enables) (data : Word)
    (s : State) :
    (openWrite k l en data s).candidates[n] =
      if tracks s.decode.pool[k.window] l then some (openedCandidate k en data s.time.raw) else s.candidates[n] := by
  have hkept : (dropOthers k l.candidate s).candidates[n] = s.candidates[n] := by
    refine (tab7_get _ n).trans ?_
    cases s.candidates[n] <;> simp [hl]
  unfold openWrite
  dsimp only
  split
  next hnone => rw [hl] at hnone; cases hnone
  next m hm =>
    obtain rfl : n = m := Option.some.inj (hl.symm.trans hm)
    change (if tracks s.decode.pool[k.window] l then _ else _ : State).candidates[n] = _
    split
    · exact Vector.getElem_set_self _
    · exact hkept

/-- Settles O16: the Residence Table ends or detaches the entry, then the Frame Recognizer drops and opens candidates. -/
theorem cellRewriteOpensCandidate : Obligations.CellRewriteOpensCandidate := by
  intro s a w en data k hat hen hcellOf hcell htable
  refine ⟨_, exec_cellWordWrite hat hen hcellOf data, ?_⟩
  obtain rfl : k.window = w := (congrArg (fun x => x.1.window) hcellOf).symm
  have hopen : cellWrite k 0 (laneClass a.lane) en data (written a en data s) =
      openWrite k (laneClass a.lane) en data (rewriteCell k (written a en data s)) := if_pos rfl
  obtain ⟨v, hv, hframe, hgone, hlive, hnone⟩ : ∃ v, rewriteCell k (written a en data s) = v ∧
      v = { written a en data s with table := { s.table with entries := v.table.entries }, report := v.report } ∧
      (∀ e ∈ v.table.entries, e.live = true → e.key ≠ k) ∧
      (∀ e ∈ s.table.entries, e.live = true → e.key = k →
        v.report = { s.report with globals := { s.report.globals with rewrites := s.report.globals.rewrites + 1 } } ∧
        Rewritten e s.table.entries v.table.entries ∧
        ∀ f ∈ s.table.entries, f.order ≠ e.order → e.link ≠ .entry f.order → f ∈ v.table.entries) ∧
      ((∀ e ∈ s.table.entries, e.live = true → e.key ≠ k) → v.report = s.report ∧ v.table = s.table) := by
    refine ⟨_, rfl, ?_⟩
    cases hfound : findLive k s.table.entries with
    | none =>
      have hnone := findLive_none.1 hfound
      rw [rewriteCell_none (s := written a en data s) hfound]
      exact ⟨rfl, hnone, fun e he hl hk => absurd hk (hnone e he hl), fun _ => ⟨rfl, rfl⟩⟩
    | some e =>
      obtain ⟨he, helive, hekey⟩ := findLive_some hfound
      obtain ⟨es, hrewritten, hes, heq⟩ := rewriteCell_live (s := written a en data s) htable hfound
      rw [heq]
      refine ⟨rfl, fun f hf hl => key_ne_of_mem_rewritten hcell hfound (hes ▸ hf) hl, fun x hx hxl hxk => ?_,
        fun h => absurd hekey (h e he helive)⟩
      obtain rfl := live_unique hcell hx he hxl helive (hxk.trans hekey.symm)
      refine ⟨rfl, hrewritten, fun f hf ho hlink => ?_⟩
      change f ∈ es
      rw [hes]
      split
      · exact mem_changeEntry.2 ⟨f, hf, by rw [if_neg ho]⟩
      · exact mem_retireEntry_of_unlinked htable.2.1 hx hf ho hlink
  rw [hopen, hv, openWrite_frame]
  refine ⟨?_, hgone, ?_, hlive, hnone, fun n => ⟨fun hn => ?_, fun hn => ?_⟩⟩
  · rw [hframe]
  · rw [hframe]
  · refine (openWrite_other (fun h => hn (candidate_laneClass.1 h)) en data v).trans ?_
    rw [hframe]
    rfl
  · have hl := candidate_laneClass.2 hn
    have hown := openWrite_own (k := k) hl en data v
    have hdecode : v.decode = s.decode := by
      rw [← hv]
      exact rewriteCell_decode k (written a en data s)
    have hcandidates : v.candidates = s.candidates := by
      rw [← hv]
      exact rewriteCell_candidates k (written a en data s)
    have htime : v.time = s.time := by
      rw [← hv]
      exact rewriteCell_time k (written a en data s)
    rw [tracks_of_candidate hl, hdecode, hcandidates, htime] at hown
    by_cases ht : (if n = 0 then s.decode.pool[k.window].processorTracking else s.decode.pool[k.window].ingressTracking) = true
    · rw [if_pos ht]
      exact ⟨_, hown.trans (if_pos ht), openedBy_openedCandidate k en data s.time.raw⟩
    · rw [if_neg ht]
      exact hown.trans (if_neg ht)

end Sys2Proof.Machine
end

section
/-! Writes to the cell of an open candidate (02 sections 2.4 to 2.6): which candidate captures them, and the decisions up to
allocation. -/

namespace Sys2Proof.Machine

/-! ## One candidate alone takes a write of its cell -/

/-- Of the candidates of lanes other than `m`, state `t` has only what `s` has. -/
def OthersShrink (m : Fin 7) (s t : State) : Prop := ∀ j, j ≠ m → ∀ c ∈ t.candidates[j], c ∈ s.candidates[j]

theorem OthersShrink.of_candidates {m : Fin 7} {s t : State} (h : t.candidates = s.candidates) : OthersShrink m s t := by
  intro j _ c hc
  rwa [h] at hc

theorem OthersShrink.trans {m : Fin 7} {s t u : State} (h : OthersShrink m s t) (hu : OthersShrink m t u) :
    OthersShrink m s u := fun j hj c hc => h j hj c (hu j hj c hc)

theorem OthersShrink.setCandidate {m : Fin 7} {s t : State} (h : OthersShrink m s t) (x : Option Candidate) :
    OthersShrink m s (setCandidate m x t) := by
  intro j hj c hc
  have hne : m.val ≠ j.val := fun h => hj (Fin.ext h.symm)
  refine h j hj c ?_
  rwa [show (Machine.setCandidate m x t).candidates[j] = t.candidates[j] from
    Vector.getElem_set_ne m.isLt j.isLt hne] at hc

/-- A decode change drops candidates and opens none (R17). -/
theorem othersShrink_decodeChange (m : Fin 7) (s : State) : OthersShrink m s (decodeChange s) := by
  rcases Bool.eq_false_or_eq_true (accessInProgress s) with hbusy | hfree
  · exact .of_candidates (by rw [decodeChange_busy hbusy])
  · intro j _ c hc
    rw [decodeChange_free hfree] at hc
    dsimp only at hc
    rw [tab7_get] at hc
    exact (Option.mem_filter_iff.1 hc).1

/-- An act that writes to no cell opens no candidate. -/
theorem Act.othersShrink {w : Powers} (hquiet : ¬ w.writes) (m : Fin 7) {s t : State} (h : Act w s t) : OthersShrink m s t := by
  cases h with
  | frames allowed => exact absurd allowed hquiet
  | decodeChange => exact othersShrink_decodeChange m s
  | exchange =>
    have hchanged := othersShrink_decodeChange m (exchangeBanks s)
    refine (OthersShrink.of_candidates (exchangeBanks_candidates s)).trans (hchanged.trans (.of_candidates ?_))
    simp only [swapPulses_candidates, clampRates_candidates, swapDelays_candidates]
  | dropCandidates =>
    intro j _ c hc
    have hnone : (Machine.dropCandidates s).candidates[j] = none := tab7_get _ j
    rw [hnone] at hc
    cases hc
  | stage p => exact .of_candidates rfl
  | _ => exact .of_candidates (by simp)

/-- The hand-offs of a completion open no candidate. -/
theorem othersShrink_completionHandoffs (m : Fin 7) (o : Origin) (x : FrameKind) (c : Candidate) (h : Nat) (s : State) :
    OthersShrink m s (completionHandoffs o x c h s) := by
  have hwork : Work ⟨False, True, False⟩ s (completionHandoffs o x c h s) := work_completionHandoffs s trivial o x c h
  exact hwork.keeps (I := OthersShrink m s) (fun ha hs => hs.trans (ha.othersShrink id m)) (.of_candidates rfl)

/-- The decisions on the candidate of a lane open no candidate of another. -/
theorem othersShrink_takeDecisions (m : Fin 7) (c : Candidate) (s : State) : OthersShrink m s (takeDecisions m c s) := by
  have hself (u : State) : OthersShrink m u u := .of_candidates rfl
  have htype (u : State) (d : Candidate) : OthersShrink m u (decideType m d u).1 := by
    unfold decideType
    split
    · exact hself u
    · split
      · exact hself u
      · exact (hself u).setCandidate _
      · exact (hself u).setCandidate _
  have hallocation (u : State) (d : Candidate) : OthersShrink m u (decideAllocation m d u).1 := by
    unfold decideAllocation
    split
    · exact hself u
    · dsimp only
      split
      · exact hself u
      · split
        · exact ((hself u).setCandidate none).trans (.of_candidates (count_candidates _ _))
        · split
          · exact (hself u).setCandidate _
          · split
            · exact (hself u).setCandidate _
            · exact (hself u).setCandidate _
            · exact ((hself u).setCandidate _).trans (.of_candidates (allocate_candidates _ _))
  have hcompletion (u : State) (d : Candidate) : OthersShrink m u (decideCompletion m d u) := by
    unfold decideCompletion
    split
    · dsimp only
      split
      · exact hself u
      · split
        · exact ((hself u).setCandidate none).trans (othersShrink_completionHandoffs m _ _ _ _ _)
        · exact hself u
    · exact hself u
  have hone := htype s c
  unfold takeDecisions
  split
  next ht =>
    rw [ht] at hone
    exact hone
  next u d ht =>
    rw [ht] at hone
    have htwo := hone.trans (hallocation u d)
    split
    next ha =>
      rw [ha] at htwo
      exact htwo
    next v e ha =>
      rw [ha] at htwo
      exact htwo.trans (hcompletion v e)

/-- A write that a candidate captures opens no candidate of another lane. -/
theorem othersShrink_captureWrite (k : CellKey) (n : Nat) (en : Enables) (data : Word) (s : State) (m : Fin 7) :
    OthersShrink m s (captureWrite k n en data s m) := by
  have hself : OthersShrink m s s := .of_candidates rfl
  unfold captureWrite
  split
  · exact hself
  · split
    · exact (hself.setCandidate _).trans (othersShrink_takeDecisions m _ _)
    · exact hself

/-- Where one lane alone has its candidate on the cell of a write, it alone takes the write (R28, R29). -/
theorem foldl_captureWrite_one {k : CellKey} {n : Nat} {s : State} {m : Fin 7} (hothers : ∀ j, j ≠ m → ∀ c ∈ s.candidates[j], c.key ≠ k)
    (en : Enables) (data : Word) : allLanes.foldl (captureWrite k n en data) s = captureWrite k n en data s m := by
  have hmem : ∀ j : Fin 7, j ∈ allLanes := by decide
  have hnodup : allLanes.Nodup := by decide
  obtain ⟨before, after, hlanes⟩ := List.append_of_mem (hmem m)
  rw [hlanes] at hnodup ⊢
  obtain ⟨-, hafter, hdisjoint⟩ := List.nodup_append.1 hnodup
  have hbeforeNe : ∀ j ∈ before, j ≠ m := fun j hj => hdisjoint j hj m List.mem_cons_self
  have hafterNe : ∀ j ∈ after, j ≠ m := fun j hj h => (List.nodup_cons.1 hafter).1 (h ▸ hj)
  rw [List.foldl_append, List.foldl_cons, foldl_captureWrite_quiet en data fun j hj => .inr (hothers j (hbeforeNe j hj))]
  refine foldl_captureWrite_quiet en data fun j hj => .inr fun c hc => ?_
  exact hothers j (hafterNe j hj) c (othersShrink_captureWrite k n en data s m j (hafterNe j hj) c hc)

/-! ## The candidate that captures a write -/

/-- A candidate after a write of a cell word, told by its octets (R28). -/
theorem candidateCaptures_iff {n : Nat} (hn : n < 15) {en : Enables} {data : Word} {c d : Candidate} :
    CandidateCaptures n en data c d ↔ d = { c with words := c.words.set n (c.words[n].capture en data) } := by
  constructor
  · rintro ⟨hd, hwords⟩
    have hsame : d.words = c.words.set n (c.words[n].capture en data) := by
      refine Vector.ext fun i hi => ?_
      have hone := hwords ⟨i, hi⟩
      rw [Vector.getElem_set]
      by_cases hin : i = n
      · subst hin
        rw [if_pos rfl] at hone ⊢
        exact captures_iff.1 hone
      · rw [if_neg hin] at hone
        rw [if_neg (Ne.symm hin)]
        exact hone
    rw [hd, hsame]
  · rintro rfl
    refine ⟨rfl, fun i => ?_⟩
    split
    next hin =>
      subst hin
      exact captures_iff.2 (Vector.getElem_set_self _)
    next hin => exact Vector.getElem_set_ne hn i.isLt (Ne.symm hin)

/-- A cell write that the candidate of lane `m` captures: the live entry mirrors it, then the candidate's decisions are taken
(R5, R28, R30). -/
theorem exec_captured {s : State} {a : Access} {w : Fin 4} {en : Enables} {data : Word} {k : CellKey} {n : Nat} {m : Fin 7}
    {c d : Candidate} (hat : AtCellWrite s a w) (hen : en ≠ 0) (hcellOf : cellOf s a.next.toNat w = (k, n)) (h1 : 1 ≤ n)
    (h14 : n ≤ 14) (hcell : CellInv s) (hc : s.candidates[m] = some c) (hk : c.key = k) (hd : CandidateCaptures n en data c d) :
    exec (.cellWordWrite en data) s =
      .next (takeDecisions m d (setCandidate m (some d) (mirrorWrite k n en data (written a en data s)))) := by
  have hcandidates : (mirrorWrite k n en data (written a en data s)).candidates = s.candidates :=
    mirrorWrite_candidates k n en data (written a en data s)
  have hothers : ∀ j, j ≠ m → ∀ x ∈ (mirrorWrite k n en data (written a en data s)).candidates[j], x.key ≠ k := by
    intro j hj x hx hxk
    rw [hcandidates] at hx
    exact hcell.2.1 j m hj x hx c hc (hxk.trans hk.symm)
  rw [exec_cellWordWrite hat hen hcellOf]
  unfold cellWrite
  rw [if_neg (by omega), foldl_captureWrite_one hothers]
  congr 1
  unfold captureWrite
  rw [hcandidates, hc]
  dsimp only
  rw [dif_pos ⟨hk, by omega⟩, (candidateCaptures_iff (by omega)).1 hd]

/-- A cell whose candidate has not allocated has no live entry (R29, R33). -/
theorem exec_unallocated {s : State} {a : Access} {w : Fin 4} {en : Enables} {data : Word} {k : CellKey} {n : Nat} {m : Fin 7}
    {c d : Candidate} (hat : AtCellWrite s a w) (hen : en ≠ 0) (hcellOf : cellOf s a.next.toNat w = (k, n)) (h1 : 1 ≤ n)
    (h14 : n ≤ 14) (hcell : CellInv s) (hc : s.candidates[m] = some c) (hk : c.key = k) (hnone : c.allocated = none)
    (hd : CandidateCaptures n en data c d) :
    exec (.cellWordWrite en data) s = .next (takeDecisions m d (setCandidate m (some d) (written a en data s))) := by
  rw [exec_captured hat hen hcellOf h1 h14 hcell hc hk hd]
  have hfree : findLive k s.table.entries = none :=
    findLive_none.2 fun e he hlive => hk ▸ hcell.2.2 m c hc hnone e he hlive
  unfold mirrorWrite
  rw [show (written a en data s).table = s.table from rfl, hfree]

/-! ## The type decision -/

/-- A candidate put in a lane's place twice. -/
theorem setCandidate_setCandidate (m : Fin 7) (x y : Option Candidate) (s : State) :
    setCandidate m x (setCandidate m y s) = setCandidate m x s := by
  change s.withCandidates ((s.candidates.set m y).set m x) = s.withCandidates (s.candidates.set m x)
  rw [Vector.set_set]

/-- The words a decision needs are present (R28, R30). -/
theorem present_iff {c : Candidate} {n k : Nat} : c.present n k = true ↔ AllPresent c n k := by
  simp only [Candidate.present, List.all_eq_true, List.mem_range'_1, CapturedWord.isPresent, beq_iff_eq]
  constructor
  · intro h i hi
    exact h (n + i) ⟨by omega, by omega⟩
  · intro h i hi
    have hword := h (i - n) (by omega)
    rwa [show n + (i - n) = i by omega] at hword

/-- One word is present. -/
theorem present_one {c : Candidate} {n : Nat} : c.present n 1 = true ↔ (c.word n).present = 0b1111 := by
  simp [Candidate.present, CapturedWord.isPresent]

/-- The type decision waits for its words (R21). -/
theorem typeDecision_waits {d : Candidate} {p : Profile} (h : TypeWaits d p) : d.typeDecision p = .notYet := by
  unfold Candidate.typeDecision typeCode
  rcases h with h3 | ⟨htag, h4⟩
  · have hwaits : d.present 3 1 = false := Bool.eq_false_iff.2 fun hp => h3 (present_one.1 hp)
    rw [hwaits]
    rfl
  · split
    · rfl
    · have hwaits : d.present 4 1 = false := Bool.eq_false_iff.2 fun hp => h4 (present_one.1 hp)
      rw [hwaits]
      rfl

/-- The type decision finds no time frame (R21). -/
theorem typeDecision_fails {d : Candidate} {p : Profile} (h : TypeFails d p) : d.typeDecision p = .drop := by
  obtain ⟨h3, h⟩ := h
  unfold Candidate.typeDecision typeCode
  rw [if_neg (by simpa [present_one] using h3)]
  rcases h with ⟨htag, h4, hframe⟩ | ⟨htag, hframe⟩
  · rw [if_pos htag, if_neg (by simpa [present_one] using h4)]
    exact if_neg hframe
  · rw [if_neg htag]
    exact if_neg hframe

/-- The type decision finds a time frame with its header at `h` (R20, R21). -/
theorem typeDecision_is {d : Candidate} {p : Profile} {h : HeaderOffset} (ht : TypeIs d p h) : d.typeDecision p = .frame h := by
  obtain ⟨h3, ht⟩ := ht
  unfold Candidate.typeDecision typeCode
  rw [if_neg (by simpa [present_one] using h3)]
  cases h with
  | four =>
    rw [if_neg ht.1]
    exact if_pos ht.2
  | five =>
    obtain ⟨htag, h4, hframe⟩ := ht
    rw [if_pos htag, if_neg (by simpa [present_one] using h4)]
    exact if_pos hframe

/-- No decision is taken while the type words wait (R30). -/
theorem takeDecisions_waits {m : Fin 7} {d : Candidate} {s : State} (hnone : d.header = none) (h : TypeWaits d s.bank) :
    takeDecisions m d s = s := by
  have htype : decideType m d s = (s, some d) := by
    unfold decideType
    rw [hnone]
    dsimp only
    rw [typeDecision_waits h]
  have hallocation : decideAllocation m d s = (s, some d) := by
    unfold decideAllocation
    rw [hnone]
  unfold takeDecisions
  rw [htype]
  dsimp only
  rw [hallocation]
  dsimp only
  unfold decideCompletion
  rw [hnone]

/-- A cell that is no time frame loses its candidate (R21). -/
theorem takeDecisions_fails {m : Fin 7} {d : Candidate} {s : State} (hnone : d.header = none) (h : TypeFails d s.bank) :
    takeDecisions m d s = setCandidate m none s := by
  unfold takeDecisions decideType
  rw [hnone]
  dsimp only
  rw [typeDecision_fails h]

/-- A candidate that has not allocated takes no completion decision (R30). -/
theorem decideCompletion_unallocated {m : Fin 7} {g : Candidate} {s : State} (h : g.allocated = none) :
    decideCompletion m g s = s := by
  unfold decideCompletion
  rw [h]
  cases g.header <;> rfl

/-- The type decision once the header is known or found (R21, R30). -/
theorem decideType_known {m : Fin 7} {c d : Candidate} {s : State} {h : HeaderOffset} (hd : d.header = c.header)
    (hknown : TypeKnown c d s.bank h) : decideType m d (setCandidate m (some d) s) =
      (setCandidate m (some { d with header := some h }) s, some { d with header := some h }) := by
  unfold decideType
  rcases hknown with ⟨-, hsome | ⟨hnone, his⟩⟩
  · have hsame : { d with header := some h } = d := by rw [← hsome, ← hd]
    rw [hd, hsome, hsame]
  · rw [hd, hnone]
    dsimp only
    rw [typeDecision_is (p := (setCandidate m (some d) s).bank) his]
    dsimp only
    rw [setCandidate_setCandidate]

/-- The allocation decision ends the candidate, and the decisions with it (R30). -/
theorem takeDecisions_ended {m : Fin 7} {c d : Candidate} {s t : State} {h : HeaderOffset} (hd : d.header = c.header)
    (hknown : TypeKnown c d s.bank h)
    (hends : decideAllocation m { d with header := some h } (setCandidate m (some { d with header := some h }) s) = (t, none)) :
    takeDecisions m d (setCandidate m (some d) s) = t := by
  unfold takeDecisions
  rw [decideType_known hd hknown]
  dsimp only
  rw [hends]

/-- The candidate goes on past the allocation decision, to the completion decision (R30). -/
theorem takeDecisions_continued {m : Fin 7} {c d g : Candidate} {s t : State} {h : HeaderOffset} (hd : d.header = c.header)
    (hknown : TypeKnown c d s.bank h)
    (hgoes : decideAllocation m { d with header := some h } (setCandidate m (some { d with header := some h }) s) = (t, some g)) :
    takeDecisions m d (setCandidate m (some d) s) = decideCompletion m g t := by
  unfold takeDecisions
  rw [decideType_known hd hknown]
  dsimp only
  rw [hgoes]

/-! ## The allocation decision -/

/-- The allocation decision waits for h+0 and h+1 (R30). -/
theorem decideAllocation_waits {m : Fin 7} {g : Candidate} {s : State} {h : HeaderOffset} (hh : g.header = some h)
    (hwaits : ¬ AllPresent g h.h 2) : decideAllocation m g s = (s, some g) := by
  have hpresent : g.present h.h 2 = false := Bool.eq_false_iff.2 fun hp => hwaits (present_iff.1 hp)
  unfold decideAllocation
  rw [hh]
  dsimp only
  rw [hpresent, if_pos (by simp)]

/-- A frame of another version is counted and its candidate ends (R24). -/
theorem decideAllocation_version {m : Fin 7} {g : Candidate} {s : State} {h : HeaderOffset} (hh : g.header = some h)
    (hnone : g.allocated = none) (hpresent : AllPresent g h.h 2) (hversion : (g.word h.h).data.extractLsb' 24 4 ≠ s.bank.version) :
    decideAllocation m g s = (count .versionMismatch (setCandidate m none s), none) := by
  unfold decideAllocation
  rw [hh]
  dsimp only
  rw [hnone, if_neg (by simp [present_iff.2 hpresent])]
  exact if_pos hversion

/-- A domain of the list (R25). -/
theorem passesDomain_iff {p : Profile} {x : BitVec 8} :
    p.passesDomain x = true ↔ ∃ i : Fin 4, p.domains[i].enable = true ∧ p.domains[i].value = x := by
  simp only [Profile.passesDomain, List.any_eq_true, Bool.and_eq_true, beq_iff_eq, Vector.mem_toList_iff, Vector.mem_iff_getElem]
  constructor
  · rintro ⟨e, ⟨i, hi, rfl⟩, he⟩
    exact ⟨⟨i, hi⟩, he⟩
  · rintro ⟨i, he⟩
    exact ⟨_, ⟨i.val, i.isLt, rfl⟩, he⟩

/-- A frame of another domain loses its candidate (R25). -/
theorem decideAllocation_domain {m : Fin 7} {g : Candidate} {s : State} {h : HeaderOffset} (hh : g.header = some h)
    (hnone : g.allocated = none) (hpresent : AllPresent g h.h 2) (hversion : (g.word h.h).data.extractLsb' 24 4 = s.bank.version)
    (hfails : ¬ PassesChecks g s.bank h) : decideAllocation m g s = (setCandidate m none s, none) := by
  have hdomain : s.bank.passesDomain (wordDomain (g.word (h.h + 1)).data) = false :=
    Bool.eq_false_iff.2 fun hp => hfails ⟨hpresent, hversion, passesDomain_iff.1 hp⟩
  unfold decideAllocation
  rw [hh]
  dsimp only
  rw [hnone, if_neg (by simp [present_iff.2 hpresent]), if_neg (show ¬ wordVersion (g.word h.h).data ≠ s.bank.version from not_not.2 hversion), hdomain]
  rfl

/-- What the table of R31 says of a lane and a kind. -/
def allocatedAs (m : Fin 7) (h : HeaderOffset) (g : Candidate) (s : State) : State × Option Candidate :=
  match laneDecision (originOf m) (wordKind (g.word h.h).data) with
  | .drop => (setCandidate m none s, none)
  | .proceed x => (setCandidate m (some { g with allocated := some x }) s, some { g with allocated := some x })
  | .request x =>
    (allocate
      { key := g.key, header := h, origin := originOf m, kind := x, reading := if m = 0 then s.time.raw else g.arrival, words := g.words }
      (setCandidate m (some { g with allocated := some x }) s), some { g with allocated := some x })

/-- A frame that R31 drops. -/
theorem allocatedAs_drop {m : Fin 7} {h : HeaderOffset} {g : Candidate} {s : State}
    (hlane : laneDecision (originOf m) (wordKind (g.word h.h).data) = .drop) : allocatedAs m h g s = (setCandidate m none s, none) := by
  unfold allocatedAs
  rw [hlane]

/-- A frame that goes on without an entry (R31). -/
theorem allocatedAs_proceed {m : Fin 7} {h : HeaderOffset} {g : Candidate} {s : State} {x : FrameKind}
    (hlane : laneDecision (originOf m) (wordKind (g.word h.h).data) = .proceed x) : allocatedAs m h g s =
      (setCandidate m (some { g with allocated := some x }) s, some { g with allocated := some x }) := by
  unfold allocatedAs
  rw [hlane]

/-- A frame that asks for an entry (R31, R33). -/
theorem allocatedAs_request {m : Fin 7} {h : HeaderOffset} {g : Candidate} {s : State} {x : FrameKind}
    (hlane : laneDecision (originOf m) (wordKind (g.word h.h).data) = .request x) : allocatedAs m h g s =
      (allocate
        { key := g.key, header := h, origin := originOf m, kind := x, reading := if m = 0 then s.time.raw else g.arrival,
          words := g.words }
        (setCandidate m (some { g with allocated := some x }) s), some { g with allocated := some x }) := by
  unfold allocatedAs
  rw [hlane]

/-- The lane of a candidate: every lane but 0 is an ingress lane (R33). -/
theorem originOf_ingress {m : Fin 7} (hm : m ≠ 0) : ∃ p, originOf m = .ingress p := by
  have hval : m.val ≠ 0 := fun h => hm (Fin.ext h)
  exact ⟨_, dif_neg hval⟩

/-- The kind field by its value (R22). -/
theorem wordKind_eq (x : Word) : wordKind x =
    if x.toNat / 268435456 = 0 then some .mark else if x.toNat / 268435456 = 1 then some .probe
    else if x.toNat / 268435456 = 2 then some .echo else if x.toNat / 268435456 = 8 then some .detail else none := by
  have hfield : (x.extractLsb' 28 4).toNat = x.toNat / 268435456 := by
    have hx := x.isLt
    rw [BitVec.extractLsb'_toNat, Nat.shiftRight_eq_div_pow]
    exact Nat.mod_eq_of_lt (by omega)
  unfold wordKind
  rw [hfield]
  split
  next h => rw [h]; rfl
  next h => rw [h]; rfl
  next h => rw [h]; rfl
  next h => rw [h]; rfl
  next h0 h1 h2 h8 => rw [if_neg h0, if_neg h1, if_neg h2, if_neg h8]

/-- A frame that passes the checks is judged by its lane and kind (R31). -/
theorem decideAllocation_passes {m : Fin 7} {g : Candidate} {s : State} {h : HeaderOffset} (hh : g.header = some h)
    (hnone : g.allocated = none) (hpasses : PassesChecks g s.bank h) : decideAllocation m g s = allocatedAs m h g s := by
  obtain ⟨hpresent, hversion, hdomain⟩ := hpasses
  unfold decideAllocation allocatedAs
  rw [hh]
  dsimp only
  rw [hnone, if_neg (by simp [present_iff.2 hpresent]), if_neg (show ¬ wordVersion (g.word h.h).data ≠ s.bank.version from not_not.2 hversion),
    show s.bank.passesDomain (wordDomain (g.word (h.h + 1)).data) = true from passesDomain_iff.2 hdomain]
  rw [if_neg (by decide)]
  cases laneDecision (originOf m) (wordKind (g.word h.h).data) with
  | drop => rfl
  | proceed x => rfl
  | request x =>
    by_cases hm : m = 0
    · subst hm
      rfl
    · obtain ⟨p, hp⟩ := originOf_ingress hm
      rw [hp, if_neg hm]

/-- Settles O18: the type decision and the checks of the allocation decision, each in its case. -/
theorem candidateIsJudged : Obligations.CandidateIsJudged := by
  refine ⟨wordKind_eq, ?_⟩
  intro s a w en data k n m c d hat hen hcellOf h1 h14 hcell hc hk hnone hd
  have hexec := exec_unallocated hat hen hcellOf h1 h14 hcell hc hk hnone hd
  have hheader : d.header = c.header := by rw [hd.1]
  have hallocated : d.allocated = none := by rw [hd.1]; exact hnone
  refine ⟨fun hh ht => ?_, fun hh ht => ?_, fun h hknown => ?_⟩
  · rw [hexec, takeDecisions_waits (s := setCandidate m (some d) (written a en data s)) (hheader.trans hh) ht]
    rfl
  · rw [hexec, takeDecisions_fails (s := setCandidate m (some d) (written a en data s)) (hheader.trans hh) ht,
      setCandidate_setCandidate]
    rfl
  · let v : State := setCandidate m (some { d with header := some h }) (written a en data s)
    have hjudged {t : State} (hends : decideAllocation m { d with header := some h } v = (t, none)) :
        exec (.cellWordWrite en data) s = .next t := by
      rw [hexec, takeDecisions_ended (s := written a en data s) hheader hknown hends]
    have hended : setCandidate m none v = { written a en data s with candidates := s.candidates.set m none } :=
      setCandidate_setCandidate m none _ (written a en data s)
    refine ⟨fun hwaits => ?_, fun hpresent hversion => ?_, fun hpresent hversion hfails => ?_, fun hpasses hlane => ?_⟩
    · have hgoes := decideAllocation_waits (m := m) (g := { d with header := some h }) (s := v) rfl hwaits
      rw [hexec, takeDecisions_continued (s := written a en data s) hheader hknown hgoes]
      rw [decideCompletion_unallocated (g := { d with header := some h }) hallocated]
      rfl
    · refine (hjudged (decideAllocation_version rfl hallocated hpresent hversion)).trans ?_
      rw [hended]
      rfl
    · rw [← hended]
      exact hjudged (decideAllocation_domain rfl hallocated hpresent hversion hfails)
    · have hdrop : laneDecision (originOf m) (wordKind (d.word h.h).data) = .drop := by
        rcases hlane with hkind | ⟨rfl, hkind | hkind⟩
        · rw [hkind]
          cases originOf m <;> rfl
        · rw [hkind]
          rfl
        · rw [hkind]
          rfl
      rw [← hended]
      exact hjudged ((decideAllocation_passes (g := { d with header := some h }) (s := v) rfl hallocated hpasses).trans (allocatedAs_drop hdrop))

end Sys2Proof.Machine
end

section
/-! Allocation and completion (02 sections 2.6 and 2.7; 04 sections 4.1 and 4.2). -/

namespace Sys2Proof.Machine

/-! ## The completion decision -/

/-- The kind that a discipline sample carries (R30, R34; log 12). -/
theorem carriesDetail_eq (c : Candidate) (x : FrameKind) (h : Nat) : c.carriesDetail x h = carriedDetail x (c.word h).data := by
  unfold Candidate.carriesDetail carriedDetail
  split
  next hw => rw [hw, if_pos rfl]
  next hw => rw [hw, if_neg (by decide), if_pos rfl]
  next hmark hdetail => rw [if_neg hmark, if_neg hdetail]

/-- The hand-off of a completed MARK or DETAIL (R34). -/
theorem handoff_eq (c : Candidate) (p : Port) (h : Nat) (x : FrameKind) :
    c.handoff p h (c.carriesDetail x h) = handedOver p c h (carriedDetail x (c.word h).data) := by
  rw [carriesDetail_eq]
  rfl

/-- A responder hand-off (R96). -/
theorem responderHandoff_eq (p : Port) (r : ResponderRecord) (s : State) :
    responderHandoff p r s = { s with delays := s.delays.set p (respondedBy r s.delays[p]) } := by
  have hmatch (x : ResponderRecord) : x.matches r.sequence r.source = (x.sequence == r.sequence && x.source == r.source) := rfl
  have hlist : addResponder s.delays[p].responders r = (respondedBy r s.delays[p]).responders := by
    unfold addResponder respondedBy
    dsimp only
    by_cases hold : ∃ x ∈ s.delays[p].responders, x.sequence = r.sequence ∧ x.source = r.source
    · rw [if_pos hold, if_pos (by simpa [hmatch] using hold)]
      rfl
    · rw [if_neg hold, if_neg (by simpa [hmatch] using hold)]
      rfl
  change s.withDelays (s.delays.set p _) = _
  rw [hlist]
  rfl

/-- The hand-off of a completed PROBE (R35). -/
theorem completionHandoffs_probe (p : Port) (c : Candidate) (h : Nat) (s : State) : completionHandoffs (.ingress p) .probe c h s =
    if s.bank.ports[p].delayMode = .link then
      { s with
        delays := s.delays.set p
          (respondedBy
            { sequence := (c.word h).data.extractLsb' 0 16, source := (c.word (h + 6)).data ++ (c.word (h + 7)).data, t2 := c.arrival }
            s.delays[p]) }
    else s := by
  unfold completionHandoffs
  dsimp only
  cases s.bank.ports[p].delayMode with
  | link =>
    rw [if_pos rfl]
    exact responderHandoff_eq p _ s
  | none => rfl

/-- The completion decision: nothing until the words its kind needs are present, then the candidate ends with its hand-offs
(R30, R32, R34 to R36). -/
theorem completes_decideCompletion (m : Fin 7) {c : Candidate} {h : HeaderOffset} (hh : c.header = some h) (v : State) :
    Completes m c h.h v (decideCompletion m c v) := by
  have hdone (n : Nat) (u : State) : (AllPresent c h.h n → (if c.present h.h n then u else v) = u) ∧
      (¬ AllPresent c h.h n → (if c.present h.h n then u else v) = v) :=
    ⟨fun hp => if_pos (present_iff.2 hp), fun hp => if_neg fun hc => hp (present_iff.1 hc)⟩
  unfold decideCompletion Completes
  rw [hh]
  cases c.allocated with
  | none => cases originOf m <;> rfl
  | some x =>
    cases originOf m with
    | processor =>
      cases x with
      | probe => exact hdone 2 _
      | echo => exact hdone 10 _
      | mark => rfl
      | detail => rfl
    | ingress p =>
      cases x with
      | mark =>
        dsimp only
        rw [← handoff_eq]
        exact hdone 8 _
      | detail =>
        dsimp only
        rw [← handoff_eq]
        exact hdone 8 _
      | probe => exact ⟨fun hp => ((hdone 8 _).1 hp).trans (completionHandoffs_probe p c h.h _), (hdone 8 _).2⟩
      | echo => exact hdone 10 _

/-- A candidate that has allocated is left to the completion decision (R30). -/
theorem takeDecisions_allocated {m : Fin 7} {d : Candidate} {s : State} {h : HeaderOffset} {x : FrameKind} (hheader : d.header = some h)
    (hallocated : d.allocated = some x) : takeDecisions m d s = decideCompletion m d s := by
  have htype : decideType m d s = (s, some d) := by
    unfold decideType
    rw [hheader]
  have hallocation : decideAllocation m d s = (s, some d) := by
    unfold decideAllocation
    rw [hheader, hallocated]
    rfl
  unfold takeDecisions
  rw [htype]
  dsimp only
  rw [hallocation]

/-! ## Allocation -/

/-- The lane table of R31 where the frame goes on without an entry. -/
theorem laneDecision_proceed {m : Fin 7} (hm : m ≠ 0) {x : FrameKind} (hx : x = .probe ∨ x = .echo) :
    laneDecision (originOf m) (some x) = .proceed x := by
  obtain ⟨p, hp⟩ := originOf_ingress hm
  rw [hp]
  rcases hx with rfl | rfl <;> rfl

/-- The lane table of R31 where the frame asks for an entry. -/
theorem laneDecision_request {m : Fin 7} {x : FrameKind}
    (hx : (m = 0 ∧ (x = .probe ∨ x = .echo)) ∨ (m ≠ 0 ∧ (x = .mark ∨ x = .detail))) :
    laneDecision (originOf m) (some x) = .request x := by
  rcases hx with ⟨rfl, rfl | rfl⟩ | ⟨hm, hx⟩
  · rfl
  · rfl
  · obtain ⟨p, hp⟩ := originOf_ingress hm
    rw [hp]
    rcases hx with rfl | rfl <;> rfl

/-- The snapshot of an ingress MARK (R55). -/
theorem takeSnapshot_eq (p : Port) (s : State) : takeSnapshot p s =
    { latencyIn := s.bank.ports[p].latencyIn
      asymmetry := s.bank.ports[p].asymmetry
      delay := if s.bank.ports[p].delayMode = .link then s.delays[p].delay else 0 } := by
  unfold takeSnapshot
  dsimp only
  cases s.bank.ports[p].delayMode <;> rfl

/-- The request that candidate `d` of lane `m` makes (R33). -/
def requestOf (m : Fin 7) (d : Candidate) (h : HeaderOffset) (x : FrameKind) (s : State) : AllocationRequest where
  key := d.key
  header := h
  origin := originOf m
  kind := x
  reading := if m = 0 then s.time.raw else d.arrival
  words := d.words

/-- The entry that a candidate's request makes (R53, R55). -/
theorem newEntry_eq (m : Fin 7) (d : Candidate) (h : HeaderOffset) (x : FrameKind) (s : State) :
    newEntry (requestOf m d h x s) s = madeEntry m d h x s := by
  unfold newEntry madeEntry requestOf
  dsimp only
  cases x with
  | mark =>
    cases originOf m with
    | processor => rfl
    | ingress p =>
      dsimp only
      rw [takeSnapshot_eq]
      rfl
  | probe | echo | detail => rfl

/-- A new entry, the youngest, in allocation order (R53). -/
theorem inOrder_append {s : State} (htable : TableInv s) {e : Entry} (he : e.order = s.table.nextOrder) :
    InOrder (s.table.entries ++ [e]) := by
  refine List.pairwise_append.2 ⟨htable.2.1, List.pairwise_singleton _ _, fun f hf g hg => ?_⟩
  rw [List.mem_singleton.1 hg, he]
  exact htable.2.2 f hf

/-- The allocation of a request that finds room (R53, R57). -/
theorem allocate_room {s : State} (htable : TableInv s) (hroom : s.table.entries.length < 64) {r : AllocationRequest} {e : Entry}
    (he : newEntry r s = e) :
    (allocate r s).table.nextOrder = s.table.nextOrder + 1 ∧
    CompletedInto e (s.table.entries ++ [e]) (allocate r s).table.entries ∧
    (allocate r s).report =
      match r.origin with
      | .processor => s.report
      | .ingress p =>
        { s.report with ports := s.report.ports.set p { s.report.ports[p] with tracked := s.report.ports[p].tracked + 1 } } := by
  have horder : e.order = s.table.nextOrder := by rw [← he]; rfl
  have hallocate : allocate r s = countArrival r.origin
      (s.withTable { entries := completeEntry e.order (s.table.entries ++ [e]), nextOrder := s.table.nextOrder + 1 }) := by
    unfold allocate
    rw [if_pos (show s.table.entries.length < tableCapacity from hroom), he]
  have htableEq : (allocate r s).table =
      { entries := completeEntry e.order (s.table.entries ++ [e]), nextOrder := s.table.nextOrder + 1 } := by
    rw [hallocate]
    cases r.origin <;> rfl
  rw [htableEq]
  refine ⟨rfl, completedInto_completeEntry (inOrder_append htable horder) (List.mem_append_right _ (List.mem_singleton_self e)), ?_⟩
  rw [hallocate]
  cases r.origin <;> rfl

/-- The allocation of a request that finds the table full (R54). -/
theorem allocate_full {s : State} (hb : s.straps.bypass = false) (hfull : 64 ≤ s.table.entries.length) (r : AllocationRequest) :
    allocate r s =
      { s with
        report :=
          { s.report with
            globals := { s.report.globals with untracked := s.report.globals.untracked + 1 }
            flags := s.report.flags ||| 0x0001
            queue := joinQueue s.report.queue .status } } := by
  unfold allocate
  rw [if_neg (show ¬ s.table.entries.length < tableCapacity from Nat.not_lt.2 hfull), raise_of_decoding (s := count .untracked s) hb]
  rfl

/-- An allocation touches the table and the counters alone. -/
theorem allocate_frame {s : State} (hb : s.straps.bypass = false) (r : AllocationRequest) :
    allocate r s = { s with table := (allocate r s).table, report := (allocate r s).report } := by
  by_cases hroom : s.table.entries.length < 64
  · unfold allocate
    rw [if_pos (show s.table.entries.length < tableCapacity from hroom)]
    cases r.origin <;> rfl
  · rw [allocate_full hb (Nat.not_lt.1 hroom)]

/-- Settles O19: the frame passes its checks, the lane table says how it goes on, and the completion decision follows. -/
theorem allocationMakesEntry : Obligations.AllocationMakesEntry := by
  intro s a w en data k n m c d h x hat hen hcellOf h1 h14 hcell htable hc hk hd hknown hpasses hkind hlane
  have hheader : d.header = c.header := by rw [hd.1]
  have hallocated : d.allocated = none := by rw [hd.1]; exact hknown.1
  have hb : s.straps.bypass = false := hat.1.2.2.2.1
  let u : State := written a en data s
  let v : State := setCandidate m (some { d with header := some h }) u
  let g : Candidate := { d with header := some h, allocated := some x }
  have hgoes {t : State} (hjudged : allocatedAs m h { d with header := some h } v = (t, some g)) :
      exec (.cellWordWrite en data) s = .next (decideCompletion m g t) := by
    rw [exec_unallocated hat hen hcellOf h1 h14 hcell hc hk hknown.1 hd,
      takeDecisions_continued (s := u) hheader hknown
        ((decideAllocation_passes (g := { d with header := some h }) (s := v) rfl hallocated hpasses).trans hjudged)]
  let went : State := { u with candidates := s.candidates.set m (some g) }
  have hset : setCandidate m (some g) v = went := setCandidate_setCandidate m (some g) _ u
  by_cases hasks : (m = 0 ∧ (x = .probe ∨ x = .echo)) ∨ (m ≠ 0 ∧ (x = .mark ∨ x = .detail))
  · have hlaneDecision : laneDecision (originOf m) (wordKind (d.word h.h).data) = .request x := by
      rw [hkind]
      exact laneDecision_request hasks
    have hjudged : allocatedAs m h { d with header := some h } v = (allocate (requestOf m d h x s) went, some g) := by
      rw [← hset]
      exact allocatedAs_request (g := { d with header := some h }) (s := v) hlaneDecision
    have hentry : newEntry (requestOf m d h x s) went = madeEntry m d h x s := newEntry_eq m d h x went
    refine ⟨_, _, hgoes hjudged, completes_decideCompletion m rfl _, allocate_frame (s := went) hb _, fun hm hx => ?_, fun _ =>
      ⟨fun hroom => allocate_room (s := went) htable hroom hentry, fun hfull => ?_⟩⟩
    · rcases hasks with ⟨h0, -⟩ | ⟨-, rfl | rfl⟩
      · exact absurd h0 hm
      · rcases hx with hx | hx <;> cases hx
      · rcases hx with hx | hx <;> cases hx
    · rw [allocate_full (s := went) hb hfull]
      exact ⟨rfl, rfl⟩
  · have hm : m ≠ 0 := fun h0 => hasks (.inl ⟨h0, hlane h0⟩)
    have hx : x = .probe ∨ x = .echo := by
      cases x with
      | probe => exact .inl rfl
      | echo => exact .inr rfl
      | mark => exact absurd (.inr ⟨hm, .inl rfl⟩) hasks
      | detail => exact absurd (.inr ⟨hm, .inr rfl⟩) hasks
    have hlaneDecision : laneDecision (originOf m) (wordKind (d.word h.h).data) = .proceed x := by
      rw [hkind]
      exact laneDecision_proceed hm hx
    have hjudged : allocatedAs m h { d with header := some h } v = (went, some g) := by
      rw [← hset]
      exact allocatedAs_proceed (g := { d with header := some h }) (s := v) hlaneDecision
    exact ⟨_, _, hgoes hjudged, completes_decideCompletion m rfl _, rfl, fun _ _ => ⟨rfl, rfl⟩, fun h => absurd h hasks⟩

/-- Settles O20: the entry mirrors the write, and the candidate, its two decisions taken, is left to the completion decision. -/
theorem completionHandsOff : Obligations.CompletionHandsOff := by
  intro s a w en data k n m c d h x hat hen hcellOf h1 h14 hcell htable hc hk hallocated hheader hd
  have hdheader : d.header = some h := by rw [hd.1]; exact hheader
  have hdallocated : d.allocated = some x := by rw [hd.1]; exact hallocated
  have hcandidates : (mirrorWrite k n en data (written a en data s)).candidates = s.candidates :=
    mirrorWrite_candidates k n en data (written a en data s)
  refine ⟨_, _, exec_captured hat hen hcellOf h1 h14 hcell hc hk hd,
    mirroredFrom_mirrorWrite (s := written a en data s) htable k n en data, ?_⟩
  rw [takeDecisions_allocated hdheader hdallocated]
  have hcompletes := completes_decideCompletion m hdheader
    (setCandidate m (some d) (mirrorWrite k n en data (written a en data s)))
  rw [← hcandidates]
  exact hcompletes

end Sys2Proof.Machine
end

section
/-! What PROFILE_WRITE stores (09 sections 9.2 to 9.4; 11 section 11.3): the item named, the value brought into its range. -/

namespace Sys2Proof.Machine

/-! ## Items by their codes -/

/-- An item of a pool window (R10). -/
theorem writeItem_pool {code : Nat} (h : 0x01 ≤ code ∧ code ≤ 0x06) (index : Nat) (v : BitVec 64) (p : Profile) :
    writeItem code index v p = (index? 4 index).bind (writePool code v p) := if_pos h

/-- An item of an exclusion window (R9). -/
theorem writeItem_exclusion {code : Nat} (h : 0x08 ≤ code ∧ code ≤ 0x0A) (index : Nat) (v : BitVec 64) (p : Profile) :
    writeItem code index v p = (index? 2 index).bind (writeExclusion code v p) := by
  unfold writeItem
  rw [if_neg (by omega), if_pos h]

/-- An item of a domain list entry (R25). -/
theorem writeItem_domain {code : Nat} (h : 0x13 ≤ code ∧ code ≤ 0x14) (index : Nat) (v : BitVec 64) (p : Profile) :
    writeItem code index v p = (index? 4 index).bind (writeDomain code v p) := by
  unfold writeItem
  rw [if_neg (by omega), if_neg (by omega), if_pos h]

/-- An item of a port. -/
theorem writeItem_port {code : Nat} (h : 0x20 ≤ code ∧ code ≤ 0x24) (index : Nat) (v : BitVec 64) (p : Profile) :
    writeItem code index v p = (index? 6 index).bind (writePort code v p) := by
  unfold writeItem
  rw [if_neg (by omega), if_neg (by omega), if_neg (by omega), if_pos h]

/-- An item of a capture input. -/
theorem writeItem_input {code : Nat} (h : 0x40 ≤ code ∧ code ≤ 0x42) (index : Nat) (v : BitVec 64) (p : Profile) :
    writeItem code index v p = (index? 2 index).bind (writeInput code v p) := by
  unfold writeItem
  rw [if_neg (by omega), if_neg (by omega), if_neg (by omega), if_neg (by omega), if_pos h]

/-- An item of a pulse output. -/
theorem writeItem_output {code : Nat} (h : 0x48 ≤ code ∧ code ≤ 0x4C) (index : Nat) (v : BitVec 64) (p : Profile) :
    writeItem code index v p = (index? 4 index).bind (writeOutput code v p) := by
  unfold writeItem
  rw [if_neg (by omega), if_neg (by omega), if_neg (by omega), if_neg (by omega), if_neg (by omega), if_pos h]

/-- A code of none of the groups names an item at index 0 alone (R153). -/
abbrev SingleItem (code : Nat) : Prop :=
  ¬ (0x01 ≤ code ∧ code ≤ 0x06) ∧ ¬ (0x08 ≤ code ∧ code ≤ 0x0A) ∧ ¬ (0x13 ≤ code ∧ code ≤ 0x14) ∧
  ¬ (0x20 ≤ code ∧ code ≤ 0x24) ∧ ¬ (0x40 ≤ code ∧ code ≤ 0x42) ∧ ¬ (0x48 ≤ code ∧ code ≤ 0x4C)

/-- An item that exists once. -/
theorem writeItem_single {code : Nat} (h : SingleItem code) (index : Nat) (v : BitVec 64) (p : Profile) :
    writeItem code index v p = if index = 0 then writeSingle code v p else none := by
  obtain ⟨hpool, hexclusion, hdomain, hport, hinput, houtput⟩ := h
  unfold writeItem
  rw [if_neg hpool, if_neg hexclusion, if_neg hdomain, if_neg hport, if_neg hinput, if_neg houtput]

/-- An index inside its range. -/
theorem index?_fin {k : Nat} (n : Fin k) : index? k n.val = some n := dif_pos n.isLt

/-- A group whose items are written at every index of its range. -/
theorem isSome_bind_index? {k i : Nat} {f : Fin k → Option (Stored Profile)} (hf : ∀ n, (f n).isSome = true) :
    ((index? k i).bind f).isSome = true ↔ i < k := by
  unfold index?
  by_cases hi : i < k
  · rw [dif_pos hi]
    exact ⟨fun _ => hi, fun _ => hf ⟨i, hi⟩⟩
  · rw [dif_neg hi]
    exact ⟨fun h => absurd h (by simp), fun h => absurd h hi⟩

theorem writePool_isSome {code : Nat} (h : 0x01 ≤ code ∧ code ≤ 0x06) (v : BitVec 64) (p : Profile) (n : Fin 4) :
    (writePool code v p n).isSome = true := by
  obtain ⟨hlow, hhigh⟩ := h
  interval_cases code <;> rfl

theorem writeExclusion_isSome {code : Nat} (h : 0x08 ≤ code ∧ code ≤ 0x0A) (v : BitVec 64) (p : Profile) (n : Fin 2) :
    (writeExclusion code v p n).isSome = true := by
  obtain ⟨hlow, hhigh⟩ := h
  interval_cases code <;> rfl

theorem writeDomain_isSome {code : Nat} (h : 0x13 ≤ code ∧ code ≤ 0x14) (v : BitVec 64) (p : Profile) (n : Fin 4) :
    (writeDomain code v p n).isSome = true := by
  obtain ⟨hlow, hhigh⟩ := h
  interval_cases code <;> rfl

theorem writePort_isSome {code : Nat} (h : 0x20 ≤ code ∧ code ≤ 0x24) (v : BitVec 64) (p : Profile) (n : Port) :
    (writePort code v p n).isSome = true := by
  obtain ⟨hlow, hhigh⟩ := h
  interval_cases code <;> rfl

theorem writeInput_isSome {code : Nat} (h : 0x40 ≤ code ∧ code ≤ 0x42) (v : BitVec 64) (p : Profile) (n : Fin 2) :
    (writeInput code v p n).isSome = true := by
  obtain ⟨hlow, hhigh⟩ := h
  interval_cases code <;> rfl

theorem writeOutput_isSome {code : Nat} (h : 0x48 ≤ code ∧ code ≤ 0x4C) (v : BitVec 64) (p : Profile) (n : Fin 4) :
    (writeOutput code v p n).isSome = true := by
  obtain ⟨hlow, hhigh⟩ := h
  interval_cases code <;> rfl

/-- The codes of the items that exist once (R153). -/
theorem writeSingle_isSome {code : Nat} (v : BitVec 64) (p : Profile) : (writeSingle code v p).isSome = true ↔
    code = 0x0B ∨ (0x10 ≤ code ∧ code ≤ 0x12) ∨ code = 0x15 ∨ code = 0x16 ∨ (0x28 ≤ code ∧ code ≤ 0x2C) ∨
      (0x30 ≤ code ∧ code ≤ 0x3A) := by
  constructor
  · intro h
    unfold writeSingle at h
    dsimp only at h
    split at h
    case h_23 => cases h
    all_goals omega
  · rintro (rfl | ⟨hlow, hhigh⟩ | rfl | rfl | ⟨hlow, hhigh⟩ | ⟨hlow, hhigh⟩)
    · rfl
    · interval_cases code <;> rfl
    · rfl
    · rfl
    · interval_cases code <;> rfl
    · interval_cases code <;> rfl

/-- The codes and indices that name an item (R153). -/
theorem writeItem_isSome (code index : Nat) (v : BitVec 64) (p : Profile) : (writeItem code index v p).isSome = true ↔
    (1 ≤ code ∧ code ≤ 6 ∧ index < 4) ∨ (0x08 ≤ code ∧ code ≤ 0x0A ∧ index < 2) ∨ (0x13 ≤ code ∧ code ≤ 0x14 ∧ index < 4) ∨
    (0x20 ≤ code ∧ code ≤ 0x24 ∧ index < 6) ∨ (0x40 ≤ code ∧ code ≤ 0x42 ∧ index < 2) ∨
    (0x48 ≤ code ∧ code ≤ 0x4C ∧ index < 4) ∨
    (index = 0 ∧ (code = 0x0B ∨ (0x10 ≤ code ∧ code ≤ 0x12) ∨ code = 0x15 ∨ code = 0x16 ∨ (0x28 ≤ code ∧ code ≤ 0x2C) ∨
      (0x30 ≤ code ∧ code ≤ 0x3A))) := by
  by_cases hpool : 0x01 ≤ code ∧ code ≤ 0x06
  · rw [writeItem_pool hpool, isSome_bind_index? (writePool_isSome hpool v p)]
    omega
  by_cases hexclusion : 0x08 ≤ code ∧ code ≤ 0x0A
  · rw [writeItem_exclusion hexclusion, isSome_bind_index? (writeExclusion_isSome hexclusion v p)]
    omega
  by_cases hdomain : 0x13 ≤ code ∧ code ≤ 0x14
  · rw [writeItem_domain hdomain, isSome_bind_index? (writeDomain_isSome hdomain v p)]
    omega
  by_cases hport : 0x20 ≤ code ∧ code ≤ 0x24
  · rw [writeItem_port hport, isSome_bind_index? (writePort_isSome hport v p)]
    omega
  by_cases hinput : 0x40 ≤ code ∧ code ≤ 0x42
  · rw [writeItem_input hinput, isSome_bind_index? (writeInput_isSome hinput v p)]
    omega
  by_cases houtput : 0x48 ≤ code ∧ code ≤ 0x4C
  · rw [writeItem_output houtput, isSome_bind_index? (writeOutput_isSome houtput v p)]
    omega
  rw [writeItem_single ⟨hpool, hexclusion, hdomain, hport, hinput, houtput⟩]
  by_cases hindex : index = 0
  · rw [if_pos hindex, writeSingle_isSome]
    omega
  · rw [if_neg hindex]
    simp only [Option.isSome_none, Bool.false_eq_true, false_iff]
    omega

/-! ## Values brought into their ranges -/

section
variable {code n : Nat} {v : BitVec 64} {p : Profile}

/-- A value stored into an item. -/
theorem Stores.of_into {α : Type} {x : Stored α} {f : α → Profile} (h : writeItem code n v p = some (x.into f)) {y : α} {adj : Prop}
    (hvalue : x.value = y) (hadjusted : x.adjusted = true ↔ adj) : Stores code n v p (f y) adj :=
  ⟨_, h, congrArg f hvalue, hadjusted⟩

/-- What is stored of an unsigned number (R154). -/
theorem storeUnsigned_value {lo hi : Nat} (hrange : lo ≤ hi) (v : BitVec 64) :
    (storeUnsigned lo hi v).value = max lo (min hi v.toNat) := by
  unfold storeUnsigned
  split
  · dsimp only; omega
  · split <;> dsimp only <;> omega

/-- When the store of an unsigned number adjusts it (R154). -/
theorem storeUnsigned_adjusted {lo hi : Nat} (v : BitVec 64) :
    (storeUnsigned lo hi v).adjusted = true ↔ v.toNat < lo ∨ hi < v.toNat := by
  unfold storeUnsigned
  split
  · simp; omega
  · split <;> simp <;> omega

/-- An unsigned item with a plain range (R154). -/
theorem stores_unsigned {lo hi : Nat} {f : Nat → Profile} (h : writeItem code n v p = some ((storeUnsigned lo hi v).into f))
    (hrange : lo ≤ hi) : StoresIn code n lo hi v p f :=
  Stores.of_into h (storeUnsigned_value hrange v) (storeUnsigned_adjusted v)

/-- A signed item with a plain range (R154). -/
theorem stores_signed {lo hi : Int} {f : Int → Profile} (h : writeItem code n v p = some ((storeSigned lo hi v).into f))
    (hrange : lo ≤ hi) : Stores code n v p (f (max lo (min hi v.toInt))) (v.toInt < lo ∨ hi < v.toInt) := by
  refine Stores.of_into h ?_ ?_
  · unfold storeSigned
    split
    · dsimp only; omega
    · split <;> dsimp only <;> omega
  · unfold storeSigned
    split
    · simp; omega
    · split <;> simp <;> omega

/-- An item that is off or on (R154). -/
theorem stores_flag {f : Bool → Profile} (h : writeItem code n v p = some ((storeFlag v).into f)) :
    Stores code n v p (f (v != 0)) (1 < v.toNat) :=
  Stores.of_into h (by simp [storeFlag, bne, BEq.beq]) (by simp [storeFlag])

/-- An item that is a choice from a list (R154). -/
theorem stores_choice {α : Type} {first : α} {rest : List α} {f : α → Profile}
    (h : writeItem code n v p = some ((storeChoice first rest v).into f)) :
    Stores code n v p (f (((first :: rest)[min rest.length v.toNat]?).getD first)) (rest.length < v.toNat) := by
  refine Stores.of_into h ?_ ?_
  · unfold storeChoice
    dsimp only
    rw [storeUnsigned_value (Nat.zero_le _), Nat.zero_max]
  · refine (storeUnsigned_adjusted v).trans ?_
    omega

/-- The word of a small number. -/
theorem eq_word_iff {k : Nat} (hk : k < 2 ^ 64) : v = BitVec.ofNat 64 k ↔ v.toNat = k := by
  rw [BitVec.toNat_eq, BitVec.toNat_ofNat, Nat.mod_eq_of_lt hk]

/-- An item that is a choice of two (R154). -/
theorem stores_choice2 {α : Type} {a b : α} {f : α → Profile} (h : writeItem code n v p = some ((storeChoice a [b] v).into f)) :
    Stores code n v p (f (if v = 0 then a else b)) (1 < v.toNat) := by
  have hvalue : (([a, b])[min 1 v.toNat]?).getD a = if v = 0 then a else b := by
    have h0 : v = 0 ↔ v.toNat = 0 := eq_word_iff (k := 0) (by decide)
    split
    next hv => rw [h0.1 hv]; rfl
    next hv =>
      have hpos : v.toNat ≠ 0 := mt h0.2 hv
      rw [Nat.min_eq_left (show 1 ≤ v.toNat by omega)]
      rfl
  rw [← hvalue]
  exact stores_choice h

/-- An item that is a choice of three (R154). -/
theorem stores_choice3 {α : Type} {a b c : α} {f : α → Profile} (h : writeItem code n v p = some ((storeChoice a [b, c] v).into f)) :
    Stores code n v p (f (if v = 0 then a else if v = 1 then b else c)) (2 < v.toNat) := by
  have hvalue : (([a, b, c])[min 2 v.toNat]?).getD a = if v = 0 then a else if v = 1 then b else c := by
    have h0 : v = 0 ↔ v.toNat = 0 := eq_word_iff (k := 0) (by decide)
    have h1 : v = 1 ↔ v.toNat = 1 := eq_word_iff (k := 1) (by decide)
    split
    next hv => rw [h0.1 hv]; rfl
    next hv0 =>
      split
      next hv => rw [h1.1 hv]; rfl
      next hv1 =>
        have hne0 : v.toNat ≠ 0 := mt h0.2 hv0
        have hne1 : v.toNat ≠ 1 := mt h1.2 hv1
        rw [Nat.min_eq_left (show 2 ≤ v.toNat by omega)]
        rfl
  rw [← hvalue]
  exact stores_choice h

/-- An item that is a choice of four (R154). -/
theorem stores_choice4 {α : Type} {a b c d : α} {f : α → Profile}
    (h : writeItem code n v p = some ((storeChoice a [b, c, d] v).into f)) :
    Stores code n v p (f (if v = 0 then a else if v = 1 then b else if v = 2 then c else d)) (3 < v.toNat) := by
  have hvalue : (([a, b, c, d])[min 3 v.toNat]?).getD a = if v = 0 then a else if v = 1 then b else if v = 2 then c else d := by
    have h0 : v = 0 ↔ v.toNat = 0 := eq_word_iff (k := 0) (by decide)
    have h1 : v = 1 ↔ v.toNat = 1 := eq_word_iff (k := 1) (by decide)
    have h2 : v = 2 ↔ v.toNat = 2 := eq_word_iff (k := 2) (by decide)
    split
    next hv => rw [h0.1 hv]; rfl
    next hv0 =>
      split
      next hv => rw [h1.1 hv]; rfl
      next hv1 =>
        split
        next hv => rw [h2.1 hv]; rfl
        next hv2 =>
          have hne0 : v.toNat ≠ 0 := mt h0.2 hv0
          have hne1 : v.toNat ≠ 1 := mt h1.2 hv1
          have hne2 : v.toNat ≠ 2 := mt h2.2 hv2
          rw [Nat.min_eq_left (show 3 ≤ v.toNat by omega)]
          rfl
  rw [← hvalue]
  exact stores_choice h

end

/-! ## Values fitted to a list -/

/-- The largest number up to `n` of a rising list that starts at or below `n` (R11, R144). -/
theorem largestUpTo_spec {n : Nat} {l : List Nat} : ∀ {least : Nat}, (least :: l).Pairwise (· < ·) → least ≤ n →
    largestUpTo least n l ∈ least :: l ∧ largestUpTo least n l ≤ n ∧ ∀ x ∈ least :: l, x ≤ n → x ≤ largestUpTo least n l := by
  induction l with
  | nil =>
    intro least _ hleast
    exact ⟨List.mem_singleton_self _, hleast, fun x hx _ => (List.mem_singleton.1 hx).le⟩
  | cons a l ih =>
    intro least hrises hleast
    obtain ⟨hbelow, hrest⟩ := List.pairwise_cons.1 hrises
    by_cases ha : a ≤ n
    · have hstep : largestUpTo least n (a :: l) = largestUpTo a n l := by
        unfold largestUpTo
        rw [List.takeWhile_cons_of_pos (by simpa using ha), List.getLastD_cons]
      obtain ⟨hmem, hle, hmax⟩ := ih hrest ha
      rw [hstep]
      refine ⟨List.mem_cons_of_mem _ hmem, hle, fun x hx hxn => ?_⟩
      rcases List.mem_cons.1 hx with rfl | hx
      · exact (hbelow a List.mem_cons_self).le.trans (hmax a List.mem_cons_self ha)
      · exact hmax x hx hxn
    · have hstop : largestUpTo least n (a :: l) = least := by
        simp [largestUpTo, ha]
      rw [hstop]
      refine ⟨List.mem_cons_self, hleast, fun x hx hxn => ?_⟩
      rcases List.mem_cons.1 hx with rfl | hx
      · exact le_rfl
      · rcases List.mem_cons.1 hx with rfl | hx
        · exact absurd hxn ha
        · exact absurd (((List.pairwise_cons.1 hrest).1 x hx).le.trans hxn) ha

/-- A value fitted to a rising list (R11, R144). -/
theorem fittedTo_largestUpTo {least n : Nat} {l : List Nat} (hrises : (least :: l).Pairwise (· < ·)) :
    FittedTo (least :: l) least n (largestUpTo least n (least :: l)) := by
  by_cases hleast : least ≤ n
  · have hstep : largestUpTo least n (least :: l) = largestUpTo least n l := by
      unfold largestUpTo
      rw [List.takeWhile_cons_of_pos (by simpa using hleast), List.getLastD_cons]
    obtain ⟨hmem, hle, hmax⟩ := largestUpTo_spec hrises hleast
    rw [hstep]
    exact ⟨hmem, fun h => absurd hleast (by omega), fun _ => ⟨hle, hmax⟩⟩
  · have hstop : largestUpTo least n (least :: l) = least := by
      simp [largestUpTo, hleast]
    rw [hstop]
    exact ⟨List.mem_cons_self, fun _ => rfl, fun h => absurd h hleast⟩

/-- A fitted value is the value itself exactly when it is listed. -/
theorem FittedTo.eq_iff {l : List Nat} {least n c : Nat} (h : FittedTo l least n c) (hleast : ∀ x ∈ l, least ≤ x) : n ∈ l ↔ c = n := by
  obtain ⟨hmem, -, hfits⟩ := h
  constructor
  · intro hn
    obtain ⟨hle, hmax⟩ := hfits (hleast n hn)
    exact le_antisymm hle (hmax n hn le_rfl)
  · rintro rfl
    exact hmem

/-! ## The items -/

section
variable (v : BitVec 64) (p : Profile)

/-- A pool window base is brought into its range and rounded down (R11). -/
theorem stores_poolBase {code n : Nat} {f : Nat → Profile} (h : writeItem code n v p = some ((storePoolBase v).into f)) :
    Stores code n v p (f (if 4194303 < v.toNat then 4194288 else v.toNat - v.toNat % 16)) (4194303 < v.toNat ∨ v.toNat % 16 ≠ 0) := by
  refine Stores.of_into h ?_ ?_
  · unfold storePoolBase
    split
    · rfl
    · dsimp only; omega
  · unfold storePoolBase
    split
    next hbig => exact ⟨fun _ => .inl hbig, fun _ => rfl⟩
    next hbig => simp [hbig]

/-- A value fitted to a list is adjusted when it is not listed (R11, R144). -/
theorem stores_fitted {code n least : Nat} {l : List Nat} {x : Stored Nat} {f : Nat → Profile}
    (h : writeItem code n v p = some (x.into f)) (hvalue : x.value = largestUpTo least v.toNat (least :: l))
    (hadjusted : x.adjusted = !(least :: l).contains v.toNat) (hrises : (least :: l).Pairwise (· < ·)) :
    ∃ c, Stores code n v p (f c) (c ≠ v.toNat) ∧ FittedTo (least :: l) least v.toNat c := by
  have hfits := fittedTo_largestUpTo (n := v.toNat) hrises
  have hleast : ∀ x ∈ least :: l, least ≤ x := by
    intro x hx
    rcases List.mem_cons.1 hx with rfl | hx
    · exact le_rfl
    · exact ((List.pairwise_cons.1 hrises).1 x hx).le
  refine ⟨_, Stores.of_into h hvalue ?_, hfits⟩
  rw [hadjusted, Bool.not_eq_true', ← Bool.not_eq_true, List.contains_iff_mem]
  exact not_congr (hfits.eq_iff hleast)

/-- The item of a pool window at an index of its range. -/
theorem writeItem_pool_fin {code : Nat} (h : 0x01 ≤ code ∧ code ≤ 0x06) (n : Fin 4) : writeItem code n v p = writePool code v p n := by
  rw [writeItem_pool h, index?_fin]
  rfl

/-- The item of an exclusion window at an index of its range. -/
theorem writeItem_exclusion_fin {code : Nat} (h : 0x08 ≤ code ∧ code ≤ 0x0A) (n : Fin 2) :
    writeItem code n v p = writeExclusion code v p n := by
  rw [writeItem_exclusion h, index?_fin]
  rfl

/-- The item of a domain list entry at an index of its range. -/
theorem writeItem_domain_fin {code : Nat} (h : 0x13 ≤ code ∧ code ≤ 0x14) (n : Fin 4) :
    writeItem code n v p = writeDomain code v p n := by
  rw [writeItem_domain h, index?_fin]
  rfl

/-- The item of a port at an index of its range. -/
theorem writeItem_port_fin {code : Nat} (h : 0x20 ≤ code ∧ code ≤ 0x24) (n : Port) : writeItem code n v p = writePort code v p n := by
  rw [writeItem_port h, index?_fin]
  rfl

/-- The item of a capture input at an index of its range. -/
theorem writeItem_input_fin {code : Nat} (h : 0x40 ≤ code ∧ code ≤ 0x42) (n : Fin 2) :
    writeItem code n v p = writeInput code v p n := by
  rw [writeItem_input h, index?_fin]
  rfl

/-- The item of a pulse output at an index of its range. -/
theorem writeItem_output_fin {code : Nat} (h : 0x48 ≤ code ∧ code ≤ 0x4C) (n : Fin 4) :
    writeItem code n v p = writeOutput code v p n := by
  rw [writeItem_output h, index?_fin]
  rfl

/-- An item that exists once, at index 0. -/
theorem writeItem_single_zero {code : Nat} (h : SingleItem code) : writeItem code 0 v p = writeSingle code v p := by
  rw [writeItem_single h, if_pos rfl]

/-- The first four items of a pool window. -/
theorem stores_poolWindow (n : Fin 4) :
    Stores 0x01 n v p (p.setPool n { p.pool[n] with enable := v != 0 }) (1 < v.toNat) ∧
    Stores 0x02 n v p (p.setPool n { p.pool[n] with base := if 4194303 < v.toNat then 4194288 else v.toNat - v.toNat % 16 })
      (4194303 < v.toNat ∨ v.toNat % 16 ≠ 0) ∧
    (∃ c, Stores 0x03 n v p (p.setPool n { p.pool[n] with cellSize := c }) (c ≠ v.toNat) ∧
      FittedTo [16, 32, 64, 128, 256, 512, 1024, 2048] 16 v.toNat c) ∧
    StoresIn 0x04 n 1 65535 v p fun x => p.setPool n { p.pool[n] with cellCount := x } := by
  refine ⟨?_, ?_, ?_, ?_⟩
  · exact stores_flag (f := fun x => p.setPool n { p.pool[n] with enable := x }) (writeItem_pool_fin v p (by decide) n)
  · exact stores_poolBase v p (f := fun x => p.setPool n { p.pool[n] with base := x }) (writeItem_pool_fin v p (by decide) n)
  · exact stores_fitted v p (f := fun x => p.setPool n { p.pool[n] with cellSize := x }) (writeItem_pool_fin v p (by decide) n)
      rfl rfl (by decide)
  · exact stores_unsigned (writeItem_pool_fin v p (by decide) n) (by decide)

/-- The tracking items of a pool window, and the items of a domain list entry. -/
theorem stores_trackingAndDomain (n : Fin 4) :
    Stores 0x05 n v p (p.setPool n { p.pool[n] with ingressTracking := v != 0 }) (1 < v.toNat) ∧
    Stores 0x06 n v p (p.setPool n { p.pool[n] with processorTracking := v != 0 }) (1 < v.toNat) ∧
    (StoresIn 0x13 n 0 255 v p fun x => p.setDomain n { p.domains[n] with value := BitVec.ofNat 8 x }) ∧
    Stores 0x14 n v p (p.setDomain n { p.domains[n] with enable := v != 0 }) (1 < v.toNat) := by
  refine ⟨?_, ?_, ?_, ?_⟩
  · exact stores_flag (f := fun x => p.setPool n { p.pool[n] with ingressTracking := x }) (writeItem_pool_fin v p (by decide) n)
  · exact stores_flag (f := fun x => p.setPool n { p.pool[n] with processorTracking := x }) (writeItem_pool_fin v p (by decide) n)
  · exact stores_unsigned (writeItem_domain_fin v p (by decide) n) (by decide)
  · exact stores_flag (f := fun x => p.setDomain n { p.domains[n] with enable := x }) (writeItem_domain_fin v p (by decide) n)

/-- The items of an exclusion window and of a capture input. -/
theorem stores_exclusionAndInput (n : Fin 2) :
    Stores 0x08 n v p (p.setExclusion n { p.exclusion[n] with enable := v != 0 }) (1 < v.toNat) ∧
    (StoresIn 0x09 n 0 4194303 v p fun x => p.setExclusion n { p.exclusion[n] with base := x }) ∧
    (StoresIn 0x0A n 1 4194304 v p fun x => p.setExclusion n { p.exclusion[n] with size := x }) ∧
    Stores 0x40 n v p (p.setInput n { p.inputs[n] with enable := v != 0 }) (1 < v.toNat) ∧
    Stores 0x41 n v p (p.setInput n { p.inputs[n] with polarity := if v = 0 then .rising else .falling }) (1 < v.toNat) ∧
    Stores 0x42 n v p (p.setInput n { p.inputs[n] with inputDelay := max (-1000000) (min 1000000 v.toInt) })
      (v.toInt < -1000000 ∨ 1000000 < v.toInt) := by
  refine ⟨?_, ?_, ?_, ?_, ?_, ?_⟩
  · exact stores_flag (f := fun x => p.setExclusion n { p.exclusion[n] with enable := x }) (writeItem_exclusion_fin v p (by decide) n)
  · exact stores_unsigned (writeItem_exclusion_fin v p (by decide) n) (by decide)
  · exact stores_unsigned (writeItem_exclusion_fin v p (by decide) n) (by decide)
  · exact stores_flag (f := fun x => p.setInput n { p.inputs[n] with enable := x }) (writeItem_input_fin v p (by decide) n)
  · exact stores_choice2 (f := fun x => p.setInput n { p.inputs[n] with polarity := x }) (writeItem_input_fin v p (by decide) n)
  · exact stores_signed (f := fun x => p.setInput n { p.inputs[n] with inputDelay := x }) (writeItem_input_fin v p (by decide) n)
      (by decide)

/-- The items of a port. -/
theorem stores_port (n : Port) :
    (StoresIn 0x20 n 0 1048575 v p fun x => p.setPort n { p.ports[n] with latencyIn := x }) ∧
    (StoresIn 0x21 n 0 1048575 v p fun x => p.setPort n { p.ports[n] with latencyOut := x }) ∧
    Stores 0x22 n v p (p.setPort n { p.ports[n] with asymmetry := BitVec.ofInt 24 (max (-8388608) (min 8388607 v.toInt)) })
      (v.toInt < -8388608 ∨ 8388607 < v.toInt) ∧
    Stores 0x23 n v p (p.setPort n { p.ports[n] with delayMode := if v = 0 then .none else .link }) (1 < v.toNat) ∧
    Stores 0x24 n v p (p.setPort n { p.ports[n] with upstreamEligible := v != 0 }) (1 < v.toNat) := by
  refine ⟨?_, ?_, ?_, ?_, ?_⟩
  · exact stores_unsigned (writeItem_port_fin v p (by decide) n) (by decide)
  · exact stores_unsigned (writeItem_port_fin v p (by decide) n) (by decide)
  · exact stores_signed (f := fun x => p.setPort n { p.ports[n] with asymmetry := BitVec.ofInt 24 x })
      (writeItem_port_fin v p (by decide) n) (by decide)
  · exact stores_choice2 (f := fun x => p.setPort n { p.ports[n] with delayMode := x }) (writeItem_port_fin v p (by decide) n)
  · exact stores_flag (f := fun x => p.setPort n { p.ports[n] with upstreamEligible := x }) (writeItem_port_fin v p (by decide) n)

/-- The period of a pulse output: 0, or fitted to the divisors of 1,000 (R144). -/
theorem stores_period (n : Fin 4) :
    ∃ x, Stores 0x48 n v p (p.setOutput n { p.outputs[n] with period := x }) (x ≠ v.toNat) ∧ (v = 0 → x = 0) ∧
      (v ≠ 0 → FittedTo [1, 2, 4, 5, 8, 10, 20, 25, 40, 50, 100, 125, 200, 250, 500, 1000] 1 v.toNat x) := by
  have hitem : writeItem 0x48 n v p = some ((storePeriod v).into fun x => p.setOutput n { p.outputs[n] with period := x }) :=
    writeItem_output_fin v p (by decide) n
  by_cases h0 : v = 0
  · have hperiod : storePeriod v = { value := 0, adjusted := false } := if_pos h0
    have hzero : v.toNat = 0 := by rw [h0]; rfl
    rw [hperiod] at hitem
    exact ⟨0, Stores.of_into (f := fun x => p.setOutput n { p.outputs[n] with period := x }) hitem rfl (by simp [hzero]),
      fun _ => rfl, fun h => absurd h0 h⟩
  · have hperiod : storePeriod v = { value := largestUpTo 1 v.toNat pulsePeriods, adjusted := !pulsePeriods.contains v.toNat } :=
      if_neg h0
    rw [hperiod] at hitem
    obtain ⟨c, hstores, hfits⟩ := stores_fitted v p (f := fun x => p.setOutput n { p.outputs[n] with period := x })
      hitem rfl rfl (by decide)
    exact ⟨c, hstores, fun h => absurd h h0, fun _ => hfits⟩

/-- The items of a pulse output beside its period. -/
theorem stores_output (n : Fin 4) :
    (StoresIn 0x49 n 0 999999999 v p fun x => p.setOutput n { p.outputs[n] with offset := x }) ∧
    (StoresIn 0x4A n 1 65535 v p fun x => p.setOutput n { p.outputs[n] with width := x }) ∧
    Stores 0x4B n v p (p.setOutput n { p.outputs[n] with polarity := if v = 0 then .activeHigh else .activeLow }) (1 < v.toNat) ∧
    Stores 0x4C n v p
      (p.setOutput n { p.outputs[n] with gating := if v = 0 then .always else if v = 1 then .validOnly else .lockedOnly })
      (2 < v.toNat) := by
  refine ⟨?_, ?_, ?_, ?_⟩
  · exact stores_unsigned (writeItem_output_fin v p (by decide) n) (by decide)
  · exact stores_unsigned (writeItem_output_fin v p (by decide) n) (by decide)
  · exact stores_choice2 (f := fun x => p.setOutput n { p.outputs[n] with polarity := x }) (writeItem_output_fin v p (by decide) n)
  · exact stores_choice3 (f := fun x => p.setOutput n { p.outputs[n] with gating := x }) (writeItem_output_fin v p (by decide) n)

/-- An unsigned item that exists once. -/
theorem stores_singleUnsigned {code lo hi : Nat} {f : Nat → Profile} (hcode : SingleItem code) (hrange : lo ≤ hi)
    (h : writeSingle code v p = some ((storeUnsigned lo hi v).into f)) : StoresIn code 0 lo hi v p f :=
  stores_unsigned ((writeItem_single_zero v p hcode).trans h) hrange

/-- An identifier item: every value is stored as it is. -/
theorem stores_whole {code : Nat} {q : Profile} (hcode : SingleItem code)
    (h : writeSingle code v p = some { value := q, adjusted := false }) : Stores code 0 v p q False :=
  ⟨_, (writeItem_single_zero v p hcode).trans h, rfl, by simp⟩

end

/-- Settles O36: the item of each code, with its value brought into the item's range. -/
theorem itemsAreStored : Obligations.ItemsAreStored := by
  refine ⟨writeItem_isSome, stores_poolWindow, stores_trackingAndDomain, stores_exclusionAndInput, stores_port,
    fun v p n => ⟨stores_period v p n, stores_output v p n⟩, fun v p => ?_⟩
  have hsingle {code : Nat} (hcode : SingleItem code) := writeItem_single_zero v p hcode
  refine ⟨?_, ?_, ?_, ?_, ?_, ?_, ?_, ?_, ?_, ?_, ?_, ?_, ?_, ?_, ?_, ?_, ?_, ?_, ?_, ?_, ?_, ?_⟩
  case refine_5 => exact stores_whole v p (by decide) rfl
  case refine_6 => exact stores_choice4 (f := fun x => { p with rounding := x }) (hsingle (by decide))
  case refine_11 => exact stores_choice2 (f := fun x => { p with unordered := x }) (hsingle (by decide))
  case refine_12 => exact stores_flag (f := fun x => p.setDiscipline { p.discipline with enable := x }) (hsingle (by decide))
  case refine_13 => exact stores_choice3 (f := fun x => p.setDiscipline { p.discipline with mode := x }) (hsingle (by decide))
  case refine_14 => exact stores_whole v p (by decide) rfl
  all_goals exact stores_singleUnsigned v p (by decide) (by decide) rfl

end Sys2Proof.Machine
end

section
/-! The data words of the report blocks (10 section 10.4; 11 section 11.4), field by field. -/

namespace Sys2Proof.Machine

/-! ## Words by their fields -/

/-- Two words of bits set side by side, as a number. -/
theorem toNat_append_mul {m n : Nat} (x : BitVec m) (y : BitVec n) : (x ++ y).toNat = x.toNat * 2 ^ n + y.toNat := by
  rw [BitVec.toNat_append, ← Nat.shiftLeft_add_eq_or_of_lt y.isLt, Nat.shiftLeft_eq]

/-- A word of four octets, as a number (R1). -/
theorem octetsWord_toNat (a b c d : Octet) :
    (octetsWord a b c d).toNat = a.toNat * 16777216 + b.toNat * 65536 + c.toNat * 256 + d.toNat := by
  unfold octetsWord
  rw [toNat_append_mul, toNat_append_mul, toNat_append_mul]
  omega

/-- A word of four fields that fit their octets, as a number (R177). -/
theorem octetFields_toNat {a b c d : Nat} (ha : a < 256) (hb : b < 256) (hc : c < 256) (hd : d < 256) :
    (octetFields a b c d).toNat = a * 16777216 + b * 65536 + c * 256 + d := by
  unfold octetFields
  rw [octetsWord_toNat, BitVec.toNat_ofNat, BitVec.toNat_ofNat, BitVec.toNat_ofNat, BitVec.toNat_ofNat,
    Nat.mod_eq_of_lt ha, Nat.mod_eq_of_lt hb, Nat.mod_eq_of_lt hc, Nat.mod_eq_of_lt hd]

/-- A word of two upper fields that fit their octets, as a number (R177). -/
theorem octetFields_upper_toNat {a b : Nat} (ha : a < 256) (hb : b < 256) :
    (octetFields a b 0 0).toNat = a * 16777216 + b * 65536 := by
  rw [octetFields_toNat ha hb (by decide) (by decide)]
  omega

/-- The two words of a 64-bit field, joined (R1). -/
theorem highWord_append_lowWord (x : BitVec 64) : (highWord x ++ lowWord x : BitVec 64) = x := by
  unfold highWord lowWord
  rw [BitVec.extractLsb'_append_extractLsb'_eq_extractLsb' (by decide)]
  exact BitVec.extractLsb'_eq_self

/-- The three words of a 96-bit field, joined (R1). -/
theorem threeWords_append (x : BitVec 96) :
    (x.extractLsb' 64 32 ++ x.extractLsb' 32 32 ++ x.extractLsb' 0 32 : BitVec 96) = x := by
  rw [BitVec.extractLsb'_append_extractLsb'_eq_extractLsb' (by decide),
    BitVec.extractLsb'_append_extractLsb'_eq_extractLsb' (by decide)]
  exact BitVec.extractLsb'_eq_self

/-- The rate limit and the window length of a bank in its ranges (section 9.3). -/
theorem rateLimit_and_windowLength_le {s : State} (hprofile : ProfileInv s) :
    s.bank.discipline.rateLimit ≤ 500 ∧ s.bank.windowLength ≤ 8 := by
  obtain ⟨-, -, -, -, -, -, -, -, -, hwindow, -, -, hdiscipline, -, -⟩ := bank_inRange hprofile
  obtain ⟨-, -, -, -, -, -, -, -, -, -, -, hrate⟩ := hdiscipline
  exact ⟨hrate, hwindow⟩

/-- A rate inside the active limit fits its word (R44, R177). -/
theorem toInt_ofInt_rate {s : State} (hprofile : ProfileInv s) {r : Int} (hlow : -s.rateLimit ≤ r) (hhigh : r ≤ s.rateLimit) :
    (BitVec.ofInt 32 r).toInt = r := by
  have hlimit := rateLimit_le (rateLimit_and_windowLength_le hprofile).1
  rw [BitVec.toInt_ofInt]
  refine Int.bmod_eq_of_le ?_ ?_
  · omega
  · omega

/-! ## Codes -/

theorem boolField_lt (b : Bool) : boolField b < 2 := by
  cases b <;> decide

theorem disciplineCode_lt (d : DisciplineState) : d.code < 4 := by
  cases d <;> decide

theorem sourceCode_lt (x : ActiveSource) : x.code < 3 := by
  cases x <;> decide

theorem bankCode_lt (x : BankName) : x.code < 2 := by
  cases x <;> decide

theorem swapCode_lt (r : SwapRequest) : r.code < 3 := by
  cases r with
  | none => decide
  | waiting => decide
  | pending slot => exact Nat.lt_succ_self 2

theorem sampleCode_lt (x : SampleClass) : x.code < 5 := by
  cases x <;> decide

theorem resultCode_lt (x : CommandResult) : x.code < 9 := by
  cases x <;> decide

/-! ## The blocks -/

/-- The port summary: two bits to a port (section 11.4). -/
theorem portSummary_sum (f : Port → Nat) (hf : ∀ p, f p < 4) :
    (allPorts.map fun p => f p * 4 ^ p.val).sum < 4096 ∧
    ∀ p : Port, (allPorts.map fun p => f p * 4 ^ p.val).sum / 2 ^ (2 * p.val) % 2 = f p % 2 ∧
      (allPorts.map fun p => f p * 4 ^ p.val).sum / 2 ^ (2 * p.val + 1) % 2 = f p / 2 := by
  have hsum : (allPorts.map fun p => f p * 4 ^ p.val).sum = f 0 + f 1 * 4 + f 2 * 16 + f 3 * 64 + f 4 * 256 + f 5 * 1024 := by
    simp [allPorts]
    ring
  have h0 := hf 0
  have h1 := hf 1
  have h2 := hf 2
  have h3 := hf 3
  have h4 := hf 4
  have h5 := hf 5
  rw [hsum]
  refine ⟨by omega, fun p => ?_⟩
  match p with
  | 0 | 1 | 2 | 3 | 4 | 5 => simp; omega

/-- The port summary word of the Status block. -/
def portSummaryWord (s : State) : Word := BitVec.ofNat 32 (allPorts.map (portSummary s)).sum

/-- The port summary word, bit by bit. -/
theorem portSummaryWord_spec (s : State) : (portSummaryWord s).toNat < 4096 ∧
    ∀ p : Port, ((portSummaryWord s).getLsbD (2 * p.val) = true ↔ s.bank.ports[p].delayMode = .link) ∧
      (portSummaryWord s).getLsbD (2 * p.val + 1) = s.delays[p].valid := by
  have hfits (p : Port) : boolField (s.bank.ports[p].delayMode == .link) + 2 * boolField s.delays[p].valid < 4 := by
    have hmode := boolField_lt (s.bank.ports[p].delayMode == .link)
    have hvalid := boolField_lt s.delays[p].valid
    omega
  obtain ⟨hlt, hbits⟩ := portSummary_sum _ hfits
  have hword : (portSummaryWord s).toNat = (allPorts.map (portSummary s)).sum := by
    unfold portSummaryWord
    rw [BitVec.toNat_ofNat]
    exact Nat.mod_eq_of_lt (Nat.lt_trans hlt (by decide))
  rw [hword]
  refine ⟨hlt, fun p => ?_⟩
  obtain ⟨hmode, hvalid⟩ := hbits p
  have hbit (i : Nat) : (portSummaryWord s).getLsbD i = decide ((allPorts.map (portSummary s)).sum / 2 ^ i % 2 = 1) := by
    rw [BitVec.getLsbD, hword, Nat.testBit_eq_decide_div_mod_eq]
  rw [hbit, hbit]
  constructor
  · rw [show (allPorts.map (portSummary s)).sum / 2 ^ (2 * p.val) % 2 = _ from hmode]
    cases hm : s.bank.ports[p].delayMode <;> cases s.delays[p].valid <;> decide
  · rw [show (allPorts.map (portSummary s)).sum / 2 ^ (2 * p.val + 1) % 2 = _ from hvalid]
    cases s.bank.ports[p].delayMode <;> cases s.delays[p].valid <;> decide

/-- The Status block (section 11.4). -/
theorem statusBlock_holds {s : State} (htable : TableInv s) : ∃ x ports y : Word,
    blockData .status s =
      [s.now.sec, BitVec.ofNat 32 s.now.ns.val, s.now.frac.setWidth 32, s.report.flags.setWidth 32,
        s.report.enables.setWidth 32, x, ports, y] ∧
    x.toNat = s.disc.state.code * 16777216 + boolField s.disc.state.timeValid * 65536 + s.profiles.active.code * 256 +
      s.profiles.swap.code ∧
    ports.toNat < 4096 ∧
    (∀ p : Port, (ports.getLsbD (2 * p.val) = true ↔ s.bank.ports[p].delayMode = .link) ∧
      ports.getLsbD (2 * p.val + 1) = s.delays[p].valid) ∧
    y.toNat = s.table.entries.length * 65536 + s.straps.base.toNat := by
  obtain ⟨hlt, hbits⟩ := portSummaryWord_spec s
  refine ⟨octetFields s.disc.state.code (boolField s.disc.state.timeValid) s.profiles.active.code s.profiles.swap.code,
    portSummaryWord s, BitVec.ofNat 32 (s.table.entries.length * 65536 + s.straps.base.toNat), ?_, ?_, hlt, hbits, ?_⟩
  · change statusWords s = _
    unfold statusWords
    rw [BitVec.ofNat_toNat, BitVec.ofNat_toNat, BitVec.ofNat_toNat]
    rfl
  · have hstate := disciplineCode_lt s.disc.state
    have hvalid := boolField_lt s.disc.state.timeValid
    have hbank := bankCode_lt s.profiles.active
    have hswap := swapCode_lt s.profiles.swap
    exact octetFields_toNat (by omega) (by omega) (by omega) (by omega)
  · have hlength := htable.1
    have hbase := s.straps.base.isLt
    rw [BitVec.toNat_ofNat]
    exact Nat.mod_eq_of_lt (by omega)

/-- The word of the last sample (section 11.4). -/
def lastSampleWord (l : LastSample) : Word :=
  match l.origin with
  | .network p => octetFields l.cls.code 0 p.val 0
  | .input => octetFields l.cls.code 1 0 0

/-- The word of the last sample, as a number. -/
theorem lastSampleWord_toNat (l : LastSample) : (lastSampleWord l).toNat =
    l.cls.code * 16777216 + (match l.origin with | .network p => p.val * 256 | .input => 65536) := by
  have hcls := sampleCode_lt l.cls
  unfold lastSampleWord
  cases l.origin with
  | network p =>
    have hp := p.isLt
    dsimp only
    rw [octetFields_toNat (by omega) (by omega) (by omega) (by omega)]
    omega
  | input =>
    dsimp only
    rw [octetFields_upper_toNat (by omega) (by omega)]

/-- The value of the last sample, 0 before the first (section 11.4). -/
def lastTheta (s : State) : BitVec 96 :=
  match s.disc.last with
  | some l => BitVec.ofInt 96 l.theta
  | none => 0

/-- The words of the Discipline block, by their names. -/
theorem disciplineBlock_eq (s : State) : blockData .discipline s =
    [octetFields s.disc.state.code s.disc.source.code (boolField s.disc.hold) (boolField s.disc.latched.isSome),
      octetFields s.disc.lockCount s.disc.rejectCount 0 0, BitVec.ofInt 32 s.time.rho, highWord (s.disc.latched.getD 0),
      lowWord (s.disc.latched.getD 0), BitVec.ofInt 32 s.disc.rhoI, (s.disc.last.map lastSampleWord).getD 0,
      (lastTheta s).extractLsb' 64 32, (lastTheta s).extractLsb' 32 32, (lastTheta s).extractLsb' 0 32] := by
  change disciplineWords s = _
  unfold disciplineWords lastTheta
  dsimp only
  cases s.disc.last <;> rfl

/-- The first word of the Discipline block, as a number. -/
theorem disciplineHead_toNat (d : Discipline) :
    (octetFields d.state.code d.source.code (boolField d.hold) (boolField d.latched.isSome)).toNat =
      d.state.code * 16777216 + d.source.code * 65536 + boolField d.hold * 256 + boolField d.latched.isSome := by
  have hstate := disciplineCode_lt d.state
  have hsource := sourceCode_lt d.source
  have hhold := boolField_lt d.hold
  have hlatched := boolField_lt d.latched.isSome
  exact octetFields_toNat (by omega) (by omega) (by omega) (by omega)

/-- The Port p block (section 11.4). -/
theorem portBlock_holds {s : State} (hdelay : DelayInv s) (hprofile : ProfileInv s) (p : Port) : ∃ x high low : Word,
    blockData (.port p) s =
      [x, high, low, s.report.ports[p].tracked, s.report.ports[p].patched, s.report.ports[p].passed,
        s.report.ports[p].delayAccepted, s.report.ports[p].delayRejected] ∧
    x.toNat = (if s.delays[p].valid then 1 else 0) * 16777216 + s.delays[p].ring.length * 65536 ∧
    (high ++ low : BitVec 64) = BitVec.ofNat 64 s.delays[p].delay := by
  obtain ⟨-, -, -, -, hring, -, -⟩ := hdelay p
  have hwindow := (rateLimit_and_windowLength_le hprofile).2
  have hvalid := boolField_lt s.delays[p].valid
  refine ⟨octetFields (boolField s.delays[p].valid) s.delays[p].ring.length 0 0, highWord (BitVec.ofNat 64 s.delays[p].delay),
    lowWord (BitVec.ofNat 64 s.delays[p].delay), rfl, ?_, highWord_append_lowWord _⟩
  exact octetFields_upper_toNat (by omega) (by omega)

/-- A word of the Commands block (section 11.4). -/
theorem commandsBlock_word (s : State) (n : Fin 16) : (blockData .commands s)[n.val]? = some (s.monitor.status[n]).word := by
  change (s.monitor.status.toList.map SlotStatus.word)[n.val]? = _
  rw [List.getElem?_map, List.getElem?_eq_getElem (by rw [Vector.length_toList]; exact n.isLt), Vector.getElem_toList]
  rfl

/-- A slot status word, as a number (section 11.2). -/
theorem slotStatusWord_toNat (x : SlotStatus) : x.word.toNat = x.result.code * 16777216 + x.tag.toNat * 65536 + x.code.toNat * 256 := by
  have hresult := resultCode_lt x.result
  unfold SlotStatus.word
  rw [octetsWord_toNat, BitVec.toNat_ofNat, Nat.mod_eq_of_lt (show x.result.code < 2 ^ 8 by omega)]
  exact Nat.add_zero _

/-- The words of a capture record (section 11.4). -/
theorem captureWords_eq (c : CaptureInput) : captureWords c =
    [c.time.sec, BitVec.ofNat 32 c.time.ns.val, c.count ++ c.time.frac, if c.pending then 0x01000000 else 0] := by
  unfold captureWords
  cases c.pending <;> rfl

/-- Settles O13: the words of the eleven blocks, block by block. -/
theorem reportBlocksHold : Obligations.ReportBlocksHold := by
  intro s hcount hdelay htable hprofile hrate
  refine ⟨?_, ?_, portBlock_holds hdelay hprofile, fun n => ⟨_, commandsBlock_word s n, slotStatusWord_toNat _⟩, ?_, ?_, rfl⟩
  · obtain ⟨x, ports, y, hwords, hx, hlt, hbits, hy⟩ := statusBlock_holds htable
    refine ⟨x, ports, y, hwords, ?_, hlt, hbits, hy⟩
    have hvalid : boolField s.disc.state.timeValid = if s.disc.state = .locked ∨ s.disc.state = .holdover then 1 else 0 := by
      cases s.disc.state <;> rfl
    rw [hvalid] at hx
    exact hx
  · obtain ⟨hlock, hreject, -, -⟩ := hcount
    obtain ⟨hrhoLow, hrhoHigh, hrhoILow, hrhoIHigh⟩ := hrate
    have hlatched : boolField s.disc.latched.isSome = if s.disc.latched = none then 0 else 1 := by
      cases s.disc.latched <;> rfl
    have hhead := (disciplineHead_toNat s.disc).trans (congrArg (_ + ·) hlatched)
    refine ⟨_, _, _, _, _, _, _, _, _, _, disciplineBlock_eq s, hhead, octetFields_upper_toNat (by omega) (by omega),
      toInt_ofInt_rate hprofile hrhoLow hrhoHigh, toInt_ofInt_rate hprofile hrhoILow hrhoIHigh, highWord_append_lowWord _,
      fun hnone => ?_, fun l hl => ?_⟩
    · unfold lastTheta
      rw [hnone]
      exact ⟨rfl, rfl, rfl, rfl⟩
    · rw [threeWords_append]
      unfold lastTheta
      rw [hl]
      exact ⟨lastSampleWord_toNat l, rfl⟩
  · change (s.monitor.status.toList.map SlotStatus.word).length = 16
    rw [List.length_map, Vector.length_toList]
  · change captureWords s.captures[0] ++ captureWords s.captures[1] = _
    rw [captureWords_eq, captureWords_eq]
    rfl

end Sys2Proof.Machine
end
